-- ==== Sys2Proof/Word.lean ====
section
/-! DEFINITION. The word types of the H1: bytes, 32-bit BAR0 registers, 64-byte granules and the
device identifiers (R4, R5). Field access, byte order and sign extension stand in
Sys2Proof/Machine/Bits.lean. -/

namespace Sys2Proof

/-- One byte of memory. -/
abbrev Byte := BitVec 8

/-- One 32-bit BAR0 register (Register cards of 00_scope.md). -/
abbrev Word := BitVec 32

/-- A 64-byte granule, byte 0 in the least significant bits (R5, R363). -/
abbrev Granule := BitVec 512

/-- A chip's fingerprint (R553). -/
abbrev Fingerprint := BitVec 64

end Sys2Proof
end

