-- ==== Sys2Proof/Syntax.lean ====
section
/-! DEFINITION. The commands of the H1: one constructor for each row of spec/opcode_table.json, in the
table's order, with the operands that the row's rules name. A command is an event at the edge of the
block (a bus access, a flit, a pin, a measurement) or an indivisible step of one of its engines. -/

namespace Sys2Proof

/-- What the measurement circuits report at a tick (R544, R547, R551) and what the outside world answers
in the tick: the environment's part of TICK. -/
structure TickObs where
  /-- Stretched cycles of an episode that still lasts at the tick, not yet counted in the debt (R550). -/
  stretched : Nat
  /-- Energy drawn at the input in the frame just ended, in units of 100 µJ (R547). -/
  energy : Nat
  /-- Mean input power over the frame just ended, in W (PWR.INPUT.WATTS). -/
  watts : BitVec 16
  /-- Input voltage in units of 10 mV (PWR.INPUT.VOLTS). -/
  volts : BitVec 16
  /-- Mean input power over the last second, in W (PWR.MEAN.SECOND). -/
  meanSecond : BitVec 16
  /-- Mean input power over the last 10 ms, in W (PWR.MEAN.PEAK10 keeps the highest). -/
  mean10 : BitVec 16
  /-- Coolant inlet in °C (PWR.THERM.INLET). -/
  inlet : BitVec 8
  /-- Temperatures of the 37 sensors in °C, by endpoint number (R100, R551). -/
  temps : List (BitVec 8)
  /-- Rings whose head entry the host fails to deliver, or delivers poisoned, in this tick (R536). -/
  hostBad : List Nat
  /-- Rings whose head entry is a bundle-store copy whose Falcon-1024 signature verifies (R556). -/
  sigOk : List Nat
  /-- The consistency check of the fault queue's pointers fails (R500). -/
  queueCheckFails : Bool
  /-- Nanoseconds since the previous tick, for the rule that counts time (R546). -/
  elapsedNs : Nat
  /-- Bit i: laser-feed receptacle LF(i) holds a mated connector (R605). -/
  seated : BitVec 8 := 0
  deriving DecidableEq, Repr

/-- The master of a register write or an order (Table 11.4). -/
inductive Master where
  | management
  | host
  | peer
  | device
  deriving DecidableEq, Repr

/-- The events that R525 applies as a reset order. -/
inductive CxlReset where
  | linkDown
  | surpriseRemoval
  | hotReset
  | functionLevelReset
  | perst
  deriving DecidableEq, Repr

/-- The snoop kinds of the CXL.cache edge that R522 answers. -/
inductive SnoopKind where
  | data
  | invalidate
  | current
  deriving DecidableEq, Repr

/-- The commands. -/
inductive Instr where
  -- 01, 02, 07: the tick and what it drives
  /-- TICK (R503). -/
  | tick (o : TickObs)
  /-- SETTLE_TIMEOUT_EXPIRY (R336). -/
  | settleTimeoutExpiry
  /-- REVERT_COMPLETE (R353). -/
  | revertComplete
  /-- DOORBELL (R528): the tail written to the ring's doorbell, with the bytes of host memory that the
  host has written since the last command (log entry 9). -/
  | doorbell (ring : Fin 64) (tail : BitVec 32) (writes : List (Nat × Byte))
  /-- RING_ENABLE (R527): a write of RING_CFG of a ring by a master. -/
  | ringEnable (src : Master) (ring : Fin 64) (value : BitVec 32)
  /-- RUN (R31): the entry is examined as the head of its ring. -/
  | run (ring : Fin 64) (entry : BitVec 1024)
  /-- LOAD_CHARTER (R109). -/
  | loadCharter (ring : Fin 64) (entry : BitVec 1024)
  /-- CHARTER_IMAGE_READ (R107): the loader's read ends; the host delivered it intact, and the
  signature verified. -/
  | charterImageRead (readOk sigOk : Bool)
  /-- COPY_HOST_TO_DEVICE (R531). -/
  | copyHostToDevice (ring : Fin 64) (entry : BitVec 1024) (hostOk : Bool)
  /-- COPY_DEVICE_TO_HOST (R531). -/
  | copyDeviceToHost (ring : Fin 64) (entry : BitVec 1024) (hostOk : Bool)
  /-- COPY_TO_BUNDLE_STORE (R532): `sigOk` is the verdict of R556 on the signature block. -/
  | copyToBundleStore (ring : Fin 64) (entry : BitVec 1024) (sigOk : Bool)
  /-- READ_TALLIES (R533). -/
  | readTallies (ring : Fin 64) (entry : BitVec 1024) (hostOk : Bool)
  /-- RELEASE (R356). -/
  | release (ring : Fin 64) (entry : BitVec 1024)
  /-- SKIP (R351, R356). -/
  | skip (ring : Fin 64) (entry : BitVec 1024)
  /-- SNAPSHOT_REQUEST (R486). -/
  | snapshotRequest (ring : Fin 64) (entry : BitVec 1024)
  /-- MIRROR_REQUEST (R486). -/
  | mirrorRequest (ring : Fin 64) (entry : BitVec 1024)
  /-- REFILL (R486). -/
  | refill (ring : Fin 64) (entry : BitVec 1024)
  /-- RESTORE (R486). -/
  | restore (ring : Fin 64) (entry : BitVec 1024)
  /-- RESTORE_COMPLETE (R483). -/
  | restoreComplete
  /-- RECONCILE (R484, R486). -/
  | reconcile (ring : Fin 64) (entry : BitVec 1024)
  /-- RECONCILE_RESULT (R485): the replayed step has been compared. -/
  | reconcileResult
  /-- CANCEL (R486). -/
  | cancel (ring : Fin 64) (entry : BitVec 1024)
  /-- STOP_COMMAND (R534). -/
  | stopCommand (ring : Fin 64) (entry : BitVec 1024)
  /-- COMMAND_COMPLETION (R535): the oldest finished command's record is written. -/
  | commandCompletion (writeOk : Bool)
  -- 01: the bundle sequencer
  /-- RUN_BUNDLE (R49). -/
  | runBundle
  /-- LOOP_OPEN (R55). -/
  | loopOpen
  /-- LOOP_CLOSE (R55). -/
  | loopClose
  /-- TICK_WAIT (R52). -/
  | tickWait
  /-- STEP_END (R53). -/
  | stepEnd
  /-- CONTINUE (R50) on a unit (Table 1.8). -/
  | continue_ (target : BitVec 7) (span : Nat)
  /-- SET_TAG (R76, R77). -/
  | setTag (group : Fin 64) (arg : BitVec 16) (span : Nat)
  /-- FILL_QUEUE (R61). -/
  | fillQueue (group : Fin 64) (arg : BitVec 16) (span : Nat)
  /-- FILL_WINDOW (R65). -/
  | fillWindow (group : Fin 64) (arg : BitVec 16) (span : Nat)
  /-- FILL_RETIRE (R66). -/
  | fillRetire (group : Fin 64) (arg : BitVec 16) (span : Nat)
  /-- FILL_RUN_AHEAD_START (R67, R68): a tile of the group has `cycles` of slack. -/
  | fillRunAheadStart (group : Fin 64) (tile : Nat) (cycles : Nat)
  /-- FWD_WINDOW (R183). -/
  | fwdWindow (group : Fin 64) (arg : BitVec 16) (span : Nat)
  /-- FWD_WLOAD (R181). -/
  | fwdWload (group : Fin 64) (arg : BitVec 16) (span : Nat)
  /-- FWD_CLEAR (R181). -/
  | fwdClear (group : Fin 64) (arg : BitVec 16) (span : Nat)
  /-- BWD_WINDOW (R275). -/
  | bwdWindow (group : Fin 64) (arg : BitVec 16) (span : Nat)
  /-- BWD_BLOAD (R270). -/
  | bwdBload (group : Fin 64) (arg : BitVec 16) (span : Nat)
  /-- BWD_CLEAR (R269). -/
  | bwdClear (group : Fin 64) (arg : BitVec 16) (span : Nat)
  /-- BWD_DEPOSIT (R283). -/
  | bwdDeposit (group : Fin 64) (arg : BitVec 16) (span : Nat)
  /-- MINT_LOAD (R239). -/
  | mintLoad (stack : Fin 12) (arg : BitVec 16) (span : Nat)
  /-- MINT_STORE (R239). -/
  | mintStore (stack : Fin 12) (arg : BitVec 16) (span : Nat)
  /-- MINT_SCALES (R239). -/
  | mintScales (stack : Fin 12) (arg : BitVec 16) (span : Nat)
  /-- DMA_COPY (R397). -/
  | dmaCopy (stack : Fin 12) (arg : BitVec 16) (span : Nat)
  /-- LAY_COPY (R398). -/
  | layCopy (stack : Fin 12) (arg : BitVec 16) (span : Nat)
  /-- COPY_COMPLETE (R35): the oldest admitted copy of an engine ends. Engines are numbered as the
  queues 0 to 36 of Table 14.1. -/
  | copyComplete (engine : Fin 37)
  /-- STREAM_SEND (R439). -/
  | streamSend (die : Fin 4) (arg : BitVec 16) (span : Nat)
  /-- STREAM_EXPECT (R443). -/
  | streamExpect (die : Fin 4) (arg : BitVec 16) (span : Nat)
  /-- STREAM_EXPECT_DEADLINE (R443): the cycle of the earliest expectation is reached. -/
  | streamExpectDeadline
  /-- STREAM_BIND (R440). -/
  | streamBind (die : Fin 4) (arg : BitVec 16) (span : Nat)
  /-- ROW_RUN (R293). -/
  | rowRun (die : Fin 4) (arg : BitVec 16) (span : Nat)
  -- 07: ledger, clearing, settlement
  /-- LOSS_ADD (R329). -/
  | lossAdd (arg : BitVec 16) (span : Nat)
  /-- CLEAR (R324). -/
  | clear (arg : BitVec 16) (span : Nat)
  /-- CLEARING_MESSAGE_APPLY (R325): the message that landed on a clearing stream is applied. -/
  | clearingMessageApply (stream : BitVec 12)
  /-- CLEARING_ROUND_DEADLINE (R325): a round whose message has not arrived reaches its deadline. -/
  | clearingRoundDeadline
  /-- CLEARING_COMPLETE (R326). -/
  | clearingComplete
  /-- REPORT (R338). -/
  | report (arg : BitVec 16) (span : Nat)
  /-- DEFERRED_REPORT_SEND (R338). -/
  | deferredReportSend
  /-- REPORT_RECEIVED (R321). -/
  | reportReceived (stream : BitVec 12) (msg : BitVec 256)
  /-- SETTLE (R342). -/
  | settle (arg : BitVec 16) (span : Nat)
  /-- SETTLE_CHUNK_COMPLETE (R333). -/
  | settleChunkComplete
  /-- SETTLEMENT_OUTSIDE_PROGRAM (R341). -/
  | settlementOutsideProgram
  -- 09: links
  /-- FLIT_RECEIVE (R407, R414): a codeword of a lane; `decoded` when the FEC decoder could correct it, the number of symbols that it
  corrected, and the flit that it gives: the header, and the 628 bytes behind it, payload and CRC-32C. -/
  | flitReceive (port : Fin 12) (lane : Fin 8) (decoded : Bool) (symbols : Nat) (hdr : BitVec 96) (body : List Byte)
  /-- ACK_TIMEOUT_RESEND (R415). -/
  | ackTimeoutResend (port : Fin 12) (fseq : BitVec 16)
  /-- MESSAGE_DEADLINE_DISCARD (R29): a message that arrives, or is held, at its deadline. -/
  | messageDeadlineDiscard (port : Fin 12)
  /-- CONTROL_FLIT_RECEIVE (R421): the flit's 624 bytes and its arrival time since this chip's tick, in
  reference periods and 1/16ths. -/
  | controlFlitReceive (port : Fin 12) (lane : Fin 8) (flit : List Byte) (arrival : Int)
  /-- LANE_TRAINED (R417). -/
  | laneTrained (port : Fin 12) (lane : Fin 8) (peer : Fingerprint) (peerPort : BitVec 4)
  /-- LANE_TRAIN_TIMEOUT (R417). -/
  | laneTrainTimeout (port : Fin 12) (lane : Fin 8)
  /-- CONTROL_FLIT_MISSED (R418). -/
  | controlFlitMissed (port : Fin 12) (lane : Fin 8)
  /-- CODEWORD_LOCK_LOSS (R418). -/
  | codewordLockLoss (port : Fin 12) (lane : Fin 8)
  /-- HAIL_SEND (R429). -/
  | hailSend (port : Fin 12)
  /-- HAIL (R430): a complete hail; `certOk` and `sigOk` are the verdicts of R554 and R552 on its
  certificate and its signature. -/
  | hail (port : Fin 12) (body : List Byte) (certOk sigOk : Bool)
  /-- UPDATE_HAIL (R430). -/
  | updateHail (port : Fin 12) (body : List Byte) (certOk sigOk : Bool)
  /-- FAREWELL (R436). -/
  | farewell (port : Fin 12) (body : List Byte) (certOk sigOk : Bool)
  /-- DOMAIN_WRITE (R435): a write of LNK.DOMAIN_LO or LNK.DOMAIN_HI. -/
  | domainWrite (src : Master) (high : Bool) (value : BitVec 32)
  /-- YIELD (R428). -/
  | yield (src : Master)
  /-- PARTNER_FREE (R433). -/
  | partnerFree (src : Master)
  /-- FEED_A_LOSS (R406). -/
  | feedALoss (die : Fin 4)
  /-- BOTH_FEEDS_LOST (R406). -/
  | bothFeedsLost (die : Fin 4)
  -- 11: faults and orders
  /-- FAULT_HANDLE (R497). -/
  | faultHandle
  /-- CONTROL_DIE_UE (R500): an uncorrectable error in the control die's own state, or a failed queue
  parity check (`parity`). -/
  | controlDieUE (parity : Bool)
  /-- ORDER_STOP_AT_TICK (R507). -/
  | orderStopAtTick (src : Master) (value : BitVec 32)
  /-- ORDER_HALT_NOW (R514). -/
  | orderHaltNow (src : Master) (value : BitVec 32)
  /-- ORDER_FABRIC_STOP (R510). -/
  | orderFabricStop (src : Master) (value : BitVec 32)
  /-- ORDER_RESUME (R517). -/
  | orderResume (src : Master) (value : BitVec 32)
  /-- ORDER_RESET (R519). -/
  | orderReset (src : Master) (value : BitVec 32)
  /-- STOP_COMPLETE (R509). -/
  | stopComplete
  /-- HALTED (R514): each unit's stop cycle, counted from h, in the order of R100. -/
  | halted (offsets : List (Fin 49))
  /-- CXL_RESET_EVENT (R525). -/
  | cxlResetEvent (kind : CxlReset)
  -- 12, 08: the host edge
  /-- HDM_DECODER_COMMIT (R524): window base and size in units of 256 MiB, DPA skip in bytes. -/
  | hdmDecoderCommit (i : Fin 2) (base : Nat) (size : Nat) (skip : Nat)
  /-- CONFIG_REQUEST (R539). -/
  | configRequest
  /-- CXL_MEM_READ (R378): a granule at a host address; `errs` is the number of symbols found in error
  in its codeword (R364). -/
  | cxlMemRead (haddr : Nat) (errs : Nat)
  /-- CXL_MEM_WRITE (R379): a granule with its byte enables and poison. -/
  | cxlMemWrite (haddr : Nat) (enables : BitVec 64) (data : BitVec 512) (poison : Bool)
  /-- BAR0_UNOCCUPIED_ACCESS (R10). -/
  | bar0UnoccupiedAccess (addr : BitVec 24) (write : Bool)
  /-- LOW_WORD_READ (R11). -/
  | lowWordRead (addr : BitVec 24)
  /-- HIGH_WORD_WRITE (R12). -/
  | highWordWrite (addr : BitVec 24) (value : BitVec 32)
  /-- REGISTER_WRITE (R13): a BAR0 write by the host. -/
  | registerWrite (addr : BitVec 24) (value : BitVec 32)
  /-- SCRUB_READ (R368): the scrubber reads a granule of a stack and finds `errs` symbols in error. -/
  | scrubRead (stack : Fin 12) (errs : Nat)
  /-- CORRECTED_WRITEBACK (R365). -/
  | correctedWriteback (stack : Fin 12)
  -- 10: protection
  /-- SHARD_SEND (R459). -/
  | shardSend
  /-- BAY_CLAIM (R471): a vault message received on a stream. -/
  | bayClaim (stream : BitVec 12) (hdr : BitVec 512) (payload : List Byte)
  /-- GRANT (R471). -/
  | grant (stream : BitVec 12) (hdr : BitVec 512) (payload : List Byte)
  /-- SHARD (R463). -/
  | shard (stream : BitVec 12) (hdr : BitVec 512) (payload : List Byte)
  /-- MIRROR (R466). -/
  | mirror (stream : BitVec 12) (hdr : BitVec 512) (payload : List Byte)
  /-- SEAL (R466). -/
  | seal (stream : BitVec 12) (hdr : BitVec 512) (payload : List Byte)
  /-- RECEIPT (R463). -/
  | receipt (stream : BitVec 12) (hdr : BitVec 512) (payload : List Byte)
  /-- GEN_RECORD (R463). -/
  | genRecord (stream : BitVec 12) (hdr : BitVec 512) (payload : List Byte)
  /-- FETCH (R477). -/
  | fetch (stream : BitVec 12) (hdr : BitVec 512) (payload : List Byte)
  /-- FETCH_DATA (R476). -/
  | fetchData (stream : BitVec 12) (hdr : BitVec 512) (payload : List Byte)
  /-- REFILL_BEGIN (R474). -/
  | refillBegin (stream : BitVec 12) (hdr : BitVec 512) (payload : List Byte)
  /-- RESTORED (R478). -/
  | restored (stream : BitVec 12) (hdr : BitVec 512) (payload : List Byte)
  /-- MIRROR_BLOCK_SEND (R468). -/
  | mirrorBlockSend
  -- 12, 13: start-up, power, thermal
  /-- POWER_GOOD (R538): the state of the SMBus address straps (R601). -/
  | powerGood (straps : BitVec 3)
  /-- BOOT_STAGE_VERIFY (R558): a firmware stage's measurement D_i, its security version number and
  whether it verified; `last` when it is the last stage. -/
  | bootStageVerify (image : List Byte) (svn : BitVec 16) (ok last : Bool)
  /-- MEMORY_TRAINED (R538): the stacks that trained. -/
  | memoryTrained (mask : BitVec 12)
  /-- SELF_TEST (R540): vectors run and mismatched, the failed primary routes as (source, destination)
  pairs, whether both routes of some pair failed, and the digest of the results. -/
  | selfTest (vectors mismatch : BitVec 16) (failed : List (BitVec 8 × BitVec 8)) (bothFailed : Bool) (digest : BitVec 64)
  /-- STARTUP_STAGE_TIMEOUT (R538). -/
  | startupStageTimeout
  /-- INPUT_UNDERVOLTAGE (R544). -/
  | inputUndervoltage
  /-- INPUT_OVERVOLTAGE (R544). -/
  | inputOvervoltage
  /-- INPUT_CURRENT_LIMIT (R544). -/
  | inputCurrentLimit
  /-- SUSTAINED_POWER_EXCESS (R544). -/
  | sustainedPowerExcess
  /-- PEAK_POWER_EXCESS (R544). -/
  | peakPowerExcess
  /-- DROOP (R549). -/
  | droop
  /-- DROOP_END (R549): the stretched cycles of the episode that no tick has counted. -/
  | droopEnd (stretched : Nat)
  /-- INLET_HIGH (R551). -/
  | inletHigh (inlet : BitVec 8)
  /-- THERMAL_MARGIN_LOW (R551). -/
  | thermalMarginLow (temps : List (BitVec 8))
  /-- THERMAL_MARGIN_EXHAUSTED (R551). -/
  | thermalMarginExhausted (temps : List (BitVec 8))
  /-- THERMAL_TRIP (R551). -/
  | thermalTrip
  -- 13: management
  /-- REG_READ (R568). -/
  | regRead (addr : BitVec 24)
  /-- REG_WRITE (R568). -/
  | regWrite (addr : BitVec 24) (value : BitVec 32)
  /-- ATTEST (R562). -/
  | attest (nonce : BitVec 256)
  /-- JRN_READ (R568). -/
  | jrnRead (first : BitVec 64) (count : Nat)
  /-- JRN_ACK (R566). -/
  | jrnAck (seq : BitVec 64)
  /-- JRN_SEAL (R565). -/
  | jrnSeal
  /-- KEY_WRITE (R568). -/
  | keyWrite (slot : Fin 8) (use : BitVec 2) (key : List Byte) (erase : Bool)
  /-- PLDM_SENSOR_READ (R569). -/
  | pldmSensorRead (sensor : Nat)
  /-- REQUEST_UPDATE (R561). -/
  | requestUpdate
  /-- ACTIVATE_FIRMWARE (R561). -/
  | activateFirmware
  /-- KEY_COMMIT (R557): a write of SEC.KEY_CTL with COMMIT. -/
  | keyCommit (src : Master) (use : BitVec 2)
  /-- KEY_ERASE (R557). -/
  | keyErase (src : Master)
  /-- JRN_CTL_SEAL (R565). -/
  | jrnCtlSeal (src : Master)
  /-- JRN_ACK_WRITE (R566): a write of SEC.JRN_ACK. -/
  | jrnAckWrite (src : Master) (seq : BitVec 64)
  -- 14: observation
  /-- CNT_ENABLE (R577): a write of OBS.CNT_CTL. -/
  | cntEnable (src : Master) (value : BitVec 32)
  /-- TRC_ARM (R586). -/
  | trcArm (src : Master)
  /-- TRC_TRIGGER (R586). -/
  | trcTrigger (src : Master)
  /-- TRC_DUMP (R591). -/
  | trcDump (src : Master)
  /-- TRACE_DRAIN (R587). -/
  | traceDrain
  /-- FEED_B_LOSS (R406). -/
  | feedBLoss (die : Fin 4)
  /-- FEED_RETURN (R406): feed A (`feed` 0) or B returns. -/
  | feedReturn (die : Fin 4) (feed : Fin 2)
  /-- RECEIVE_MARGIN_LOW (R445). -/
  | receiveMarginLow (port : Fin 12) (lane : Fin 8)
  /-- THERMAL_MARGIN_RECOVERED (R551). -/
  | thermalMarginRecovered (temps : List (BitVec 8))
  /-- INLET_RECOVERED (R551). -/
  | inletRecovered (inlet : BitVec 8)
  /-- HOST_SNOOP (R522). -/
  | hostSnoop (haddr : Nat) (kind : SnoopKind)
  /-- FIRMWARE_IMAGE_VERIFIED (R561): the received image's digest, its number and the verdict. -/
  | firmwareImageVerified (image : List Byte) (svn : BitVec 16) (ok : Bool)
  /-- KEY_DATA_WRITE (R572). -/
  | keyDataWrite (src : Master) (offset : BitVec 12) (value : BitVec 32)
  deriving DecidableEq, Repr

end Sys2Proof
end

