-- ==== Sys2Proof/Decode.lean ====
section
/-! DEFINITION. The command that a word spells by the table's bits. spec/opcode_table.json gives no bits to any of its
rows: a command is an event, no word of an encoding, so no word spells one. -/

namespace Sys2Proof

/-- The command that an `nbits`-bit word `w` spells: none, for every word. -/
def decodeTableWord (_nbits _w : Nat) : Option Instr := none

end Sys2Proof
end

