-- ==== Sys2Proof/Machine/Bits.lean ====
section
/-! DEFINITION. Bit fields, byte order, sign extension and the small list and table operations that
every other file of the machine uses (R4 to R6). -/

namespace Sys2Proof.Machine

/-- Field [lo + len - 1 : lo] of a word, as a number (R4). -/
def fld {n : Nat} (w : BitVec n) (lo len : Nat) : Nat := (w.toNat >>> lo) % 2 ^ len

/-- Field [lo + len - 1 : lo] of a number. -/
def nfld (w lo len : Nat) : Nat := (w >>> lo) % 2 ^ len

/-- A number of `len` bits read as two's complement. -/
def toSigned (len v : Nat) : Int := if 2 ^ (len - 1) ≤ v then (v : Int) - (2 ^ len : Nat) else v

/-- A two's-complement field. -/
def sfld {n : Nat} (w : BitVec n) (lo len : Nat) : Int := toSigned len (fld w lo len)

/-- Bit `i` of a word. -/
def bitOf {n : Nat} (w : BitVec n) (i : Nat) : Bool := w.toNat.testBit i

/-- An integer as `len` bits of two's complement. -/
def wrap (len : Nat) (v : Int) : Nat := (v % (2 ^ len : Nat)).toNat

/-- A Bool as a bit. -/
def b2n (b : Bool) : Nat := if b then 1 else 0

/-- Round-up division. -/
def ceilDiv (a b : Nat) : Nat := (a + b - 1) / b

/-- Bit length: 0 for 0, else 1 + floor(log2 n). -/
def bitLen (n : Nat) : Nat := if n = 0 then 0 else n.log2 + 1

/-- Number of set bits among the low `n` bits. -/
def popCount (n v : Nat) : Nat := ((List.range n).filter (fun i => v.testBit i)).length

/-- The positions of the set bits among the low `n`, ascending. -/
def setBits (n v : Nat) : List Nat := (List.range n).filter (fun i => v.testBit i)

/-- Saturating addition at `2 ^ len - 1`. -/
def satAdd (len a b : Nat) : Nat := min (2 ^ len - 1) (a + b)

/-- The little-endian value of a byte list (R5). -/
def leNat : List Byte → Nat
  | [] => 0
  | b :: bs => b.toNat + 256 * leNat bs

/-- `n` little-endian bytes of a number (R5). -/
def leBytes : Nat → Nat → List Byte
  | 0, _ => []
  | n + 1, v => BitVec.ofNat 8 v :: leBytes n (v / 256)

/-- Field of `n` bytes at byte `o`. -/
def bytesAt (b : List Byte) (o n : Nat) : Nat := leNat ((b.drop o).take n)

/-- The byte list of a word of `8 * n` bits, lowest byte first. -/
def wordBytes {k : Nat} (n : Nat) (w : BitVec k) : List Byte := leBytes n w.toNat

/-- The clamp of an integer to a range. -/
def clampInt (lo hi v : Int) : Int := if v < lo then lo else if hi < v then hi else v

/-! ### Frame numbers (R19, R20) -/

/-- Frame `n` frames after frame `a`: the counter is 48 bits wide (R19). -/
def frameAfter (a n : Nat) : Nat := (a + n) % 2 ^ 48

/-- Frame `n` frames before frame `a`. -/
def frameLess (a n : Nat) : Nat := (a % 2 ^ 48 + 2 ^ 48 - n % 2 ^ 48) % 2 ^ 48

/-- Frame `a` is earlier than frame `b`: frame numbers are compared modulo 2^48 (R20). -/
def frameBefore (a b : Nat) : Bool :=
  let n := (b % 2 ^ 48 + 2 ^ 48 - a % 2 ^ 48) % 2 ^ 48
  decide (1 ≤ n) && decide (n < 2 ^ 47)

/-- Tick `t` has come by frame `f`: `f` is not earlier than `t` (R20). -/
def tickDue (t f : Nat) : Bool := !frameBefore f t

/-- Frames from frame `a` to frame `b`, 0 where `b` is earlier (R20). -/
def framesTo (a b : Nat) : Nat := if frameBefore a b then (b % 2 ^ 48 + 2 ^ 48 - a % 2 ^ 48) % 2 ^ 48 else 0

/-- The largest L64 magnitude, 2^63 − 1 (R151). -/
def l64Max : Int := 2 ^ 63 - 1

/-- Saturating addition at ±(2^63 − 1), with a flag (R151, R152, R195). -/
def sat64 (v : Int) : Int × Bool :=
  if l64Max < v then (l64Max, true) else if v < -l64Max then (-l64Max, true) else (v, false)

/-! ### Tables keyed by a number, in ascending order of key -/

/-- The entry at a key. -/
def tget {α : Type} (t : List (Nat × α)) (k : Nat) : Option α :=
  match t with
  | [] => none
  | (j, a) :: r => if j = k then some a else tget r k

/-- The entry at a key, or a default. -/
def tgetD {α : Type} (t : List (Nat × α)) (k : Nat) (d : α) : α := (tget t k).getD d

/-- Put an entry, keeping the keys rising. -/
def tput {α : Type} (t : List (Nat × α)) (k : Nat) (a : α) : List (Nat × α) :=
  match t with
  | [] => [(k, a)]
  | (j, b) :: r => if k < j then (k, a) :: (j, b) :: r else if k = j then (k, a) :: r else (j, b) :: tput r k a

/-- Remove an entry. -/
def tdel {α : Type} (t : List (Nat × α)) (k : Nat) : List (Nat × α) := t.filter (fun p => p.1 ≠ k)

/-- Change an entry, starting from a default where there is none. -/
def tmod {α : Type} (t : List (Nat × α)) (k : Nat) (d : α) (f : α → α) : List (Nat × α) :=
  tput t k (f (tgetD t k d))

/-- Insert into a rising list of numbers without repeats. -/
def sinsert (l : List Nat) (k : Nat) : List Nat :=
  match l with
  | [] => [k]
  | j :: r => if k < j then k :: j :: r else if k = j then j :: r else j :: sinsert r k

/-- Change element `i` of a list. -/
def lmod {α : Type} (l : List α) (i : Nat) (f : α → α) : List α := l.modify i f

/-- The largest of a list of integers, or a default. -/
def maxInt (d : Int) (l : List Int) : Int :=
  match l with
  | [] => d
  | a :: r => r.foldl max a

/-- The largest of a list of numbers, 0 when empty. -/
def maxNat (l : List Nat) : Nat := l.foldl max 0

/-- The sum of a list. -/
def sumNat (l : List Nat) : Nat := l.foldl (· + ·) 0

/-- Split a list into consecutive pieces of `n` (structural on fuel `l.length`). -/
def chunksAux {α : Type} (n : Nat) : Nat → List α → List (List α)
  | 0, _ => []
  | _, [] => []
  | f + 1, l => l.take n :: chunksAux n f (l.drop n)

/-- Split a list into consecutive pieces of `n`. -/
def chunks {α : Type} (n : Nat) (l : List α) : List (List α) := chunksAux n l.length l

end Sys2Proof.Machine
end

