-- ==== Sys2Proof/Machine/Formats.lean ====
section
/-! DEFINITION. The number formats and the arithmetic rules of 03_number_formats.md: decoding to exact values,
encoding once under Table 3.9 with its tallies, the internal common form of the backward arrays, group
sums, passes, and the exponent histograms. Exact values are dyadic: an integer times a power of two. -/

namespace Sys2Proof.Machine

/-- An exact value: a finite dyadic number m × 2^e, an infinity, or a NaN (R165). -/
inductive Val where
  | fin (m : Int) (e : Int)
  | inf (neg : Bool)
  | nan
  deriving DecidableEq, Repr

/-- +0. -/
def Val.zero : Val := .fin 0 0

/-- The value is a NaN or an infinity. -/
def Val.nonfin : Val → Bool
  | .fin _ _ => false
  | _ => true

/-- The formats of Table 5.2. -/
inductive Fmt where
  /-- U1 to U8. -/
  | u (a : Nat)
  /-- B1 activations. -/
  | bact
  /-- B1 weights. -/
  | b1
  /-- S2, S3, S4, S8. -/
  | s (b : Nat)
  | f8a
  | f8b
  /-- Scaled F8a and F8b. -/
  | f8as
  | f8bs
  | bf16
  | f32
  deriving DecidableEq, Repr

/-- The format of a code of Table 5.2; `none` for a reserved code (R228). -/
def fmtOf (c : Nat) : Option Fmt :=
  if 1 ≤ c ∧ c ≤ 8 then some (.u c)
  else if c = 0x09 then some .bact
  else if c = 0x10 then some .b1
  else if c = 0x12 then some (.s 2)
  else if c = 0x13 then some (.s 3)
  else if c = 0x14 then some (.s 4)
  else if c = 0x18 then some (.s 8)
  else if c = 0x20 then some .f8a
  else if c = 0x21 then some .f8b
  else if c = 0x22 then some .f8as
  else if c = 0x23 then some .f8bs
  else if c = 0x24 then some .bf16
  else if c = 0x25 then some .f32
  else none

/-- Container width in bits (Table 3.1). -/
def Fmt.container : Fmt → Nat
  | .u a => if a ≤ 1 then 1 else if a = 2 then 2 else if a ≤ 4 then 4 else 8
  | .bact => 1
  | .b1 => 1
  | .s b => if b = 2 then 2 else if b = 8 then 8 else 4
  | .f8a => 8
  | .f8b => 8
  | .f8as => 8
  | .f8bs => 8
  | .bf16 => 16
  | .f32 => 32

/-- log2 of the container width: the ECONT of the format. -/
def Fmt.econt (f : Fmt) : Nat := f.container.log2

/-- The format has a block scale (Table 3.1; unscaled F8 and the wide floats have none). -/
def Fmt.scaled : Fmt → Bool
  | .f8a => false
  | .f8b => false
  | .bf16 => false
  | .f32 => false
  | _ => true

/-- Width of a code in bits (Table 3.1). -/
def Fmt.width : Fmt → Nat
  | .u a => a
  | .s b => b
  | f => f.container

/-- A code as a container holds it: the bits above the format's width are ignored and written 0 (R134). -/
def Fmt.codeBits (f : Fmt) (c : Nat) : Nat := c % 2 ^ f.width

/-- The format whose row and column of Table 3.10 a format takes: F8 with and without a block scale share one, and so does B1
in either role. -/
def Fmt.base : Fmt → Fmt
  | .f8as => .f8a
  | .f8bs => .f8b
  | .bact => .b1
  | f => f

/-- The format is one of U1 to U8. -/
def Fmt.isU : Fmt → Bool
  | .u _ => true
  | _ => false

/-- The zero point that a zero-point byte gives: its low a bits for Ua, and none for any other format (R140). -/
def Fmt.zeroBits (f : Fmt) (z : Nat) : Nat := match f with
  | .u a => z % 2 ^ a
  | _ => 0

/-- L_fmt of Table 5.2: the largest magnitude at unit scale. -/
def Fmt.largest : Fmt → Nat
  | .u a => 2 ^ a - 1
  | .bact => 1
  | .b1 => 1
  | .s b => 2 ^ (b - 1) - 1
  | .f8a => 448
  | .f8b => 57344
  | .f8as => 448
  | .f8bs => 57344
  | _ => 0

/-! ### Rounding -/

/-- Round n / d to the nearest integer, ties to even (R166). -/
def rneDiv (n : Int) (d : Nat) : Int :=
  let a := n.natAbs
  let q := a / d
  let r := a % d
  let q' := if 2 * r > d ∨ (2 * r = d ∧ q % 2 = 1) then q + 1 else q
  if n < 0 then -(q' : Int) else q'

/-- RNE(m × 2^s). -/
def rneShift (m : Int) (s : Int) : Int :=
  if 0 ≤ s then m * 2 ^ s.toNat else rneDiv m (2 ^ (-s).toNat)

/-- floor(m × 2^s) of a magnitude. -/
def floorShift (m : Nat) (s : Int) : Nat :=
  if 0 ≤ s then m * 2 ^ s.toNat else m / 2 ^ (-s).toNat

/-- floor(log2 |m × 2^e|) of a non-zero value. -/
def exponentOf (m : Int) (e : Int) : Int := (m.natAbs.log2 : Int) + e

/-- A floating layout (Table 3.4): significand bits, exponent of the subnormal spacing, largest finite
magnitude maxM × 2^maxE, width of the fraction and position of the sign. -/
structure FloatLayout where
  p : Nat
  lmin : Int
  maxM : Nat
  maxE : Int
  sign : Nat
  nan : Nat
  /-- Code of +∞ where the format has one. -/
  inf : Option Nat
  deriving DecidableEq, Repr

def layF8a : FloatLayout := ⟨4, -9, 14, 5, 7, 0x7F, none⟩
def layF8b : FloatLayout := ⟨3, -16, 7, 13, 7, 0x7E, some 0x7C⟩
def layBf16 : FloatLayout := ⟨8, -133, 255, 120, 15, 0x7FC0, some 0x7F80⟩
def layF32 : FloatLayout := ⟨24, -149, 2 ^ 24 - 1, 104, 31, 0x7FC00000, some 0x7F800000⟩

/-- What an encoding produced: the code and the one tally it counts in (R169 to R171). -/
structure Enc where
  code : Nat
  sat : Bool := false
  zeroed : Bool := false
  nonfin : Bool := false
  deriving DecidableEq, Repr

/-- Round a magnitude m × 2^e, m > 0, on the unbounded significand grid with the subnormal spacing:
significand and exponent of its last place. -/
def roundGrid (l : FloatLayout) (m : Nat) (e : Int) : Nat × Int :=
  let lsb := max (exponentOf m e - ((l.p : Int) - 1)) l.lmin
  let q := (rneShift m (e - lsb)).natAbs
  if q = 2 ^ l.p then (2 ^ (l.p - 1), lsb + 1) else (q, lsb)

/-- Encode a value in a floating layout (Table 3.9); the block scale has already been taken out. -/
def encodeFloat (l : FloatLayout) (v : Val) : Enc :=
  match v with
  | .nan => { code := l.nan, nonfin := true }
  | .inf neg =>
    match l.inf with
    | none => { code := l.nan, nonfin := true }
    | some c => { code := c + (if neg then 2 ^ l.sign else 0), nonfin := true }
  | .fin m e =>
    if m = 0 then { code := 0 }
    else
      let s := if m < 0 then 2 ^ l.sign else 0
      let (q, lsb) := roundGrid l m.natAbs e
      if q = 0 then { code := 0, zeroed := true }
      else
        let big := lsb > l.maxE ∨ (lsb = l.maxE ∧ q > l.maxM)
        let (q', lsb') := if big then (l.maxM, l.maxE) else (q, lsb)
        let c := if q' < 2 ^ (l.p - 1) then q'
          else (lsb' - l.lmin + 1).toNat * 2 ^ (l.p - 1) + (q' - 2 ^ (l.p - 1))
        { code := s + c, sat := big }

/-- Decode a floating code (R147, R167). -/
def decodeFloat (l : FloatLayout) (code : Nat) : Val :=
  let neg := code.testBit l.sign
  let mag := code % 2 ^ l.sign
  let isNan : Bool := match l.inf with
    | none => decide (mag = l.nan)
    | some c => decide (mag > c)
  if isNan then .nan
  else if l.inf = some mag then .inf neg
  else
    let f := mag % 2 ^ (l.p - 1)
    let ex := mag / 2 ^ (l.p - 1)
    let m : Int := if ex = 0 then f else f + 2 ^ (l.p - 1)
    let e : Int := if ex = 0 then l.lmin else l.lmin + (ex : Int) - 1
    if m = 0 then .zero else .fin (if neg then -m else m) e

/-- The value of an F32 code. -/
def f32Val (c : Nat) : Val := decodeFloat layF32 c

/-- RNE to F32, saturating (R168). -/
def toF32 (v : Val) : Nat := (encodeFloat layF32 v).code

/-! ### Decoding of stored elements -/

/-- The decoded integer of a weight code (Table 3.3). -/
def weightInt (b code : Nat) : Int :=
  let c := code % 2 ^ b
  if c = 2 ^ (b - 1) then 0 else toSigned b c

/-- A weight code is the void code of its format (R142). -/
def isVoid (f : Fmt) (code : Nat) : Bool :=
  match f with
  | .s b => code % 2 ^ b = 2 ^ (b - 1)
  | _ => false

/-- The exact value of a stored element under scale byte `E` and zero-point byte `z` (R136 to R149). A block
whose scale byte is 0xFF has no finite element (R138). -/
def decodeElem (f : Fmt) (code E z : Nat) : Val :=
  let ex : Int := (E : Int) - 127
  if f.scaled ∧ E = 0xFF then .nan
  else match f with
    | .u a => .fin ((code % 2 ^ a : Nat) - (z % 2 ^ a : Nat)) ex
    | .bact => .fin (if code % 2 = 1 then 1 else -1) ex
    | .b1 => .fin (if code % 2 = 1 then 1 else -1) ex
    | .s b => .fin (weightInt b code) ex
    | .f8a => decodeFloat layF8a code
    | .f8b => decodeFloat layF8b code
    | .f8as => match decodeFloat layF8a code with
      | .fin m e => .fin m (e + ex)
      | v => v
    | .f8bs => match decodeFloat layF8b code with
      | .fin m e => .fin m (e + ex)
      | v => v
    | .bf16 => decodeFloat layBf16 code
    | .f32 => decodeFloat layF32 code

/-! ### Encoding (Table 3.9) -/

/-- Encode a value in a destination format under scale `E` and zero point `z` (R172). -/
def encodeElem (f : Fmt) (v : Val) (E z : Nat) : Enc :=
  let sh : Int := 127 - (E : Int)
  let scaleOut (x : Val) : Val := match x with
    | .fin m e => .fin m (e + sh)
    | y => y
  let binary : Enc := match v with
    | .nan => { code := 1, nonfin := true }
    | .inf neg => { code := b2n (!neg), nonfin := true }
    | .fin m _ => { code := b2n (decide (0 ≤ m)) }
  match f with
  | .b1 => binary
  | .bact => binary
  | .s b =>
    let lim : Int := 2 ^ (b - 1) - 1
    (match v with
      | .nan => { code := 0, nonfin := true }
      | .inf neg => { code := wrap b (if neg then -lim else lim), nonfin := true }
      | .fin m e =>
        let d := rneShift m (e + sh)
        let c := clampInt (-lim) lim d
        { code := wrap b c, sat := d ≠ c, zeroed := d = 0 ∧ m ≠ 0 })
  | .u a =>
    let zz : Int := (z % 2 ^ a : Nat)
    let hi : Int := 2 ^ a - 1
    (match v with
      | .nan => { code := zz.toNat, nonfin := true }
      | .inf neg => { code := if neg then 0 else hi.toNat, nonfin := true }
      | .fin m e =>
        let q := rneShift m (e + sh) + zz
        let c := clampInt 0 hi q
        { code := c.toNat, sat := q ≠ c, zeroed := q = c ∧ c = zz ∧ m ≠ 0 })
  | .f8a => encodeFloat layF8a v
  | .f8b => encodeFloat layF8b v
  | .f8as => encodeFloat layF8a (scaleOut v)
  | .f8bs => encodeFloat layF8b (scaleOut v)
  | .bf16 => encodeFloat layBf16 v
  | .f32 => encodeFloat layF32 v

/-- Encode a value as L64 at anchor `A`: the new entry, or `none` where a non-finite contribution leaves it
unchanged, and the tallies (Table 3.9). -/
def encodeL64 (v : Val) (A : Int) : Option Int × Enc :=
  match v with
  | .fin m e =>
    let x := rneShift m (e + 62 - A)
    let c := clampInt (-l64Max) l64Max x
    (some c, { code := 0, sat := x ≠ c, zeroed := x = 0 ∧ m ≠ 0 })
  | _ => (none, { code := 0, nonfin := true })

/-- The pair of formats is marked N in Table 3.10 for stored formats: none is (N appears only with L64 and the
accumulator). -/
def pairMade (_ _ : Fmt) : Bool := true

/-! ### F32 arithmetic of the engines: exact, then rounded once -/

/-- Sum of two dyads. -/
def dyadAdd (m1 e1 m2 e2 : Int) : Int × Int :=
  if e1 ≤ e2 then (m1 + m2 * 2 ^ (e2 - e1).toNat, e1) else (m1 * 2 ^ (e1 - e2).toNat + m2, e2)

/-- Exact sum; a NaN or opposite infinities give a NaN. -/
def Val.add : Val → Val → Val
  | .fin a e, .fin b f => let r := dyadAdd a e b f; .fin r.1 r.2
  | .nan, _ => .nan
  | _, .nan => .nan
  | .inf s, .inf t => if s = t then .inf s else .nan
  | .inf s, _ => .inf s
  | _, .inf s => .inf s

/-- Negation. -/
def Val.neg : Val → Val
  | .fin a e => .fin (-a) e
  | .inf s => .inf (!s)
  | .nan => .nan

/-- Exact product. -/
def Val.mul : Val → Val → Val
  | .fin a e, .fin b f => .fin (a * b) (e + f)
  | .nan, _ => .nan
  | _, .nan => .nan
  | .inf s, .inf t => .inf (s != t)
  | .inf s, .fin b _ => if b = 0 then .nan else .inf (s != decide (b < 0))
  | .fin a _, .inf s => if a = 0 then .nan else .inf (s != decide (a < 0))

/-- Comparison of finite dyads: a × 2^e ≤ b × 2^f. -/
def dyadLe (a e b f : Int) : Bool :=
  if e ≤ f then decide (a ≤ b * 2 ^ (f - e).toNat) else decide (a * 2 ^ (e - f).toNat ≤ b)

/-- Order of values; NaN compares false. -/
def Val.le : Val → Val → Bool
  | .fin a e, .fin b f => dyadLe a e b f
  | .nan, _ => false
  | _, .nan => false
  | .inf s, .inf t => s || !t
  | .inf s, _ => s
  | _, .inf t => !t

/-- Magnitude. -/
def Val.abs : Val → Val
  | .fin a e => .fin a.natAbs e
  | .inf _ => .inf false
  | .nan => .nan

/-- A quotient of dyads with a sticky bit, precise enough for one RNE to F32. -/
def Val.div : Val → Val → Val
  | .fin a e, .fin b f =>
    if b = 0 then (if a = 0 then .nan else .inf (decide (a < 0)))
    else
      let k := 64 + bitLen b.natAbs
      let n := a.natAbs * 2 ^ k
      let q := n / b.natAbs
      let st := if n % b.natAbs = 0 then 0 else 1
      let m : Int := (2 * q + st : Nat)
      .fin (if (a < 0) != (b < 0) then -m else m) (e - f - (k : Int) - 1)
  | .nan, _ => .nan
  | _, .nan => .nan
  | .inf _, .inf _ => .nan
  | .inf s, .fin b _ => .inf (s != decide (b < 0))
  | .fin _ _, .inf _ => .zero

/-- Integer square root, bit by bit from `k`. -/
def isqrtAux (n : Nat) : Nat → Nat → Nat
  | 0, r => r
  | k + 1, r =>
    let t := r + 2 ^ k
    isqrtAux n k (if t * t ≤ n then t else r)

/-- floor(√n). -/
def isqrt (n : Nat) : Nat := isqrtAux n (bitLen n / 2 + 1) 0

/-- A square root with a sticky bit, precise enough for one RNE to F32. -/
def Val.sqrt : Val → Val
  | .fin a e =>
    if a < 0 then .nan
    else if a = 0 then .zero
    else
      let (a', e') := if e % 2 = 0 then (a.natAbs, e) else (a.natAbs * 2, e - 1)
      let n := a' * 2 ^ 128
      let r := isqrt n
      let st := if r * r = n then 0 else 1
      .fin (2 * r + st : Nat) (e' / 2 - 64 - 1)
  | .inf false => .inf false
  | _ => .nan

/-! ### The internal common form of the backward arrays (R153 to R162) -/

/-- An operand in the internal form. -/
structure IOp where
  neg : Bool := false
  x : Int := 0
  m : Nat := 0
  zero : Bool := true
  nan : Bool := false
  inf : Bool := false
  deriving DecidableEq, Repr

/-- Decode an operand of at most 8 significand bits (Table 3.7): m normalised to [256, 512). -/
def toIOp (v : Val) : IOp :=
  match v with
  | .nan => { zero := false, nan := true }
  | .inf neg => { neg := neg, zero := false, inf := true }
  | .fin m e =>
    if m = 0 then {}
    else
      let l := m.natAbs.log2
      { neg := m < 0, x := (l : Int) + e, m := floorShift m.natAbs (8 - (l : Int)), zero := false }

/-- Piece `j` of an F32 operand under a pass count (R163). -/
def f32Piece (code pass j : Nat) : IOp :=
  match f32Val code with
  | .nan => { zero := false, nan := true }
  | .inf neg => { neg := neg, zero := false, inf := true }
  | .fin m e =>
    if m = 0 then {}
    else
      let l := m.natAbs.log2
      -- 24-bit significand with the hidden bit at bit 23, and the exponent of the hidden bit
      let sig := floorShift m.natAbs (23 - (l : Int))
      let x : Int := (l : Int) + e
      let drop := if pass ≥ 3 then 0 else if pass = 2 then 8 else 16
      let r := (rneDiv sig (2 ^ drop)).natAbs * 2 ^ drop
      let (r', x') := if r = 2 ^ 24 then (2 ^ 23, x + 1) else (r, x)
      let piece := nfld r' (16 - 8 * j) 8
      if piece = 0 then {} else { neg := m < 0, x := x' - 8 * (j : Int), m := 2 * piece, zero := false }

/-- What a group of products comes to. -/
inductive GroupSum where
  /-- No non-zero product. -/
  | empty
  /-- S and q_max; some product lost low bits (R158). -/
  | sum (s : Int) (qmax : Int) (lost : Bool)
  /-- Non-finite (R160). -/
  | bad
  deriving DecidableEq, Repr

/-- Sum a group of operand pairs in the 56-bit window (R157 to R160). -/
def groupSum (ps : List (IOp × IOp)) : GroupSum :=
  if ps.any (fun p => p.1.nan || p.1.inf || p.2.nan || p.2.inf) then .bad
  else
    let prods := (ps.filter (fun p => !(p.1.zero || p.2.zero))).map
      (fun p => (p.1.neg != p.2.neg, p.1.m * p.2.m, p.1.x + p.2.x))
    match prods with
    | [] => .empty
    | p :: r =>
      let qmax := r.foldl (fun q t => max q t.2.2) p.2.2
      let ts := prods.map (fun t => (t.1, floorShift t.2.1 (t.2.2 - qmax + 32), t.2.1, t.2.2 - qmax + 32))
      let s := ts.foldl (fun (acc : Int) t => if t.1 then acc - t.2.1 else acc + t.2.1) 0
      let lost := ts.any (fun t => t.2.2.2 < 0 ∧ t.2.2.1 % 2 ^ (-t.2.2.2).toNat ≠ 0)
      .sum s qmax lost

/-- The amount a group sum adds to an accumulator at anchor `C` (R161). -/
def groupAdd (s qmax C : Int) : Int := rneShift s (qmax - C + 14)

/-! ### Exponent histograms (R174, R175) -/

/-- A histogram: sparse counts by bin, extremes and elements. -/
structure Hist where
  bins : List (Nat × Nat) := []
  emax : Int := -32768
  emin : Int := 32767
  elements : Nat := 0
  deriving DecidableEq, Repr

/-- The bin of a stored value (Table 3.11). -/
def histBin (v : Val) : Nat :=
  match v with
  | .fin m e =>
    if m = 0 then 0
    else
      let x := exponentOf m e
      if x ≤ -125 then 1 else if x ≥ 116 then 62 else (1 + (x + 128) / 4).toNat
  | _ => 63

/-- Count one element. -/
def Hist.add (h : Hist) (v : Val) : Hist :=
  let h' := { h with bins := tmod h.bins (histBin v) 0 (fun n => satAdd 32 n 1), elements := satAdd 64 h.elements 1 }
  match v with
  | .fin m e => if m = 0 then h' else { h' with emax := max h.emax (exponentOf m e), emin := min h.emin (exponentOf m e) }
  | _ => h'

/-- Combine two histograms (R249). -/
def Hist.merge (a b : Hist) : Hist :=
  { bins := b.bins.foldl (fun t p => tmod t p.1 0 (fun n => satAdd 32 n p.2)) a.bins
    emax := max a.emax b.emax
    emin := min a.emin b.emin
    elements := satAdd 64 a.elements b.elements }

/-- The 272 bytes of a histogram record (Table 3.12). -/
def Hist.bytes (h : Hist) : List Byte :=
  (List.range 64).flatMap (fun i => leBytes 4 (tgetD h.bins i 0)) ++
  leBytes 2 (wrap 16 h.emax) ++ leBytes 2 (wrap 16 h.emin) ++ leBytes 4 0 ++ leBytes 8 h.elements

/-- Read a histogram record back. -/
def Hist.ofBytes (b : List Byte) : Hist :=
  { bins := (List.range 64).filterMap (fun i =>
      let n := leNat ((b.drop (4 * i)).take 4)
      if n = 0 then none else some (i, n))
    emax := toSigned 16 (leNat ((b.drop 256).take 2))
    emin := toSigned 16 (leNat ((b.drop 258).take 2))
    elements := leNat ((b.drop 264).take 8) }

end Sys2Proof.Machine
end

