-- ==== Sys2Proof/Machine/RegTable.lean ====
section
/-! DEFINITION. The registers of BAR0 that the register cards of the spec name, with their addresses, instances,
reset values and access types (R8, R17, Table 0.6; the cards of 00_scope.md to 14_observation.md). -/

namespace Sys2Proof.Machine

/-- The registers, in the order of their cards. -/
inductive Reg where
  /-- CTL.IDENT (R1, 00_scope.md). -/
  | ctlIdent
  /-- FRM.LEN (R89, 01_frames_and_bundles.md). -/
  | frmLen
  /-- FRM.COUNT_LO (R89, 01_frames_and_bundles.md). -/
  | frmCountLo
  /-- FRM.COUNT_HI (R89, 01_frames_and_bundles.md). -/
  | frmCountHi
  /-- FRM.ALIGN (R89, 01_frames_and_bundles.md). -/
  | frmAlign
  /-- FRM.STRETCH (R89, 01_frames_and_bundles.md). -/
  | frmStretch
  /-- FRM.OVR (R89, 01_frames_and_bundles.md). -/
  | frmOvr
  /-- FRM.OVR_FRAME_LO (R89, 01_frames_and_bundles.md). -/
  | frmOvrFrameLo
  /-- FRM.OVR_FRAME_HI (R89, 01_frames_and_bundles.md). -/
  | frmOvrFrameHi
  /-- FRM.ADM (R89, 01_frames_and_bundles.md). -/
  | frmAdm
  /-- BND.STATE (R90, 01_frames_and_bundles.md). -/
  | bndState
  /-- BND.SEQ (R90, 01_frames_and_bundles.md). -/
  | bndSeq
  /-- BND.FILL_AHEAD (R90, 01_frames_and_bundles.md). -/
  | bndFillAhead
  /-- BND.FILL_DISCARD (R90, 01_frames_and_bundles.md). -/
  | bndFillDiscard
  /-- BND.FILL_PROMOTE (R90, 01_frames_and_bundles.md). -/
  | bndFillPromote
  /-- BND.FENCE_HOLD (R90, 01_frames_and_bundles.md). -/
  | bndFenceHold
  /-- BND.SLACK_LO (R90, 01_frames_and_bundles.md). -/
  | bndSlackLo
  /-- BND.SLACK_HI (R90, 01_frames_and_bundles.md). -/
  | bndSlackHi
  /-- CHT.STATUS (R131, 02_charter.md). -/
  | chtStatus
  /-- CHT.ERR_WHERE (R131, 02_charter.md). -/
  | chtErrWhere
  /-- CHT.ID_LO (R131, 02_charter.md). -/
  | chtIdLo
  /-- CHT.ID_HI (R131, 02_charter.md). -/
  | chtIdHi
  /-- CHT.EFFECT_LO (R131, 02_charter.md). -/
  | chtEffectLo
  /-- CHT.EFFECT_HI (R131, 02_charter.md). -/
  | chtEffectHi
  /-- CHT.MODES (R131, 02_charter.md). -/
  | chtModes
  /-- CHT.LOADS (R131, 02_charter.md). -/
  | chtLoads
  /-- FWD.PLANES_LO (R225, 04_forward_arrays.md). -/
  | fwdPlanesLo
  /-- FWD.PLANES_HI (R225, 04_forward_arrays.md). -/
  | fwdPlanesHi
  /-- FWD.SKIPPED_LO (R225, 04_forward_arrays.md). -/
  | fwdSkippedLo
  /-- FWD.SKIPPED_HI (R225, 04_forward_arrays.md). -/
  | fwdSkippedHi
  /-- FWD.EXTEND (R225, 04_forward_arrays.md). -/
  | fwdExtend
  /-- FWD.OUTLIER (R225, 04_forward_arrays.md). -/
  | fwdOutlier
  /-- FWD.DECLINE (R225, 04_forward_arrays.md). -/
  | fwdDecline
  /-- FWD.ACC_SAT (R225, 04_forward_arrays.md). -/
  | fwdAccSat
  /-- FWD.STALL (R225, 04_forward_arrays.md). -/
  | fwdStall
  /-- FWD.PSEL_INDEX (R225, 04_forward_arrays.md). -/
  | fwdPselIndex
  /-- FWD.PSEL (R225, 04_forward_arrays.md). -/
  | fwdPsel
  /-- MNT.TRK_ALLOC (R262, 05_mint_and_scale.md). -/
  | mntTrkAlloc
  /-- MNT.STATUS (R262, 05_mint_and_scale.md). -/
  | mntStatus
  /-- MNT.FLAGS (R262, 05_mint_and_scale.md). -/
  | mntFlags
  /-- MNT.HIST_SEL (R262, 05_mint_and_scale.md). -/
  | mntHistSel
  /-- MNT.HIST_BIN (R262, 05_mint_and_scale.md). -/
  | mntHistBin
  /-- MNT.HIST_EXT (R262, 05_mint_and_scale.md). -/
  | mntHistExt
  /-- MNT.SILENT (R262, 05_mint_and_scale.md). -/
  | mntSilent
  /-- MNT.SAT (R262, 05_mint_and_scale.md). -/
  | mntSat
  /-- MNT.ZERO (R262, 05_mint_and_scale.md). -/
  | mntZero
  /-- MNT.NONFIN (R262, 05_mint_and_scale.md). -/
  | mntNonfin
  /-- MNT.VOID (R262, 05_mint_and_scale.md). -/
  | mntVoid
  /-- MNT.RERUN (R262, 05_mint_and_scale.md). -/
  | mntRerun
  /-- BWD.STATUS (R306, 06_backward_arrays.md). -/
  | bwdStatus
  /-- BWD.CYCLES_LO (R306, 06_backward_arrays.md). -/
  | bwdCyclesLo
  /-- BWD.CYCLES_HI (R306, 06_backward_arrays.md). -/
  | bwdCyclesHi
  /-- BWD.ACC_SAT (R306, 06_backward_arrays.md). -/
  | bwdAccSat
  /-- BWD.NONFIN (R306, 06_backward_arrays.md). -/
  | bwdNonfin
  /-- BWD.TRUNC (R306, 06_backward_arrays.md). -/
  | bwdTrunc
  /-- BWD.ZEROED (R306, 06_backward_arrays.md). -/
  | bwdZeroed
  /-- BWD.DEPOSIT (R306, 06_backward_arrays.md). -/
  | bwdDeposit
  /-- ROW.STATUS (R307, 06_backward_arrays.md). -/
  | rowStatus
  /-- ROW.CYCLES (R307, 06_backward_arrays.md). -/
  | rowCycles
  /-- ROW.ROWS (R307, 06_backward_arrays.md). -/
  | rowRows
  /-- ROW.SAT (R307, 06_backward_arrays.md). -/
  | rowSat
  /-- ROW.NONFIN (R307, 06_backward_arrays.md). -/
  | rowNonfin
  /-- ROW.CONTRIB_LO (R307, 06_backward_arrays.md). -/
  | rowContribLo
  /-- ROW.CONTRIB_HI (R307, 06_backward_arrays.md). -/
  | rowContribHi
  /-- LDG.DIR_ALLOC (R359, 07_ledger_clearing_settlement.md). -/
  | ldgDirAlloc
  /-- LDG.STEP_LO (R359, 07_ledger_clearing_settlement.md). -/
  | ldgStepLo
  /-- LDG.STEP_HI (R359, 07_ledger_clearing_settlement.md). -/
  | ldgStepHi
  /-- LDG.ESCROW (R359, 07_ledger_clearing_settlement.md). -/
  | ldgEscrow
  /-- LDG.ESTEP_LO (R359, 07_ledger_clearing_settlement.md). -/
  | ldgEstepLo
  /-- LDG.ESTEP_HI (R359, 07_ledger_clearing_settlement.md). -/
  | ldgEstepHi
  /-- LDG.CLEARED_LO (R359, 07_ledger_clearing_settlement.md). -/
  | ldgClearedLo
  /-- LDG.CLEARED_HI (R359, 07_ledger_clearing_settlement.md). -/
  | ldgClearedHi
  /-- LDG.SETTLED_LO (R359, 07_ledger_clearing_settlement.md). -/
  | ldgSettledLo
  /-- LDG.SETTLED_HI (R359, 07_ledger_clearing_settlement.md). -/
  | ldgSettledHi
  /-- LDG.SUM_LO (R359, 07_ledger_clearing_settlement.md). -/
  | ldgSumLo
  /-- LDG.SUM_HI (R359, 07_ledger_clearing_settlement.md). -/
  | ldgSumHi
  /-- LDG.OVER (R359, 07_ledger_clearing_settlement.md). -/
  | ldgOver
  /-- LDG.LOSS (R359, 07_ledger_clearing_settlement.md). -/
  | ldgLoss
  /-- MEM.STATUS (R401, 08_memory_and_layout.md). -/
  | memStatus
  /-- MEM.CE (R401, 08_memory_and_layout.md). -/
  | memCe
  /-- MEM.UE (R401, 08_memory_and_layout.md). -/
  | memUe
  /-- MEM.UE_ADDR_LO (R401, 08_memory_and_layout.md). -/
  | memUeAddrLo
  /-- MEM.UE_ADDR_HI (R401, 08_memory_and_layout.md). -/
  | memUeAddrHi
  /-- MEM.SCRUB (R401, 08_memory_and_layout.md). -/
  | memScrub
  /-- MEM.LEDGER (R401, 08_memory_and_layout.md). -/
  | memLedger
  /-- MEM.ACCESS (R401, 08_memory_and_layout.md). -/
  | memAccess
  /-- MEM.ALLOC_SEL (R401, 08_memory_and_layout.md). -/
  | memAllocSel
  /-- MEM.ALLOC_ATTR (R401, 08_memory_and_layout.md). -/
  | memAllocAttr
  /-- MEM.ALLOC_PERM (R401, 08_memory_and_layout.md). -/
  | memAllocPerm
  /-- MEM.ALLOC_BASE (R401, 08_memory_and_layout.md). -/
  | memAllocBase
  /-- MEM.ALLOC_SIZE_LO (R401, 08_memory_and_layout.md). -/
  | memAllocSizeLo
  /-- MEM.ALLOC_SIZE_HI (R401, 08_memory_and_layout.md). -/
  | memAllocSizeHi
  /-- MEM.SRAM_CE (R401, 08_memory_and_layout.md). -/
  | memSramCe
  /-- MEM.SRAM_UE (R401, 08_memory_and_layout.md). -/
  | memSramUe
  /-- LAY.STATUS (R402, 08_memory_and_layout.md). -/
  | layStatus
  /-- LAY.COPIES (R402, 08_memory_and_layout.md). -/
  | layCopies
  /-- LAY.ELEMS_LO (R402, 08_memory_and_layout.md). -/
  | layElemsLo
  /-- LAY.ELEMS_HI (R402, 08_memory_and_layout.md). -/
  | layElemsHi
  /-- LAY.FOLDED (R402, 08_memory_and_layout.md). -/
  | layFolded
  /-- LAY.PADSKIP (R402, 08_memory_and_layout.md). -/
  | layPadskip
  /-- LAY.CREATE (R402, 08_memory_and_layout.md). -/
  | layCreate
  /-- LAY.FOLDSAT (R402, 08_memory_and_layout.md). -/
  | layFoldsat
  /-- LNK.FEED (R446, 09_optical_links_and_partners.md). -/
  | lnkFeed
  /-- LNK.PORT0_STATUS (R446, 09_optical_links_and_partners.md). -/
  | lnkPort0Status
  /-- LNK.PORT1_STATUS (R446, 09_optical_links_and_partners.md). -/
  | lnkPort1Status
  /-- LNK.PORT2_STATUS (R446, 09_optical_links_and_partners.md). -/
  | lnkPort2Status
  /-- LNK.PORT0_FEC (R446, 09_optical_links_and_partners.md). -/
  | lnkPort0Fec
  /-- LNK.PORT1_FEC (R446, 09_optical_links_and_partners.md). -/
  | lnkPort1Fec
  /-- LNK.PORT2_FEC (R446, 09_optical_links_and_partners.md). -/
  | lnkPort2Fec
  /-- LNK.PORT0_RETRY (R446, 09_optical_links_and_partners.md). -/
  | lnkPort0Retry
  /-- LNK.PORT1_RETRY (R446, 09_optical_links_and_partners.md). -/
  | lnkPort1Retry
  /-- LNK.PORT2_RETRY (R446, 09_optical_links_and_partners.md). -/
  | lnkPort2Retry
  /-- LNK.DOMAIN_LO (R446, 09_optical_links_and_partners.md). -/
  | lnkDomainLo
  /-- LNK.DOMAIN_HI (R446, 09_optical_links_and_partners.md). -/
  | lnkDomainHi
  /-- LNK.SELF_LO (R446, 09_optical_links_and_partners.md). -/
  | lnkSelfLo
  /-- LNK.SELF_HI (R446, 09_optical_links_and_partners.md). -/
  | lnkSelfHi
  /-- LNK.REF_LO (R446, 09_optical_links_and_partners.md). -/
  | lnkRefLo
  /-- LNK.REF_HI (R446, 09_optical_links_and_partners.md). -/
  | lnkRefHi
  /-- LNK.SYNC (R446, 09_optical_links_and_partners.md). -/
  | lnkSync
  /-- LNK.CTL (R446, 09_optical_links_and_partners.md). -/
  | lnkCtl
  /-- LNK.PT_SEL (R446, 09_optical_links_and_partners.md). -/
  | lnkPtSel
  /-- LNK.PT_STATE (R446, 09_optical_links_and_partners.md). -/
  | lnkPtState
  /-- LNK.PT_FP_LO (R446, 09_optical_links_and_partners.md). -/
  | lnkPtFpLo
  /-- LNK.PT_FP_HI (R446, 09_optical_links_and_partners.md). -/
  | lnkPtFpHi
  /-- LNK.PT_DOMAIN_LO (R446, 09_optical_links_and_partners.md). -/
  | lnkPtDomainLo
  /-- LNK.PT_DOMAIN_HI (R446, 09_optical_links_and_partners.md). -/
  | lnkPtDomainHi
  /-- LNK.PT_FRAME_LO (R446, 09_optical_links_and_partners.md). -/
  | lnkPtFrameLo
  /-- LNK.PT_FRAME_HI (R446, 09_optical_links_and_partners.md). -/
  | lnkPtFrameHi
  /-- LNK.STREAM_SEL (R446, 09_optical_links_and_partners.md). -/
  | lnkStreamSel
  /-- LNK.STREAM_STATE (R446, 09_optical_links_and_partners.md). -/
  | lnkStreamState
  /-- LNK.PT_KEY_LO (R446, 09_optical_links_and_partners.md). -/
  | lnkPtKeyLo
  /-- LNK.PT_KEY_HI (R446, 09_optical_links_and_partners.md). -/
  | lnkPtKeyHi
  /-- PRT.RISK (R491, 10_protection_and_recovery.md). -/
  | prtRisk
  /-- PRT.INPUT_SEL (R491, 10_protection_and_recovery.md). -/
  | prtInputSel
  /-- PRT.INPUT (R491, 10_protection_and_recovery.md). -/
  | prtInput
  /-- PRT.WEIGHT (R491, 10_protection_and_recovery.md). -/
  | prtWeight
  /-- PRT.GAP (R491, 10_protection_and_recovery.md). -/
  | prtGap
  /-- PRT.COW_ALLOC (R491, 10_protection_and_recovery.md). -/
  | prtCowAlloc
  /-- PRT.REFILL_ALLOC (R491, 10_protection_and_recovery.md). -/
  | prtRefillAlloc
  /-- PRT.SNAP (R491, 10_protection_and_recovery.md). -/
  | prtSnap
  /-- PRT.SNAP_STEP_LO (R491, 10_protection_and_recovery.md). -/
  | prtSnapStepLo
  /-- PRT.SNAP_STEP_HI (R491, 10_protection_and_recovery.md). -/
  | prtSnapStepHi
  /-- PRT.AGE (R491, 10_protection_and_recovery.md). -/
  | prtAge
  /-- PRT.MIRROR (R491, 10_protection_and_recovery.md). -/
  | prtMirror
  /-- PRT.GROUP_SEL (R491, 10_protection_and_recovery.md). -/
  | prtGroupSel
  /-- PRT.GROUP (R491, 10_protection_and_recovery.md). -/
  | prtGroup
  /-- PRT.REFILL (R491, 10_protection_and_recovery.md). -/
  | prtRefill
  /-- PRT.REFILL_POS_LO (R491, 10_protection_and_recovery.md). -/
  | prtRefillPosLo
  /-- PRT.REFILL_POS_HI (R491, 10_protection_and_recovery.md). -/
  | prtRefillPosHi
  /-- PRT.RECON (R491, 10_protection_and_recovery.md). -/
  | prtRecon
  /-- PRT.RECON_STEP_LO (R491, 10_protection_and_recovery.md). -/
  | prtReconStepLo
  /-- PRT.RECON_STEP_HI (R491, 10_protection_and_recovery.md). -/
  | prtReconStepHi
  /-- FLT.STATUS (R521, 11_faults_and_stops.md). -/
  | fltStatus
  /-- FLT.COUNT0 (R521, 11_faults_and_stops.md). -/
  | fltCount0
  /-- FLT.COUNT1 (R521, 11_faults_and_stops.md). -/
  | fltCount1
  /-- FLT.SEQ (R521, 11_faults_and_stops.md). -/
  | fltSeq
  /-- FLT.LOG_SEL (R521, 11_faults_and_stops.md). -/
  | fltLogSel
  /-- FLT.LOG_DATA (R521, 11_faults_and_stops.md). -/
  | fltLogData
  /-- FLT.ORDER (R521, 11_faults_and_stops.md). -/
  | fltOrder
  /-- FLT.AT_LO (R521, 11_faults_and_stops.md). -/
  | fltAtLo
  /-- FLT.AT_HI (R521, 11_faults_and_stops.md). -/
  | fltAtHi
  /-- FLT.STOP_LO (R521, 11_faults_and_stops.md). -/
  | fltStopLo
  /-- FLT.STOP_HI (R521, 11_faults_and_stops.md). -/
  | fltStopHi
  /-- FLT.FABRIC_LO (R521, 11_faults_and_stops.md). -/
  | fltFabricLo
  /-- FLT.FABRIC_HI (R521, 11_faults_and_stops.md). -/
  | fltFabricHi
  /-- FLT.HALT_SEL (R521, 11_faults_and_stops.md). -/
  | fltHaltSel
  /-- FLT.HALT_DATA (R521, 11_faults_and_stops.md). -/
  | fltHaltData
  /-- HST.CAP (R543, 12_host_and_startup.md). -/
  | hstCap
  /-- HST.START (R543, 12_host_and_startup.md). -/
  | hstStart
  /-- HST.ST_SEL (R543, 12_host_and_startup.md). -/
  | hstStSel
  /-- HST.ST_DATA (R543, 12_host_and_startup.md). -/
  | hstStData
  /-- HST.RING_SEL (R543, 12_host_and_startup.md). -/
  | hstRingSel
  /-- HST.RING_CFG (R543, 12_host_and_startup.md). -/
  | hstRingCfg
  /-- HST.RING_HEAD (R543, 12_host_and_startup.md). -/
  | hstRingHead
  /-- HST.CMD_LO (R543, 12_host_and_startup.md). -/
  | hstCmdLo
  /-- HST.CMD_HI (R543, 12_host_and_startup.md). -/
  | hstCmdHi
  /-- HST.COMP_LO (R543, 12_host_and_startup.md). -/
  | hstCompLo
  /-- HST.COMP_HI (R543, 12_host_and_startup.md). -/
  | hstCompHi
  /-- HST.DOORBELL (R543, 12_host_and_startup.md). -/
  | hstDoorbell
  /-- PWR.STATUS (R571, 13_power_security_management.md). -/
  | pwrStatus
  /-- PWR.INPUT (R571, 13_power_security_management.md). -/
  | pwrInput
  /-- PWR.ENERGY (R571, 13_power_security_management.md). -/
  | pwrEnergy
  /-- PWR.MEAN (R571, 13_power_security_management.md). -/
  | pwrMean
  /-- PWR.DROOP (R571, 13_power_security_management.md). -/
  | pwrDroop
  /-- PWR.THERM (R571, 13_power_security_management.md). -/
  | pwrTherm
  /-- SEC.STATUS (R572, 13_power_security_management.md). -/
  | secStatus
  /-- SEC.POLICY (R572, 13_power_security_management.md). -/
  | secPolicy
  /-- SEC.KEY_SEL (R572, 13_power_security_management.md). -/
  | secKeySel
  /-- SEC.KEY_ATTR (R572, 13_power_security_management.md). -/
  | secKeyAttr
  /-- SEC.KEY_ID_LO (R572, 13_power_security_management.md). -/
  | secKeyIdLo
  /-- SEC.KEY_ID_HI (R572, 13_power_security_management.md). -/
  | secKeyIdHi
  /-- SEC.KEY_CTL (R572, 13_power_security_management.md). -/
  | secKeyCtl
  /-- SEC.JRN_HEAD_LO (R572, 13_power_security_management.md). -/
  | secJrnHeadLo
  /-- SEC.JRN_HEAD_HI (R572, 13_power_security_management.md). -/
  | secJrnHeadHi
  /-- SEC.JRN_ACK_LO (R572, 13_power_security_management.md). -/
  | secJrnAckLo
  /-- SEC.JRN_ACK_HI (R572, 13_power_security_management.md). -/
  | secJrnAckHi
  /-- SEC.JRN_SEL (R572, 13_power_security_management.md). -/
  | secJrnSel
  /-- SEC.JRN_DATA (R572, 13_power_security_management.md). -/
  | secJrnData
  /-- SEC.JRN_CTL (R572, 13_power_security_management.md). -/
  | secJrnCtl
  /-- OBS.CNT_CTL (R594, 14_observation.md). -/
  | obsCntCtl
  /-- OBS.CNT_ALLOC (R594, 14_observation.md). -/
  | obsCntAlloc
  /-- OBS.CNT_SEL (R594, 14_observation.md). -/
  | obsCntSel
  /-- OBS.CNT_DATA (R594, 14_observation.md). -/
  | obsCntData
  /-- OBS.TRC_ALLOC (R594, 14_observation.md). -/
  | obsTrcAlloc
  /-- OBS.TRC_CFG (R594, 14_observation.md). -/
  | obsTrcCfg
  /-- OBS.TRC_TRIG (R594, 14_observation.md). -/
  | obsTrcTrig
  /-- OBS.TRC_CTL (R594, 14_observation.md). -/
  | obsTrcCtl
  /-- OBS.TRC_STATUS (R594, 14_observation.md). -/
  | obsTrcStatus
  /-- OBS.TRC_LOST_LO (R594, 14_observation.md). -/
  | obsTrcLostLo
  /-- OBS.TRC_LOST_HI (R594, 14_observation.md). -/
  | obsTrcLostHi
  /-- OBS.TRC_HEAD_LO (R594, 14_observation.md). -/
  | obsTrcHeadLo
  /-- OBS.TRC_HEAD_HI (R594, 14_observation.md). -/
  | obsTrcHeadHi
  /-- OBS.TRC_SEL (R594, 14_observation.md). -/
  | obsTrcSel
  /-- OBS.TRC_DATA (R594, 14_observation.md). -/
  | obsTrcData
  deriving DecidableEq, Repr

/-- One register card: the address of instance 0, the number of instances, the reset value, and the masks of the
read-write, write-1-clear, write-only and immediate bits. -/
structure RegDef where
  reg : Reg
  addr : Nat
  count : Nat
  reset : Nat
  rw : Nat
  w1c : Nat
  wo : Nat
  imm : Nat
  deriving DecidableEq, Repr

/-- The CTL cards (R1). -/
def regsCtl : List RegDef := [
  ⟨.ctlIdent, 0x000000, 1, 0x1014831, 0x0, 0x0, 0x0, 0x0⟩]

/-- The FRM cards (R89). -/
def regsFrm : List RegDef := [
  ⟨.frmLen, 0x010000, 1, 0x510, 0x0, 0x0, 0x0, 0x0⟩,
  ⟨.frmCountLo, 0x010004, 1, 0x0, 0x0, 0x0, 0x0, 0x0⟩,
  ⟨.frmCountHi, 0x010008, 1, 0x0, 0x0, 0x0, 0x0, 0x0⟩,
  ⟨.frmAlign, 0x01000C, 1, 0x0, 0x0, 0x0, 0x0, 0x0⟩,
  ⟨.frmStretch, 0x010010, 1, 0x0, 0x0, 0x0, 0x0, 0x0⟩,
  ⟨.frmOvr, 0x010014, 1, 0x0, 0x0, 0x80000000, 0x0, 0x0⟩,
  ⟨.frmOvrFrameLo, 0x010018, 1, 0x0, 0x0, 0x0, 0x0, 0x0⟩,
  ⟨.frmOvrFrameHi, 0x01001C, 1, 0x0, 0x0, 0x0, 0x0, 0x0⟩,
  ⟨.frmAdm, 0x010020, 1, 0x0, 0x0, 0x80000000, 0x0, 0x0⟩]

/-- The BND cards (R90). -/
def regsBnd : List RegDef := [
  ⟨.bndState, 0x020000, 1, 0x0, 0x0, 0x0, 0x0, 0x0⟩,
  ⟨.bndSeq, 0x020004, 1, 0x0, 0x0, 0x0, 0x0, 0x0⟩,
  ⟨.bndFillAhead, 0x020008, 1, 0x0, 0x0, 0x0, 0x0, 0x0⟩,
  ⟨.bndFillDiscard, 0x02000C, 1, 0x0, 0x0, 0x0, 0x0, 0x0⟩,
  ⟨.bndFillPromote, 0x020010, 1, 0x0, 0x0, 0x0, 0x0, 0x0⟩,
  ⟨.bndFenceHold, 0x020014, 1, 0x0, 0x0, 0x0, 0x0, 0x0⟩,
  ⟨.bndSlackLo, 0x020018, 1, 0x0, 0x0, 0x0, 0x0, 0x0⟩,
  ⟨.bndSlackHi, 0x02001C, 1, 0x0, 0x0, 0x0, 0x0, 0x0⟩]

/-- The CHT cards (R131). -/
def regsCht : List RegDef := [
  ⟨.chtStatus, 0x030000, 1, 0x0, 0x0, 0x0, 0x0, 0x0⟩,
  ⟨.chtErrWhere, 0x030004, 1, 0x0, 0x0, 0x0, 0x0, 0x0⟩,
  ⟨.chtIdLo, 0x030008, 1, 0x0, 0x0, 0x0, 0x0, 0x0⟩,
  ⟨.chtIdHi, 0x03000C, 1, 0x0, 0x0, 0x0, 0x0, 0x0⟩,
  ⟨.chtEffectLo, 0x030010, 1, 0x0, 0x0, 0x0, 0x0, 0x0⟩,
  ⟨.chtEffectHi, 0x030014, 1, 0x0, 0x0, 0x0, 0x0, 0x0⟩,
  ⟨.chtModes, 0x030018, 1, 0x7, 0x0, 0x0, 0x0, 0x0⟩,
  ⟨.chtLoads, 0x03001C, 1, 0x0, 0x0, 0x0, 0x0, 0x0⟩]

/-- The FWD cards (R225). -/
def regsFwd : List RegDef := [
  ⟨.fwdPlanesLo, 0x100000, 8, 0x0, 0x0, 0x0, 0x0, 0x0⟩,
  ⟨.fwdPlanesHi, 0x100004, 8, 0x0, 0x0, 0x0, 0x0, 0x0⟩,
  ⟨.fwdSkippedLo, 0x100008, 8, 0x0, 0x0, 0x0, 0x0, 0x0⟩,
  ⟨.fwdSkippedHi, 0x10000C, 8, 0x0, 0x0, 0x0, 0x0, 0x0⟩,
  ⟨.fwdExtend, 0x100010, 8, 0x0, 0x0, 0x0, 0x0, 0x0⟩,
  ⟨.fwdOutlier, 0x100014, 8, 0x0, 0x0, 0x0, 0x0, 0x0⟩,
  ⟨.fwdDecline, 0x100018, 8, 0x0, 0x0, 0x0, 0x0, 0x0⟩,
  ⟨.fwdAccSat, 0x10001C, 8, 0x0, 0x0, 0x0, 0x0, 0x0⟩,
  ⟨.fwdStall, 0x100020, 8, 0x0, 0x0, 0x0, 0x0, 0x0⟩,
  ⟨.fwdPselIndex, 0x100024, 8, 0x0, 0x3FF, 0x0, 0x0, 0x3FF⟩,
  ⟨.fwdPsel, 0x100028, 8, 0x0, 0x0, 0x0, 0x0, 0x0⟩]

/-- The MNT cards (R262). -/
def regsMnt : List RegDef := [
  ⟨.mntTrkAlloc, 0x200000, 12, 0xFFF, 0xFFF, 0x0, 0x0, 0x0⟩,
  ⟨.mntStatus, 0x200004, 12, 0x0, 0x0, 0x0, 0x0, 0x0⟩,
  ⟨.mntFlags, 0x200008, 12, 0x0, 0x0, 0x0, 0x0, 0x0⟩,
  ⟨.mntHistSel, 0x20000C, 12, 0x0, 0x3F0FFF, 0x0, 0x0, 0x3F0FFF⟩,
  ⟨.mntHistBin, 0x200010, 12, 0x0, 0x0, 0x0, 0x0, 0x0⟩,
  ⟨.mntHistExt, 0x200014, 12, 0x80007FFF, 0x0, 0x0, 0x0, 0x0⟩,
  ⟨.mntSilent, 0x200018, 12, 0x0, 0x0, 0x0, 0x0, 0x0⟩,
  ⟨.mntSat, 0x20001C, 12, 0x0, 0x0, 0x0, 0x0, 0x0⟩,
  ⟨.mntZero, 0x200020, 12, 0x0, 0x0, 0x0, 0x0, 0x0⟩,
  ⟨.mntNonfin, 0x200024, 12, 0x0, 0x0, 0x0, 0x0, 0x0⟩,
  ⟨.mntVoid, 0x200028, 12, 0x0, 0x0, 0x0, 0x0, 0x0⟩,
  ⟨.mntRerun, 0x20002C, 12, 0x0, 0x0, 0x0, 0x0, 0x0⟩]

/-- The BWD cards (R306). -/
def regsBwd : List RegDef := [
  ⟨.bwdStatus, 0x180000, 8, 0x0, 0x0, 0x0, 0x0, 0x0⟩,
  ⟨.bwdCyclesLo, 0x180004, 8, 0x0, 0x0, 0x0, 0x0, 0x0⟩,
  ⟨.bwdCyclesHi, 0x180008, 8, 0x0, 0x0, 0x0, 0x0, 0x0⟩,
  ⟨.bwdAccSat, 0x18000C, 8, 0x0, 0x0, 0x0, 0x0, 0x0⟩,
  ⟨.bwdNonfin, 0x180010, 8, 0x0, 0x0, 0x0, 0x0, 0x0⟩,
  ⟨.bwdTrunc, 0x180014, 8, 0x0, 0x0, 0x0, 0x0, 0x0⟩,
  ⟨.bwdZeroed, 0x180018, 8, 0x0, 0x0, 0x0, 0x0, 0x0⟩,
  ⟨.bwdDeposit, 0x18001C, 8, 0x0, 0x0, 0x0, 0x0, 0x0⟩]

/-- The ROW cards (R307). -/
def regsRow : List RegDef := [
  ⟨.rowStatus, 0x1C0000, 4, 0x0, 0x0, 0x0, 0x0, 0x0⟩,
  ⟨.rowCycles, 0x1C0004, 4, 0x0, 0x0, 0x0, 0x0, 0x0⟩,
  ⟨.rowRows, 0x1C0008, 4, 0x0, 0x0, 0x0, 0x0, 0x0⟩,
  ⟨.rowSat, 0x1C000C, 4, 0x0, 0x0, 0x0, 0x0, 0x0⟩,
  ⟨.rowNonfin, 0x1C0010, 4, 0x0, 0x0, 0x0, 0x0, 0x0⟩,
  ⟨.rowContribLo, 0x1C0014, 4, 0x0, 0x0, 0x0, 0x0, 0x0⟩,
  ⟨.rowContribHi, 0x1C0018, 4, 0x0, 0x0, 0x0, 0x0, 0x0⟩]

/-- The LDG cards (R359). -/
def regsLdg : List RegDef := [
  ⟨.ldgDirAlloc, 0x280000, 1, 0xFFF, 0xFFF, 0x0, 0x0, 0x0⟩,
  ⟨.ldgStepLo, 0x280004, 1, 0x0, 0x0, 0x0, 0x0, 0x0⟩,
  ⟨.ldgStepHi, 0x280008, 1, 0x0, 0x0, 0x0, 0x0, 0x0⟩,
  ⟨.ldgEscrow, 0x28000C, 1, 0x0, 0x0, 0x0, 0x0, 0x0⟩,
  ⟨.ldgEstepLo, 0x280010, 1, 0x0, 0x0, 0x0, 0x0, 0x0⟩,
  ⟨.ldgEstepHi, 0x280014, 1, 0x0, 0x0, 0x0, 0x0, 0x0⟩,
  ⟨.ldgClearedLo, 0x280018, 1, 0x0, 0x0, 0x0, 0x0, 0x0⟩,
  ⟨.ldgClearedHi, 0x28001C, 1, 0x0, 0x0, 0x0, 0x0, 0x0⟩,
  ⟨.ldgSettledLo, 0x280020, 1, 0x0, 0x0, 0x0, 0x0, 0x0⟩,
  ⟨.ldgSettledHi, 0x280024, 1, 0x0, 0x0, 0x0, 0x0, 0x0⟩,
  ⟨.ldgSumLo, 0x280028, 1, 0x0, 0x0, 0x0, 0x0, 0x0⟩,
  ⟨.ldgSumHi, 0x28002C, 1, 0x0, 0x0, 0x0, 0x0, 0x0⟩,
  ⟨.ldgOver, 0x280030, 1, 0x0, 0x0, 0x0, 0x0, 0x0⟩,
  ⟨.ldgLoss, 0x280034, 1, 0x0, 0x0, 0x0, 0x0, 0x0⟩]

/-- The MEM cards (R401). -/
def regsMem : List RegDef := [
  ⟨.memStatus, 0x300000, 12, 0x0, 0x0, 0x0, 0x0, 0x0⟩,
  ⟨.memCe, 0x300004, 12, 0x0, 0x0, 0x0, 0x0, 0x0⟩,
  ⟨.memUe, 0x300008, 12, 0x0, 0x0, 0x0, 0x0, 0x0⟩,
  ⟨.memUeAddrLo, 0x30000C, 12, 0x0, 0x0, 0x0, 0x0, 0x0⟩,
  ⟨.memUeAddrHi, 0x300010, 12, 0x0, 0x0, 0x80000000, 0x0, 0x0⟩,
  ⟨.memScrub, 0x300014, 12, 0x0, 0x0, 0x0, 0x0, 0x0⟩,
  ⟨.memLedger, 0x300018, 12, 0x0, 0x0, 0x0, 0x0, 0x0⟩,
  ⟨.memAccess, 0x30001C, 12, 0x0, 0x0, 0x80000000, 0x0, 0x0⟩,
  ⟨.memAllocSel, 0x300020, 12, 0x0, 0xFFF, 0x0, 0x0, 0xFFF⟩,
  ⟨.memAllocAttr, 0x300024, 12, 0x0, 0x0, 0x0, 0x0, 0x0⟩,
  ⟨.memAllocPerm, 0x300028, 12, 0x0, 0x0, 0x0, 0x0, 0x0⟩,
  ⟨.memAllocBase, 0x30002C, 12, 0x0, 0x0, 0x0, 0x0, 0x0⟩,
  ⟨.memAllocSizeLo, 0x300030, 12, 0x0, 0x0, 0x0, 0x0, 0x0⟩,
  ⟨.memAllocSizeHi, 0x300034, 12, 0x0, 0x0, 0x0, 0x0, 0x0⟩,
  ⟨.memSramCe, 0x300038, 12, 0x0, 0x0, 0x0, 0x0, 0x0⟩,
  ⟨.memSramUe, 0x30003C, 12, 0x0, 0x0, 0x0, 0x0, 0x0⟩]

/-- The LAY cards (R402). -/
def regsLay : List RegDef := [
  ⟨.layStatus, 0x380000, 12, 0x0, 0x0, 0x0, 0x0, 0x0⟩,
  ⟨.layCopies, 0x380004, 12, 0x0, 0x0, 0x0, 0x0, 0x0⟩,
  ⟨.layElemsLo, 0x380008, 12, 0x0, 0x0, 0x0, 0x0, 0x0⟩,
  ⟨.layElemsHi, 0x38000C, 12, 0x0, 0x0, 0x0, 0x0, 0x0⟩,
  ⟨.layFolded, 0x380010, 12, 0x0, 0x0, 0x0, 0x0, 0x0⟩,
  ⟨.layPadskip, 0x380014, 12, 0x0, 0x0, 0x0, 0x0, 0x0⟩,
  ⟨.layCreate, 0x380018, 1, 0x0, 0x0, 0x80000000, 0x0, 0x0⟩,
  ⟨.layFoldsat, 0x38001C, 12, 0x0, 0x0, 0x0, 0x0, 0x0⟩]

/-- The LNK cards (R446). -/
def regsLnk : List RegDef := [
  ⟨.lnkFeed, 0x400000, 4, 0x0, 0x0, 0x0, 0x0, 0x0⟩,
  ⟨.lnkPort0Status, 0x400004, 4, 0x0, 0x0, 0x0, 0x0, 0x0⟩,
  ⟨.lnkPort1Status, 0x400008, 4, 0x0, 0x0, 0x0, 0x0, 0x0⟩,
  ⟨.lnkPort2Status, 0x40000C, 4, 0x0, 0x0, 0x0, 0x0, 0x0⟩,
  ⟨.lnkPort0Fec, 0x400010, 4, 0x0, 0x0, 0x0, 0x0, 0x0⟩,
  ⟨.lnkPort1Fec, 0x400014, 4, 0x0, 0x0, 0x0, 0x0, 0x0⟩,
  ⟨.lnkPort2Fec, 0x400018, 4, 0x0, 0x0, 0x0, 0x0, 0x0⟩,
  ⟨.lnkPort0Retry, 0x40001C, 4, 0x0, 0x0, 0x0, 0x0, 0x0⟩,
  ⟨.lnkPort1Retry, 0x400020, 4, 0x0, 0x0, 0x0, 0x0, 0x0⟩,
  ⟨.lnkPort2Retry, 0x400024, 4, 0x0, 0x0, 0x0, 0x0, 0x0⟩,
  ⟨.lnkDomainLo, 0x400040, 4, 0x0, 0xFFFFFFFF, 0x0, 0x0, 0x0⟩,
  ⟨.lnkDomainHi, 0x400044, 4, 0x0, 0xFFFF, 0x0, 0x0, 0x0⟩,
  ⟨.lnkSelfLo, 0x400048, 4, 0x0, 0x0, 0x0, 0x0, 0x0⟩,
  ⟨.lnkSelfHi, 0x40004C, 4, 0x0, 0x0, 0x0, 0x0, 0x0⟩,
  ⟨.lnkRefLo, 0x400050, 4, 0x0, 0x0, 0x0, 0x0, 0x0⟩,
  ⟨.lnkRefHi, 0x400054, 4, 0x0, 0x0, 0x0, 0x0, 0x0⟩,
  ⟨.lnkSync, 0x400058, 4, 0x10000, 0x0, 0x0, 0x0, 0x0⟩,
  ⟨.lnkCtl, 0x40005C, 4, 0x0, 0x0, 0x0, 0x3, 0x0⟩,
  ⟨.lnkPtSel, 0x400060, 4, 0x0, 0xFF, 0x0, 0x0, 0xFF⟩,
  ⟨.lnkPtState, 0x400064, 4, 0x0, 0x0, 0x0, 0x0, 0x0⟩,
  ⟨.lnkPtFpLo, 0x400068, 4, 0x0, 0x0, 0x0, 0x0, 0x0⟩,
  ⟨.lnkPtFpHi, 0x40006C, 4, 0x0, 0x0, 0x0, 0x0, 0x0⟩,
  ⟨.lnkPtDomainLo, 0x400070, 4, 0x0, 0x0, 0x0, 0x0, 0x0⟩,
  ⟨.lnkPtDomainHi, 0x400074, 4, 0x0, 0x0, 0x0, 0x0, 0x0⟩,
  ⟨.lnkPtFrameLo, 0x400078, 4, 0x0, 0x0, 0x0, 0x0, 0x0⟩,
  ⟨.lnkPtFrameHi, 0x40007C, 4, 0x0, 0x0, 0x0, 0x0, 0x0⟩,
  ⟨.lnkStreamSel, 0x400080, 4, 0x0, 0xFFF, 0x0, 0x0, 0xFFF⟩,
  ⟨.lnkStreamState, 0x400084, 4, 0x0, 0x0, 0x0, 0x0, 0x0⟩,
  ⟨.lnkPtKeyLo, 0x400088, 4, 0x0, 0x0, 0x0, 0x0, 0x0⟩,
  ⟨.lnkPtKeyHi, 0x40008C, 4, 0x0, 0x0, 0x0, 0x0, 0x0⟩]

/-- The PRT cards (R491). -/
def regsPrt : List RegDef := [
  ⟨.prtRisk, 0x480000, 1, 0x0, 0x0, 0x0, 0x0, 0x0⟩,
  ⟨.prtInputSel, 0x480004, 1, 0x0, 0x7, 0x0, 0x0, 0x7⟩,
  ⟨.prtInput, 0x480008, 1, 0x0, 0x0, 0x0, 0x0, 0x0⟩,
  ⟨.prtWeight, 0x48000C, 1, 0x0, 0x3FFFFFF, 0x0, 0x0, 0x0⟩,
  ⟨.prtGap, 0x480010, 1, 0x40, 0xFFFF, 0x0, 0x0, 0x0⟩,
  ⟨.prtCowAlloc, 0x480014, 1, 0xFFF, 0xFFF, 0x0, 0x0, 0x0⟩,
  ⟨.prtRefillAlloc, 0x480018, 1, 0xFFF, 0xFFF, 0x0, 0x0, 0x0⟩,
  ⟨.prtSnap, 0x48001C, 1, 0x0, 0x0, 0x0, 0x0, 0x0⟩,
  ⟨.prtSnapStepLo, 0x480020, 1, 0x0, 0x0, 0x0, 0x0, 0x0⟩,
  ⟨.prtSnapStepHi, 0x480024, 1, 0x0, 0x0, 0x0, 0x0, 0x0⟩,
  ⟨.prtAge, 0x480028, 1, 0x0, 0x0, 0x0, 0x0, 0x0⟩,
  ⟨.prtMirror, 0x48002C, 1, 0x0, 0x0, 0x0, 0x0, 0x0⟩,
  ⟨.prtGroupSel, 0x480030, 1, 0x0, 0x3F, 0x0, 0x0, 0x3F⟩,
  ⟨.prtGroup, 0x480034, 1, 0x0, 0x0, 0x0, 0x0, 0x0⟩,
  ⟨.prtRefill, 0x480038, 1, 0x0, 0x0, 0x0, 0x0, 0x0⟩,
  ⟨.prtRefillPosLo, 0x48003C, 1, 0x0, 0x0, 0x0, 0x0, 0x0⟩,
  ⟨.prtRefillPosHi, 0x480040, 1, 0x0, 0x0, 0x0, 0x0, 0x0⟩,
  ⟨.prtRecon, 0x480044, 1, 0x0, 0x0, 0x0, 0x0, 0x0⟩,
  ⟨.prtReconStepLo, 0x480048, 1, 0x0, 0x0, 0x0, 0x0, 0x0⟩,
  ⟨.prtReconStepHi, 0x48004C, 1, 0x0, 0x0, 0x0, 0x0, 0x0⟩]

/-- The FLT cards (R521). -/
def regsFlt : List RegDef := [
  ⟨.fltStatus, 0x500000, 1, 0x0, 0x0, 0x0, 0x0, 0x0⟩,
  ⟨.fltCount0, 0x500004, 1, 0x0, 0x0, 0x0, 0x0, 0x0⟩,
  ⟨.fltCount1, 0x500008, 1, 0x0, 0x0, 0x0, 0x0, 0x0⟩,
  ⟨.fltSeq, 0x50000C, 1, 0x0, 0x0, 0x0, 0x0, 0x0⟩,
  ⟨.fltLogSel, 0x500010, 1, 0x0, 0x7FF, 0x0, 0x0, 0x7FF⟩,
  ⟨.fltLogData, 0x500014, 1, 0x0, 0x0, 0x0, 0x0, 0x0⟩,
  ⟨.fltOrder, 0x500018, 1, 0x0, 0x0, 0x0, 0xFF00003F, 0x0⟩,
  ⟨.fltAtLo, 0x50001C, 1, 0x0, 0xFFFFFFFF, 0x0, 0x0, 0xFFFFFFFF⟩,
  ⟨.fltAtHi, 0x500020, 1, 0x0, 0xFFFF, 0x0, 0x0, 0xFFFF⟩,
  ⟨.fltStopLo, 0x500024, 1, 0x0, 0x0, 0x0, 0x0, 0x0⟩,
  ⟨.fltStopHi, 0x500028, 1, 0x0, 0x0, 0x0, 0x0, 0x0⟩,
  ⟨.fltFabricLo, 0x50002C, 1, 0x0, 0x0, 0x0, 0x0, 0x0⟩,
  ⟨.fltFabricHi, 0x500030, 1, 0x0, 0x0, 0x0, 0x0, 0x0⟩,
  ⟨.fltHaltSel, 0x500034, 1, 0x0, 0x7F, 0x0, 0x0, 0x7F⟩,
  ⟨.fltHaltData, 0x500038, 1, 0x0, 0x0, 0x0, 0x0, 0x0⟩]

/-- The HST cards (R543). -/
def regsHst : List RegDef := [
  ⟨.hstCap, 0x700000, 1, 0x412240, 0x0, 0x0, 0x0, 0x0⟩,
  ⟨.hstStart, 0x700004, 1, 0x0, 0x0, 0x0, 0x0, 0x0⟩,
  ⟨.hstStSel, 0x700008, 1, 0x0, 0xF, 0x0, 0x0, 0xF⟩,
  ⟨.hstStData, 0x70000C, 1, 0x0, 0x0, 0x0, 0x0, 0x0⟩,
  ⟨.hstRingSel, 0x700010, 1, 0x0, 0x3F, 0x0, 0x0, 0x3F⟩,
  ⟨.hstRingCfg, 0x700014, 1, 0x40, 0x7FF1, 0x0, 0x0, 0x0⟩,
  ⟨.hstRingHead, 0x700018, 1, 0x0, 0x0, 0x0, 0x0, 0x0⟩,
  ⟨.hstCmdLo, 0x70001C, 1, 0x0, 0xFFFFFFFF, 0x0, 0x0, 0x0⟩,
  ⟨.hstCmdHi, 0x700020, 1, 0x0, 0xFFFFFFFF, 0x0, 0x0, 0x0⟩,
  ⟨.hstCompLo, 0x700024, 1, 0x0, 0xFFFFFFFF, 0x0, 0x0, 0x0⟩,
  ⟨.hstCompHi, 0x700028, 1, 0x0, 0xFFFFFFFF, 0x0, 0x0, 0x0⟩,
  ⟨.hstDoorbell, 0x701000, 64, 0x0, 0x0, 0x0, 0xFFF, 0x0⟩]

/-- The PWR cards (R571). -/
def regsPwr : List RegDef := [
  ⟨.pwrStatus, 0x600000, 1, 0x8, 0x0, 0x0, 0x0, 0x0⟩,
  ⟨.pwrInput, 0x600004, 1, 0x0, 0x0, 0x0, 0x0, 0x0⟩,
  ⟨.pwrEnergy, 0x600008, 1, 0x0, 0x0, 0x0, 0x0, 0x0⟩,
  ⟨.pwrMean, 0x60000C, 1, 0x0, 0x0, 0x0, 0x0, 0x0⟩,
  ⟨.pwrDroop, 0x600010, 1, 0x0, 0x0, 0x0, 0x0, 0x0⟩,
  ⟨.pwrTherm, 0x600014, 1, 0x0, 0x0, 0x0, 0x0, 0x0⟩]

/-- The SEC cards (R572). -/
def regsSec : List RegDef := [
  ⟨.secStatus, 0x680000, 1, 0x0, 0x0, 0x0, 0x0, 0x0⟩,
  ⟨.secPolicy, 0x680004, 1, 0x0, 0x1, 0x0, 0x0, 0x0⟩,
  ⟨.secKeySel, 0x680008, 1, 0x0, 0x7, 0x0, 0x0, 0x7⟩,
  ⟨.secKeyAttr, 0x68000C, 1, 0x0, 0x0, 0x0, 0x0, 0x0⟩,
  ⟨.secKeyIdLo, 0x680010, 1, 0x0, 0x0, 0x0, 0x0, 0x0⟩,
  ⟨.secKeyIdHi, 0x680014, 1, 0x0, 0x0, 0x0, 0x0, 0x0⟩,
  ⟨.secKeyCtl, 0x680018, 1, 0x0, 0x0, 0x0, 0xF, 0x0⟩,
  ⟨.secJrnHeadLo, 0x68001C, 1, 0x0, 0x0, 0x0, 0x0, 0x0⟩,
  ⟨.secJrnHeadHi, 0x680020, 1, 0x0, 0x0, 0x0, 0x0, 0x0⟩,
  ⟨.secJrnAckLo, 0x680024, 1, 0x0, 0xFFFFFFFF, 0x0, 0x0, 0x0⟩,
  ⟨.secJrnAckHi, 0x680028, 1, 0x0, 0xFFFFFFFF, 0x0, 0x0, 0x0⟩,
  ⟨.secJrnSel, 0x68002C, 1, 0x0, 0xFFFF001F, 0x0, 0x0, 0xFFFF001F⟩,
  ⟨.secJrnData, 0x680030, 1, 0x0, 0x0, 0x0, 0x0, 0x0⟩,
  ⟨.secJrnCtl, 0x680034, 1, 0x0, 0x0, 0x0, 0x1, 0x0⟩]

/-- The OBS cards (R594). -/
def regsObs : List RegDef := [
  ⟨.obsCntCtl, 0x580000, 1, 0x0, 0x1, 0x0, 0x0, 0x0⟩,
  ⟨.obsCntAlloc, 0x580004, 1, 0xFFF, 0xFFF, 0x0, 0x0, 0x0⟩,
  ⟨.obsCntSel, 0x580008, 1, 0x0, 0x3FF, 0x0, 0x0, 0x3FF⟩,
  ⟨.obsCntData, 0x58000C, 1, 0x0, 0x0, 0x0, 0x0, 0x0⟩,
  ⟨.obsTrcAlloc, 0x580010, 1, 0xFFF, 0xFFF, 0x0, 0x0, 0x0⟩,
  ⟨.obsTrcCfg, 0x580014, 1, 0x10003F, 0x7F073F, 0x0, 0x0, 0x0⟩,
  ⟨.obsTrcTrig, 0x580018, 1, 0xFFFF0000, 0xFFFFFFFF, 0x0, 0x0, 0x0⟩,
  ⟨.obsTrcCtl, 0x58001C, 1, 0x0, 0x0, 0x0, 0x7, 0x0⟩,
  ⟨.obsTrcStatus, 0x580020, 1, 0x0, 0x0, 0x800, 0x0, 0x0⟩,
  ⟨.obsTrcLostLo, 0x580024, 1, 0x0, 0x0, 0x0, 0x0, 0x0⟩,
  ⟨.obsTrcLostHi, 0x580028, 1, 0x0, 0x0, 0x0, 0x0, 0x0⟩,
  ⟨.obsTrcHeadLo, 0x58002C, 1, 0x0, 0x0, 0x0, 0x0, 0x0⟩,
  ⟨.obsTrcHeadHi, 0x580030, 1, 0x0, 0x0, 0x0, 0x0, 0x0⟩,
  ⟨.obsTrcSel, 0x580034, 1, 0x0, 0x707FFFF, 0x0, 0x0, 0x707FFFF⟩,
  ⟨.obsTrcData, 0x580038, 1, 0x0, 0x0, 0x0, 0x0, 0x0⟩]

/-- Every register card. -/
def regTable : List RegDef :=
  regsCtl ++ regsFrm ++ regsBnd ++ regsCht ++ regsFwd ++ regsMnt ++ regsBwd ++ regsRow ++ regsLdg ++ regsMem ++ regsLay ++ regsLnk ++ regsPrt ++ regsFlt ++ regsHst ++ regsPwr ++ regsSec ++ regsObs

/-- The BAR0 address of a register's instance: the doorbells follow each other; any other instance stands 0x1_0000
further on, or 0x80_0000 more when that lies outside the block's room (R17). -/
def RegDef.at (d : RegDef) (i : Nat) : Nat :=
  if d.reg = .hstDoorbell then d.addr + 4 * i
  else
    let room := if d.addr < 0x180000 then 0x180000 else if d.addr < 0x1C0000 then 0x1C0000
      else if d.addr < 0x200000 then 0x200000 else if d.addr < 0x280000 then 0x280000
      else if d.addr < 0x300000 then 0x300000 else if d.addr < 0x380000 then 0x380000
      else if d.addr < 0x400000 then 0x400000 else 0x480000
    if d.count ≤ 1 then d.addr
    else if d.addr + 0x10000 * i < room then d.addr + 0x10000 * i
    else d.addr + 0x800000 + 0x10000 * i

/-- The card of a register. -/
def Reg.card (r : Reg) : RegDef := (regTable.find? (fun d => d.reg = r)).getD ⟨.ctlIdent, 0, 1, 0, 0, 0, 0, 0⟩

/-- The instance of a card that stands at an address. -/
def RegDef.instanceAt (d : RegDef) (a : Nat) : Option Nat := (List.range d.count).find? (fun i => d.at i = a)

/-- The register and instance at a BAR0 address; `none` where no register stands (R10). -/
def regAt (a : Nat) : Option (RegDef × Nat) :=
  regTable.findSome? (fun d => (d.instanceAt a).map (fun i => (d, i)))

/-- Low registers of 64-bit quantities: a read latches the register after it (R11). DOMAIN and PT_DOMAIN hold separate
fields in their two words and are no such quantity. DEDUCED, log entry 10. -/
def Reg.isLow (r : Reg) : Bool :=
  [Reg.frmCountLo, .frmOvrFrameLo, .bndSlackLo, .chtIdLo, .chtEffectLo, .fwdPlanesLo, .fwdSkippedLo, .bwdCyclesLo,
   .rowContribLo, .ldgStepLo, .ldgEstepLo, .ldgClearedLo, .ldgSettledLo, .ldgSumLo, .memUeAddrLo, .memAllocSizeLo,
   .layElemsLo, .lnkSelfLo, .lnkRefLo, .lnkPtFpLo, .lnkPtFrameLo, .lnkPtKeyLo, .prtSnapStepLo, .prtRefillPosLo,
   .prtReconStepLo, .fltAtLo, .fltStopLo, .fltFabricLo, .hstCmdLo, .hstCompLo, .secKeyIdLo, .secJrnHeadLo,
   .secJrnAckLo, .obsTrcLostLo, .obsTrcHeadLo].contains r

/-- The high registers of 64-bit read-write quantities (R12). -/
def Reg.isHighRw (r : Reg) : Bool := [Reg.fltAtHi, .hstCmdHi, .hstCompHi, .secJrnAckHi].contains r

/-- The low registers of 64-bit read-write quantities (R12). -/
def Reg.isLowRw (r : Reg) : Bool := [Reg.fltAtLo, .hstCmdLo, .hstCompLo, .secJrnAckLo].contains r

end Sys2Proof.Machine
end

