-- ==== Sys2Proof/Config.lean ====
section
/-! DEFINITION. What the spec fixes per device or leaves open: constants without a body, so that no
proof can lean on their values. -/

namespace Sys2Proof.Config

/-- The identity public key's 1,793-byte encoding (R552), as one number, byte 0 lowest: generated at manufacture, different on every
module. Log entry 4. -/
opaque identityKey : BitVec 14344

/-- SERIAL of the device's identity certificate (Table 13.4), given by Keriaver. Log entry 4. -/
opaque certSerial : BitVec 64

/-- Key identifier of the Keriaver device CA, which issues identity certificates (Table 13.3). Log entry 4. -/
opaque deviceCa : BitVec 128

/-- The device CA's signature of the identity certificate. Log entry 4. -/
opaque certSignature : List Byte

/-- The digest of the image that a firmware update announces as it starts, fresh for each value of the counter (R561). Log entry 200. -/
opaque announcedImage : Nat → BitVec 256

/-- exp of the row-engine function unit (Table 6.8): the KV-H1 vector set fixes its bits and the
manual does not print them. A free value, a function of the operand. Log entry 5. -/
opaque fnExp : BitVec 32 → BitVec 32

/-- log of the function unit (Table 6.8). A free value. Log entry 5. -/
opaque fnLog : BitVec 32 → BitVec 32

/-- rsqrt of the function unit (Table 6.8). A free value. Log entry 5. -/
opaque fnRsqrt : BitVec 32 → BitVec 32

/-- tanh of the function unit (Table 6.8). A free value. Log entry 5. -/
opaque fnTanh : BitVec 32 → BitVec 32

/-- SiLU of the function unit (Table 6.8). A free value. Log entry 5. -/
opaque fnSilu : BitVec 32 → BitVec 32

/-- GELU, tanh form, of the function unit (Table 6.8). A free value. Log entry 5. -/
opaque fnGelu : BitVec 32 → BitVec 32

/-- The derivative f′ of GELU that EW_B multiplies by (Table 6.9). A free value. Log entry 5. -/
opaque fnGeluD : BitVec 32 → BitVec 32

/-- The derivative f′ of SiLU (Table 6.9). A free value. Log entry 5. -/
opaque fnSiluD : BitVec 32 → BitVec 32

/-- The derivative f′ of tanh (Table 6.9). A free value. Log entry 5. -/
opaque fnTanhD : BitVec 32 → BitVec 32

/-- The derivative f′ of the maximum (SUB 0x03 of EW_B), which the spec does not state. A free value. Log entry 5. -/
opaque fnMaxD : BitVec 32 → BitVec 32

/-- Which of two copies of different engines, whose spans overlap, leaves its value in a byte
("Two copies writing one element", 08_memory_and_layout.md: the H1 does not define it): `true` when
the copy issued later does. First argument: the free-value counter; second: the byte's address.
Log entry 6. -/
opaque laterCopyWins : Nat → Nat → Bool

/-- The bytes a decoder delivers for a codeword with six or more symbols in error (Table 8.3: no
outcome is guaranteed): `none` when it is detected, else the delivered granule. Log entry 7. -/
opaque sixSymbols : Nat → Nat → Option (BitVec 512)

/-- Bytes of a flit's payload beyond its data (R407), by header and byte: the spec does not state them. Log entry 160. -/
opaque flitPad : Nat → Nat → BitVec 8

/-- The identity key's signature of a 512-bit digest (R552). Falcon-1024 signatures are not a function of what they sign: fresh for each
value of the counter. Log entry 3. -/
opaque signature : Nat → Nat → List Byte

/-- The DRAM die (0 to 15) of a stack that serves a granule, numbered by device physical address / 64: how rows lie across the dies is not
stated (R369). Log entry 14. -/
opaque dramDie : Nat → Nat

/-- DIGEST8 of a self-test without a mismatch (Table 12.8): the same on devices of every stepping (R487); the spec does not print it. Log
entry 198. -/
opaque selfTestDigest : BitVec 64

/-- The counter entry of a stack's memory request queue (Table 14.1) in a frame and cycle: how long requests wait there is not stated. Log
entry 202. -/
opaque requestQueue : Nat → Nat → BitVec 128

/-- A value the spec leaves open, fresh for each value of the counter. Log entry 8. -/
opaque freeWord : Nat → BitVec 64

end Sys2Proof.Config
end

