-- ==== Sys2Proof/Machine/Shake.lean ====
section
/-! DEFINITION. The byte-string functions that the spec names by their public standards: SHAKE256 (R94,
R552, R563), the bundle header's CRC-16 (R47) and the Reed–Solomon check symbols of a granule (R363).
SHAKE256 is PRESUMED to be that of FIPS 202; log entry 11. -/

namespace Sys2Proof.Machine

/-! ### Keccak-f[1600] on lanes held as numbers, lane (x, y) at index x + 5y -/

/-- Rotation of a 64-bit lane to the left. -/
def rotl64 (v n : Nat) : Nat := ((v <<< n) % 2 ^ 64) ||| (v >>> (64 - n))

/-- Lane `i` of a state. -/
def lane (a : List Nat) (i : Nat) : Nat := a.getD i 0

/-- Rotation offsets of step ρ, by lane index. -/
def keccakRho : List Nat :=
  [0, 1, 62, 28, 27, 36, 44, 6, 55, 20, 3, 10, 43, 25, 39, 41, 45, 15, 21, 8, 18, 2, 61, 56, 14]

/-- Round constants of step ι. -/
def keccakRc : List Nat :=
  [0x0000000000000001, 0x0000000000008082, 0x800000000000808A, 0x8000000080008000, 0x000000000000808B,
   0x0000000080000001, 0x8000000080008081, 0x8000000000008009, 0x000000000000008A, 0x0000000000000088,
   0x0000000080008009, 0x000000008000000A] ++
  [0x000000008000808B, 0x800000000000008B, 0x8000000000008089, 0x8000000000008003, 0x8000000000008002,
   0x8000000000000080, 0x000000000000800A, 0x800000008000000A, 0x8000000080008081, 0x8000000000008080,
   0x0000000080000001, 0x8000000080008008]

/-- Step θ. -/
def keccakTheta (a : List Nat) : List Nat :=
  let c := (List.range 5).map (fun x =>
    lane a x ^^^ lane a (x + 5) ^^^ lane a (x + 10) ^^^ lane a (x + 15) ^^^ lane a (x + 20))
  let d := (List.range 5).map (fun x => lane c ((x + 4) % 5) ^^^ rotl64 (lane c ((x + 1) % 5)) 1)
  (List.range 25).map (fun i => lane a i ^^^ lane d (i % 5))

/-- Steps ρ and π: lane (x, y) moves to (y, 2x + 3y). -/
def keccakRhoPi (a : List Nat) : List Nat :=
  (List.range 25).map (fun i =>
    let x' := i % 5
    let y' := i / 5
    -- the source (x, y) has y = x' and 2x + 3y = y' (mod 5)
    let y := x'
    let x := (3 * (y' + 5 * 3 - 3 * y)) % 5
    rotl64 (lane a (x + 5 * y)) (lane keccakRho (x + 5 * y)))

/-- Step χ. -/
def keccakChi (a : List Nat) : List Nat :=
  (List.range 25).map (fun i =>
    let x := i % 5
    let r := 5 * (i / 5)
    lane a i ^^^ ((lane a ((x + 1) % 5 + r) ^^^ (2 ^ 64 - 1)) &&& lane a ((x + 2) % 5 + r)))

/-- One round. -/
def keccakRound (a : List Nat) (rc : Nat) : List Nat :=
  match keccakChi (keccakRhoPi (keccakTheta a)) with
  | [] => []
  | l :: r => (l ^^^ rc) :: r

/-- The permutation: 24 rounds. -/
def keccakF (a : List Nat) : List Nat := keccakRc.foldl keccakRound a

/-- The 64-bit lanes of a block of 136 bytes. -/
def blockLanes (b : List Byte) : List Nat := (chunks 8 b).map leNat

/-- Absorb one block. -/
def absorb (a : List Nat) (b : List Byte) : List Nat :=
  let ls := blockLanes b
  keccakF ((List.range 25).map (fun i => lane a i ^^^ lane ls i))

/-- SHAKE256 padding to whole blocks of 136 bytes: 0x1F, zeros, 0x80 in the last byte. -/
def shakePad (m : List Byte) : List Byte :=
  let z := 136 - 1 - m.length % 136
  if z = 0 then m ++ [0x9F] else m ++ [0x1F] ++ List.replicate (z - 1) 0 ++ [0x80]

/-- The first 64 output bytes of SHAKE256, as a number of 512 bits, byte 0 lowest (R94). -/
def shake512 (m : List Byte) : Nat :=
  let a := (chunks 136 (shakePad m)).foldl absorb (List.replicate 25 0)
  (List.range 8).foldr (fun i acc => lane a i + 2 ^ 64 * acc) 0

/-- The first 32 output bytes of SHAKE256 (R558, Table 13.6). -/
def shake256 (m : List Byte) : Nat := shake512 m % 2 ^ 256

/-- The key identifier of a public key encoding: the first 16 bytes of its digest (R552). -/
def keyIdOf (key : List Byte) : Nat := shake512 key % 2 ^ 128

/-! ### CRC-16 of a bundle header (R47) -/

/-- One bit fed into the CRC register. -/
def crcBit (r : Nat) (b : Bool) : Nat :=
  let top := r.testBit 15
  let r' := (r <<< 1) % 65536
  if top != b then r' ^^^ 0x1021 else r'

/-- CRC-16 over header bits [47:0], fed from bit 47 down to bit 0. -/
def crcHeader (h : Nat) : Nat := (List.range 48).foldl (fun r i => crcBit r (h.testBit (47 - i))) 0xFFFF

/-! ### CRC-32C of a flit (R407) -/

/-- One byte fed into the CRC-32C register, reflected (polynomial 0x1EDC6F41). -/
def crc32Byte (r : Nat) (b : Byte) : Nat :=
  (List.range 8).foldl (fun (x : Nat) _ => if x % 2 = 1 then (x / 2) ^^^ 0x82F63B78 else x / 2) (r ^^^ b.toNat)

/-- CRC-32C: the spec names the code and not its polynomial, initial value, bit order and final XOR (PRESUMED, log entry 161). -/
def crc32c (b : List Byte) : Nat := (b.foldl crc32Byte 0xFFFFFFFF) ^^^ 0xFFFFFFFF

/-! ### Reed–Solomon (72, 64) over GF(2^8), field polynomial 0x11D (R363) -/

/-- Multiplication by α. -/
def gfX (a : Nat) : Nat := let b := a * 2; if b ≥ 256 then b ^^^ 0x11D else b

/-- Multiplication in the field: the sum of `a·α^i` over the set bits of `b`. -/
def gfMul (a b : Nat) : Nat :=
  ((List.range 8).foldl (fun (acc : Nat × Nat) i =>
    (if b.testBit i then acc.1 ^^^ acc.2 else acc.1, gfX acc.2)) (0, a)).1

/-- α^k. -/
def gfPow : Nat → Nat
  | 0 => 1
  | k + 1 => gfX (gfPow k)

/-- Multiply a polynomial (highest coefficient first) by (x − c). -/
def polyMulRoot (p : List Nat) (c : Nat) : List Nat :=
  List.zipWith (· ^^^ ·) (p ++ [0]) (0 :: p.map (gfMul c))

/-- Generator (x − α^0)(x − α^1)…(x − α^7), highest coefficient first. -/
def rsGen : List Nat := (List.range 8).foldl (fun p i => polyMulRoot p (gfPow i)) [1]

/-- The 8 check symbols of a systematic codeword, from the symbols in order (symbol 0 the highest). -/
def rsCheck (data : List Nat) : List Nat :=
  data.foldl (fun reg d =>
    let f := d ^^^ reg.headD 0
    List.zipWith (· ^^^ ·) (reg.drop 1 ++ [0]) ((rsGen.drop 1).map (gfMul f))) (List.replicate 8 0)

/-- The stored codeword of a granule: 64 data symbols and 8 check symbols. -/
def rsEncode (data : List Nat) : List Nat := data ++ rsCheck data

/-- The check symbols of a granule stored poisoned: each XORed with 0xFF (R366). -/
def rsPoison (data : List Nat) : List Nat := data ++ (rsCheck data).map (· ^^^ 0xFF)

/-! ### The device identity (R552 to R554) -/

/-- The digest of the identity public key's 1,793-byte encoding. -/
def identityDigest : Nat := shake256 (leBytes 1793 Config.identityKey.toNat)

end Sys2Proof.Machine

namespace Sys2Proof.Config

/-- The device fingerprint: the first 8 bytes of the digest of the identity public key's encoding (R553). -/
@[irreducible] def fingerprint : BitVec 64 := BitVec.ofNat 64 Machine.identityDigest

end Sys2Proof.Config

namespace Sys2Proof.Machine

/-- A Falcon-1024 signature by the identity key, of the 512-bit digest of bytes (R552), at most 1,280 bytes long. -/
def signBytes (n : Nat) (b : List Byte) : List Byte := (Config.signature n (shake512 b)).take 1280

/-- The identity certificate, which the device CA has issued (Table 13.4): KIND 1, stepping 1 as CTL.IDENT gives it. -/
def identityCert : List Byte :=
  let sig := Config.certSignature.take 1280
  leBytes 4 0x54524543 ++ leBytes 1 1 ++ leBytes 1 1 ++ leBytes 2 1793 ++ leBytes 8 Config.certSerial.toNat ++
  leBytes 16 Config.deviceCa.toNat ++ leBytes 8 Config.fingerprint.toNat ++ leBytes 2 0x4831 ++ leBytes 1 1 ++ leBytes 21 0 ++
  leBytes 1793 Config.identityKey.toNat ++ leBytes 63 0 ++ leBytes 2 sig.length ++ sig

/-- What R554 asks of a received certificate of a KIND besides its signature: the layout of Table 13.4 with its reserved fields 0, the
issuer, and for an identity certificate SUBJECT, the first 8 bytes of the digest of KEY. -/
def certLaid (kind issuer : Nat) (b : List Byte) : Bool :=
  let n := bytesAt b
  n 0 4 = 0x54524543 && n 4 1 = 1 && n 5 1 = kind && n 6 2 = 1793 && n 16 16 = issuer && n 40 2 = 0x4831 && n 43 21 = 0 && n 1857 63 = 0 &&
  decide (n 1920 2 ≤ 1280) && decide (b.length = 1922 + n 1920 2) &&
  (if kind = 1 then n 32 8 = shake256 ((b.drop 64).take 1793) % 2 ^ 64 else n 32 8 = 0 && n 42 1 = 0)

end Sys2Proof.Machine
end

