-- ==== Sys2Proof/Machine/State.lean ====
section
/-! DEFINITION. The state of the H1: everything the spec gives the chip, as plain data, grouped by the
chapters of the spec. The default value of every field is its value at reset. Registers whose value is
not computed from another field stand in `Dev.regs`; an address that the list does not hold reads as the
reset value of its card (RegTable.lean). -/

namespace Sys2Proof.Machine

/-- Why a step can stop with a fault: the spec gives every command of the table an effect in every state, so
nothing raises one. -/
inductive Fault where
  /-- Raised by no command. Safe: a stop where the hardware goes on proves no false claim. -/
  | noSuchFault
  deriving DecidableEq, Repr

/-- Why a step can refuse a command. -/
inductive Refusal where
  /-- The command has no meaning in the model yet; raised by Dispatch.lean only. Safe. -/
  | notModelled (mnemonic : String)
  deriving DecidableEq, Repr

/-- Byte-addressed memory: (address, byte) pairs with rising addresses, none of them equal to what an
unlisted address reads as (Ops.lean). -/
abbrev Memory := List Host.Cell

/-- What an unlisted byte reads as: DRAM and SRAM after power-on hold nothing the spec states. DESIGN
CHOICE, log entry 1. -/
def Memory.blank : Byte := 0

/-! ### Faults and orders (11_faults_and_stops.md) -/

/-- The severities of Table 11.2, ascending. -/
inductive Severity where
  | notice
  | degrade
  | stepAbort
  | chipStop
  deriving DecidableEq, Repr

/-- A fault record (Table 11.3). -/
structure FaultRec where
  code : Nat
  sev : Severity
  preempted : Bool := false
  downgraded : Bool := false
  overflow : Bool := false
  unit : Nat := 0xFF
  wher : Nat := 0
  rep : Nat := 0
  frame : Nat := 0
  cycle : Nat := 0
  seq : Nat := 0
  detail : Nat := 0
  deriving DecidableEq, Repr

/-- FLT.STATUS.STOP (Table 11.12). -/
inductive StopState where
  | running
  | stopping
  | stopped
  | halted
  | chipStopped
  deriving DecidableEq, Repr

/-- The command an entry of a ring belongs to (R530, R535, R579). -/
structure CmdRef where
  ring : Nat := 0
  index : Nat := 0
  opcode : Nat := 0
  irq : Bool := false
  tag : Nat := 0
  /-- Admitting frame. -/
  admitted : Nat := 0
  /-- Deadline tick. -/
  deadline : Nat := 0
  /-- Phase of the ring's lap and address of its completion area, sampled at admission. -/
  phase : Bool := true
  comp : Nat := 0
  /-- Sequence number of its counter record, when it has one (R579). -/
  record : Option Nat := none
  deriving DecidableEq, Repr

/-- An order waiting for its tick (R501 to R506). -/
structure Order where
  src : Master
  /-- The order, laid out as FLT.ORDER[7:0]. -/
  bits : Nat
  key : Nat
  at_ : Nat
  arrival : Nat
  /-- Fingerprint of the chip a peer order arrived from. -/
  who : Nat := 0
  /-- ORIGIN and ISSUE of a peer's marker. -/
  origin : Nat := 0
  issue : Nat := 0
  /-- The stop command it came from (R534). -/
  cmd : Option CmdRef := none
  /-- Its place among the orders and register writes of its frame, in order of arrival (R504). -/
  pos : Nat := 0
  deriving DecidableEq, Repr

/-- A stop that has been applied and is not yet due (R505, R507). -/
structure PendingStop where
  /-- The tick from which it may take effect. -/
  t : Nat
  now : Bool
  boundary : Bool
  src : Nat
  /-- Code of the chip-stop fault behind it; 0 for an order. -/
  cause : Nat := 0
  /-- The order behind a stop at a step boundary: it is journalled when it takes effect (R507, R615). -/
  order : Option Order := none
  deriving DecidableEq, Repr

/-- A fabric stop marker (Table 11.7). -/
structure Marker where
  now : Bool
  t : Nat
  origin : Nat
  issue : Nat
  /-- SOURCE of Table 11.8: the master that ordered it here, or 2 for a peer's marker. -/
  src : Nat := 2
  deriving DecidableEq, Repr

/-- The halt record (Tables 11.8 and 11.9). -/
structure HaltRecord where
  frame : Nat
  h : Nat
  cause : Nat
  source : Nat
  index : Nat
  seq : Nat
  step : Nat
  /-- OFFSET, FLAGS and SEQ of each unit. -/
  units : List (Nat × Nat × Nat)
  deriving DecidableEq, Repr

/-- The fault sequencer, the orders and the stop logic. -/
structure Flt where
  /-- Waiting records, in the order in which they were raised (R496). -/
  queue : List FaultRec := []
  /-- The record being handled (R497). -/
  handling : Option FaultRec := none
  /-- The reserved slot of a 0x1060 record (R498). -/
  reserved : Option FaultRec := none
  /-- FLT.STATUS.OVERFLOW. -/
  overflow : Bool := false
  /-- The newest 256 handled records, newest first (R499). -/
  log : List FaultRec := []
  /-- SEQ of the next record. -/
  nextSeq : Nat := 0
  /-- The record whose step-abort cancels the step at the next tick (R45, R495). -/
  cancel : Option FaultRec := none
  stop : StopState := .running
  /-- A chip-stop has been taken: the stop ends only by a reset (R516). -/
  chipStop : Bool := false
  /-- The tick T at which the stop in progress took effect. -/
  stopTick : Nat := 0
  orders : List Order := []
  /-- The pending stop at a tick, and the one that waits for a step boundary (R505, R507). -/
  pending : Option PendingStop := none
  boundary : Option PendingStop := none
  /-- A resume that waits for the chip to be stopped (R517). -/
  resume : Option Order := none
  fabric : Option Marker := none
  /-- The halt in progress: cycle h, its source and cause, until HALTED. -/
  halting : Option (Nat × Nat × Nat) := none
  haltRecord : Option HaltRecord := none
  /-- The last stop was a halt: the units stand where it caught them, until a resume (R514). -/
  caught : Bool := false
  /-- A reset order of the last tick's orders. -/
  resetNow : Bool := false
  deriving DecidableEq, Repr

/-! ### The host edge (12_host_and_startup.md) -/

/-- One command ring (R527 to R529). -/
structure Ring where
  /-- RING_CFG fields. -/
  vector : Nat := 0
  log2 : Nat := 4
  enable : Bool := false
  /-- CMD and COMP registers. -/
  cmd : Nat := 0
  comp : Nat := 0
  /-- Sampled at enabling. -/
  live : Bool := false
  n : Nat := 4
  cmdBase : Nat := 0
  compBase : Nat := 0
  head : Nat := 0
  phase : Bool := false
  tail : Nat := 0
  /-- Entries whose commands have not completed (R529). -/
  open_ : List Nat := []
  deriving DecidableEq, Repr

/-- A completion record that waits to be written (Table 12.5). -/
structure Completion where
  cmd : CmdRef
  status : Nat
  stepFlags : Nat := 0
  step : Nat := 0
  fault : Option FaultRec := none
  deriving DecidableEq, Repr

/-- An HDM decoder (R524): host base, size and DPA start, in bytes. -/
structure Hdm where
  base : Nat
  size : Nat
  start : Nat
  deriving DecidableEq, Repr

/-- The self-test record (Table 12.8). -/
structure SelfTest where
  result : Nat := 0
  step : Nat := 0
  vectors : Nat := 0
  mismatch : Nat := 0
  digest8 : Nat := 0
  links : List (Nat × Nat) := []
  deriving DecidableEq, Repr

/-- What leaves the chip for the host, the management port or the fabric. -/
inductive Out where
  /-- A BAR0 read's value. -/
  | value (v : Nat)
  /-- A CXL.mem read: the granule and the poison indication. -/
  | memData (g : BitVec 512) (poison : Bool)
  /-- A CXL.mem write's completion. -/
  | memDone
  /-- Configuration Request Retry Status. -/
  | retry
  /-- A configuration request's normal completion. -/
  | configDone
  /-- The snoop answer "no data". -/
  | snoopMiss
  /-- The CXL commit error (`false`) or commit done. -/
  | commit (ok : Bool)
  /-- An MSI-X vector. -/
  | msix (v : Nat)
  /-- A management response: accepted or refused. -/
  | accepted (ok : Bool)
  /-- A management response made of bytes. -/
  | bytes (b : List Byte)
  /-- An MCTP error completion of the recovery service (R603). -/
  | mctpError
  /-- A PLDM busy completion. -/
  | pldmBusy
  /-- A data flit on a port: its 640 bytes (R407). -/
  | flit (port : Nat) (bytes : List Byte)
  /-- An idle flit on a port that carries an ACK or a NACK (R414): its 640 bytes. -/
  | ack (port : Nat) (bytes : List Byte)
  /-- A control flit on a lane: its 640 bytes. -/
  | control (port lane : Nat) (bytes : List Byte)
  /-- A hail begun on a port: kind (1 hail, 2 update, 3 farewell) and its bytes (Table 9.6). Its segments go out in control flits. -/
  | hail (port : Nat) (kind : Nat) (body : List Byte)
  deriving DecidableEq, Repr

/-- The host interface and the start-up stages. -/
structure Hst where
  rings : List Ring := (List.range 64).map (fun r => { vector := r })
  /-- HST.START.STAGE and FAILED. -/
  stage : Nat := 0
  failed : Bool := false
  selfTest : SelfTest := {}
  hdm0 : Option Hdm := none
  hdm1 : Option Hdm := none
  done : List Completion := []
  /-- Rings at whose head a run command waits (R30, R532). -/
  runWaiting : List Nat := []
  /-- Host copies that the host copy engine has admitted and not completed, oldest first, with their outcomes. -/
  copies : List Completion := []
  /-- Stacks that have trained. -/
  trained : Nat := 0
  /-- SMBus address (R601). -/
  smbus : Nat := 0
  /-- The THERMTRIP# latch (R602), a pin of the module. -/
  thermTrip : Bool := false
  /-- The microswitches of the laser-feed receptacles, a bit for each, as they stood at the last tick (R605; log entry 177). -/
  seated : Nat := 0
  /-- Cause latched in the power controller while the rails are off (R545). -/
  latchedCause : Option Nat := none
  deriving DecidableEq, Repr

/-! ### Frames and the bundle sequencer (01_frames_and_bundles.md) -/

/-- A box of elements: first and last row, first and last column (R391). -/
structure Box where
  r0 : Int
  r1 : Int
  c0 : Int
  c1 : Int
  deriving DecidableEq, Repr

/-- The active run command (R31, R47). -/
structure RunCmd where
  cmd : CmdRef
  base : Nat
  optab : Nat
  n : Nat
  loops : List Nat
  /-- S, frames per step. -/
  s : Nat
  /-- Steps finished. -/
  done : Nat := 0
  /-- Frame of the first step. -/
  first : Nat
  /-- Boxes registered at creation: operand index, allocation and box (R391). -/
  boxes : List (Nat × Nat × Box) := []
  /-- STEP of the last step begun. -/
  lastStep : Nat := 0
  /-- A step's clearing has completed under the command (STEPFLAGS of Table 12.5). -/
  cleared : Bool := false
  deriving DecidableEq, Repr

/-- The bundle sequencer. -/
structure Seq where
  run : Option RunCmd := none
  /-- A step is in progress. -/
  inStep : Bool := false
  /-- STEP_END has ended the step in this frame. -/
  stepEnded : Bool := false
  /-- The frame's stream has ended, or nothing issues in this frame. -/
  waiting : Bool := true
  /-- Store index of the next bundle. -/
  index : Nat := 0
  /-- Issue cycle of the next bundle. -/
  cycle : Nat := 0
  /-- Span of the last bundle issued: its slots act in [lastCycle, lastCycle + lastSpan). -/
  lastCycle : Nat := 0
  lastSpan : Nat := 0
  lastIndex : Nat := 0
  lastSeq : Nat := 0
  /-- Loop counters 0 to 15. -/
  counters : List Nat := List.replicate 16 0
  /-- Open loops, innermost first: counter and the store index after its LOOP_OPEN (R55). -/
  nest : List (Nat × Nat) := []
  /-- Frame of the step in progress, from 0. -/
  stepFrame : Nat := 0
  /-- Index of the step in progress within the run. -/
  stepIndex : Nat := 0
  /-- Targets of the last bundle's non-empty slots, with the operation and ARG each performs (R50). -/
  acting : List (Nat × Nat × Nat) := []
  deriving DecidableEq, Repr

/-- The frame unit. -/
structure Frm where
  /-- Frame counter, 48 bits. -/
  frame : Nat := 0
  /-- No tick has been raised since the reset: the first tick is tick 0 (R24). -/
  started : Bool := false
  /-- Stretch debt of the frame (R22). -/
  debt : Nat := 0
  aligned : Bool := false
  joining : Bool := false
  /-- Cycle of the frame at which the chip now acts. -/
  cycle : Nat := 0
  /-- Offset of this chip's tick from the reference, in reference periods. -/
  offset : Int := 0
  deriving DecidableEq, Repr

/-- An admitted copy that has not completed: its committed end and the ranges of model addresses it wrote. -/
structure Job where
  stop : Nat := 0
  /-- Cycle at which the engine begins to move elements: 32 cycles of set-up after its start (R33). -/
  begins : Nat := 0
  ranges : List (Nat × Nat) := []
  /-- It failed and writes nothing further (R398): its last element has been written (Table 8.15). -/
  halted : Bool := false
  deriving DecidableEq, Repr

/-- An engine's admission state (R34, R35): its committed end and its admitted jobs, oldest first. -/
structure Engine where
  committed : Nat := 0
  jobs : List Job := []
  deriving DecidableEq, Repr

/-- The LAY counters of a stack in the step (R402). -/
structure LayCount where
  copies : Nat := 0
  elems : Nat := 0
  folded : Nat := 0
  padskip : Nat := 0
  foldsat : Nat := 0
  deriving DecidableEq, Repr

/-! ### The charter (02_charter.md) -/

/-- A charter's sections, entry by entry (Table 2.3). -/
structure Charter where
  id : Nat := 0
  digest : BitVec 512 := 0
  settings : BitVec 512 := 0
  groups : List (BitVec 256) := []
  routing : BitVec 1536 := 0
  streams : List (BitVec 128) := []
  allocs : List (BitVec 256) := []
  layers : List (BitVec 128) := []
  tensors : List (BitVec 128) := []
  prot : List (BitVec 512) := []
  energy : List (BitVec 32) := []
  deriving DecidableEq, Repr

/-- A load in the charter loader (R109 to R112). -/
structure Loader where
  cmd : CmdRef
  addr : Nat
  length : Nat
  /-- Effect tick. -/
  effect : Nat
  /-- The charter that the image gives, once it has been read and has passed its checks (R111). -/
  staged : Option Charter := none
  /-- The fault that cancels the load at the next tick (R26). -/
  spoiled : Option FaultRec := none
  deriving DecidableEq, Repr

/-- The charter block. -/
structure Cht where
  active : Option Charter := none
  loader : Option Loader := none
  deriving DecidableEq, Repr

/-! ### Memory and its attachments (08_memory_and_layout.md) -/

/-- What belongs to the device memories beside their bytes. Granules and blocks are numbered by model
address (Ops.lean) divided by 64 and by 4,096. -/
structure Stk where
  /-- Granules stored poisoned (R366), and SRAM granules with the poison bit (R370), rising. -/
  poison : List Nat := []
  /-- Ledger blocks under a zero mark (R310), rising. -/
  zero : List Nat := []
  /-- Symbols in error of stored codewords, as scrub and host reads have found them (R364); of an SRAM granule, the mask of its cells in error
  (R370). -/
  upsets : List (Nat × Nat) := []
  /-- Scrub position of each stack, in granules (R368). -/
  scrub : List Nat := List.replicate 12 0
  /-- Granules with corrected errors in the last pass and in this one (R369). -/
  corrected : List Nat := []
  correctedNow : List Nat := []
  /-- Spare rows in use, by 16 × stack + DRAM die (R369). -/
  spares : List (Nat × Nat) := []
  /-- Dies reported by 0x6024. -/
  spareOut : List Nat := []
  /-- Corrected granules that wait for their write-back (R365). -/
  writeback : List Nat := []
  deriving DecidableEq, Repr

/-! ### Step statistics (05_mint_and_scale.md, 07) -/

/-- The summary of a tensor in a step (R235) and its histogram. -/
structure TensorStats where
  sat : Nat := 0
  zero : Nat := 0
  nonfin : Nat := 0
  void : Nat := 0
  rerun : Nat := 0
  hist : Hist := {}
  deriving DecidableEq, Repr

/-- The statistics of a layer in a step (Table 5.13). -/
structure LayerStats where
  /-- Plane census of R202: entry p − 1 counts vectors that needed p planes. -/
  census : List Nat := List.replicate 8 0
  clip : Nat := 0
  gzero : Nat := 0
  glive : Nat := 0
  deriving DecidableEq, Repr

/-- The step flags of MNT.FLAGS[7:0] (Table 5.16), in bit order. -/
structure StepFlags where
  cold : Bool := false
  nonfin : Bool := false
  ovf : Bool := false
  gsat : Bool := false
  clip : Bool := false
  rdecl : Bool := false
  silent : Bool := false
  ssat : Bool := false
  deriving DecidableEq, Repr

/-- The mint counters of a stack, live in the step (R263). -/
structure MintCount where
  sat : Nat := 0
  zero : Nat := 0
  nonfin : Nat := 0
  void : Nat := 0
  rerun : Nat := 0
  deriving DecidableEq, Repr

/-- Statistics of a tracked block in a step (R234). B_HI and B_LO are F32 codes. -/
structure BlockStats where
  hi : Nat := 0
  lo : Nat := 0
  sat : Nat := 0
  zero : Nat := 0
  ovf : Bool := false
  rerun : Bool := false
  deriving DecidableEq, Repr

/-- The mint and scale block. -/
structure Mnt where
  /-- Tracker table allocation sampled at the run's admission. -/
  table : Nat := 0xFFF
  /-- Current bank of the table. -/
  bank : Nat := 0
  /-- The step in progress is a warm-up step. -/
  warmup : Bool := false
  tensors : List (Nat × TensorStats) := []
  /-- By 2^32 × TENSORS index + tracker index. -/
  blocks : List (Nat × BlockStats) := []
  layers : List (Nat × LayerStats) := []
  flags : StepFlags := {}
  counts : List (Nat × MintCount) := []
  /-- What settlement has counted since the last capture, by stack and by tensor: it joins the next one (R176, R263). -/
  carry : List (Nat × MintCount) := []
  carryTensors : List (Nat × TensorStats) := []
  /-- 0x4010 and 0x4011 are raised at most once per step (R261). -/
  raised4010 : Bool := false
  raised4011 : Bool := false
  deriving DecidableEq, Repr

/-! ### Forward arrays and fill work (04_forward_arrays.md, 01) -/

/-- A layer pass on a tile (R201): its outlier count (R207), its counts of stored codes above 2^p − 1 for p from 1 to 8,
and its output anchor in a warm-up step (R258). -/
structure PassState where
  outliers : Nat := 0
  counts : List Nat := List.replicate 8 0
  warmG : Option Int := none
  deriving DecidableEq, Repr

/-- A forward tile's array state. Its operand SRAM is device memory. -/
structure FwdTile where
  /-- Non-zero or saturated accumulator entries, by 64 × column + entry: the sum and its saturated mark. -/
  acc : List (Nat × (Int × Bool)) := []
  /-- The accumulators hold sums that have not drained, under this tag (R78). -/
  undrained : Option Nat := none
  /-- What the spare latches hold: the operand-table index of the window whose first weight tile they were loaded with, and
  the tile's bytes as they were read then (R180, R184). -/
  spare : Option (Nat × List Byte) := none
  /-- Layer passes, by layer. -/
  passes : List (Nat × PassState) := []
  /-- Cycles of slack that fill work may still use in the span in progress (R60, R69). -/
  slack : Nat := 0
  deriving DecidableEq, Repr

/-- What a fill item has computed and not yet made visible (R71, R219). -/
structure Shadow where
  /-- Bytes to write, by offset in the tile's SRAM. -/
  writes : List (Nat × List Byte) := []
  /-- Tensor of its histogram, 0xFFF for none. -/
  tensor : Nat := 0xFFF
  hist : Hist := {}
  /-- Non-finite elements met: of the input tensor and of the weight tensor. -/
  nonfin : Nat := 0
  wnonfin : Nat := 0
  /-- Its layer, and elements clipped in a window without REPLAY. -/
  layer : Nat := 0
  clip : Nat := 0
  /-- Additions saturated and elements clipped, as the FWD registers count them (R195, R222). -/
  accSat : Nat := 0
  clipped : Nat := 0
  /-- A rerun was declined (R245), and an extension was (R224). -/
  declined : Bool := false
  extDeclined : Bool := false
  deriving DecidableEq, Repr

/-- A fill item on one tile: the cycles done, and its shadow slot's results once it is complete there (R67, R71). -/
structure FillProg where
  cycles : Nat := 0
  shadow : Option Shadow := none
  deriving DecidableEq, Repr

/-- A fill item of a tile group's queue (R61, Table 1.10). -/
structure FillItem where
  item : Nat
  /-- Deadline frame. -/
  deadline : Nat
  cost : Nat
  inputs : List Nat
  /-- Operand-table index of its action. -/
  action : Nat
  tag : Nat
  /-- Tiles on which it has started and holds a shadow slot (R67). -/
  progress : List (Nat × FillProg) := []
  deriving DecidableEq, Repr

/-- A tile group: its format tag (R76) and its fill queue. -/
structure GroupState where
  tag : Nat := 0
  fill : List FillItem := []
  deriving DecidableEq, Repr

/-- The forward counters of a die in the step (R226). -/
structure FwdCount where
  planes : Nat := 0
  skipped : Nat := 0
  extend : Nat := 0
  outlier : Nat := 0
  decline : Nat := 0
  accSat : Nat := 0
  stall : Nat := 0
  deriving DecidableEq, Repr

/-- The bundle block's counters of the step (R90). -/
structure BndCount where
  ahead : Nat := 0
  discard : Nat := 0
  promote : Nat := 0
  hold : Nat := 0
  slack : Nat := 0
  deriving DecidableEq, Repr

/-- The forward block. -/
structure Fwd where
  tiles : List (Nat × FwdTile) := []
  groups : List (Nat × GroupState) := []
  counts : List (Nat × FwdCount) := []
  /-- Chosen planes of the step by layer: P and P_lo (R203). -/
  psel : List (Nat × Nat × Nat) := []
  /-- Output anchor of each layer for the step (R193). -/
  anchors : List (Nat × Int) := []
  /-- The step began without a census (R204). -/
  coldCensus : Bool := false
  /-- A step has started since the reset. -/
  stepped : Bool := false
  bnd : BndCount := {}
  deriving DecidableEq, Repr

/-! ### Power, security, management (13) -/

/-- The power monitor. -/
structure Pwr where
  /-- A droop episode lasts (R549). -/
  droop : Bool := false
  /-- Droop events of the last 64 frames, newest first, and in the frame in progress. -/
  recent : List Nat := []
  thisFrame : Nat := 0
  /-- 0x9012 and 0x9010 have been raised in the step (R546, R547). -/
  raised9012 : Bool := false
  raised9010 : Bool := false
  /-- Planned energy of the step's frame in progress; `none` in a frame outside a run's steps (R547). -/
  plan : Option Nat := none
  /-- Nanoseconds since 0x9011 was last raised; `none` when never (R546). -/
  since9011 : Option Nat := none
  /-- Rails are on. -/
  rails : Bool := false
  deriving DecidableEq, Repr

/-- A journal entry (Table 13.6). -/
structure JEntry where
  seq : Nat
  frame : Nat
  source : Nat
  kind : Nat
  digest : Bool := false
  object : Nat
  who : Nat := 0
  old : Nat := 0
  new : Nat := 0
  chain : Nat
  deriving DecidableEq, Repr

/-- A key command waiting for its tick (R557): `key` is what KEY_WRITE carries, `none` for what the window holds at the tick. -/
structure KeyOp where
  src : Master
  slot : Nat
  erase : Bool
  use : Nat
  key : Option (List Byte)
  deriving DecidableEq, Repr

/-- A write of a register that waits for its tick (R13); a 64-bit quantity stands at the address of its high word (R12). `sel` is the
ring, input or entry that its selector showed when the write arrived (log entry 54). -/
structure StagedWrite where
  src : Master
  addr : Nat
  value : Nat
  sel : Nat := 0
  /-- Its place among the orders and register writes of its frame, in order of arrival (R504). -/
  pos : Nat := 0
  deriving DecidableEq, Repr

/-- A seal of the journal: SEQ and CHAIN of the entry that it seals, and the identity key's signature over those 40 bytes (R565). -/
structure Seal where
  seq : Nat
  chain : Nat
  sig : List Byte
  deriving DecidableEq, Repr

/-- The security engine, the journal and the firmware store. -/
structure Sec where
  /-- Journal entries held, newest first. -/
  journal : List JEntry := []
  /-- SEQ of the next entry. -/
  nextSeq : Nat := 0
  /-- Number of entries exported (the acknowledged SEQ plus 1). -/
  acked : Nat := 0
  /-- Seals held, newest first (R565). -/
  seals : List Seal := []
  /-- Owner key slots: USE and key bytes. -/
  keys : List (Nat × (Nat × List Byte)) := []
  /-- The SEC.KEY_DATA window, by word offset. -/
  window : List (Nat × Nat) := []
  keyOps : List KeyOp := []
  /-- Measurement register and the measurements of the stages (R558). -/
  meas : Nat := 0
  stages : List Nat := []
  svn : Nat := 0
  /-- Minimum security version number in fuses (R559). -/
  minSvn : Nat := 0
  /-- Bank activated last, bank booted, FALLBACK (R560). -/
  activeBank : Nat := 0
  bootBank : Nat := 0
  fallback : Bool := false
  /-- An update session is open; an image has been verified: its digest and number (R561). -/
  updating : Bool := false
  image : Option (Nat × Nat) := none
  /-- The number that becomes the minimum when stage 4 completes after an activation (R559). -/
  raiseSvn : Option Nat := none
  deriving DecidableEq, Repr

/-! ### Observation (14) -/

/-- A counter entry (Table 14.2). -/
structure Counter where
  depth : Nat := 0
  high : Nat := 0
  accepted : Nat := 0
  sum : Nat := 0
  deriving DecidableEq, Repr

/-- The trace unit's recording state (TRC_STATUS.STATE). -/
inductive TrcState where
  | off
  | recording
  | armed
  | triggered
  | full
  | paused
  | dumping
  deriving DecidableEq, Repr

/-- Counters and trace. -/
structure Obs where
  counting : Bool := false
  noAlloc : Bool := false
  /-- Live entries, by queue of Table 14.1; DEPTH is kept whether or not counting is on. -/
  counters : List (Nat × Counter) := []
  /-- The entries frozen when counting was disabled (R578). -/
  shown : Option (List (Nat × Counter)) := none
  /-- SEQ of the next counter record, from power-good. -/
  nextRecord : Nat := 0
  /-- The disablings of counting: number of the record that the next admitted command would take, the entries latched
  and the frame, oldest first (R579). -/
  frozen : List (Nat × List (Nat × Counter) × Nat) := []
  /-- Buffer records as 256-bit numbers, newest first. -/
  buffer : List Nat := []
  /-- The number of the newest records that the drain has not written. -/
  undrained : Nat := 0
  state : TrcState := .off
  /-- The state to go back to from paused. -/
  before : TrcState := .off
  wrapped : Bool := false
  /-- Records lost since the recording began, and since the last GAP (R584). -/
  lost : Nat := 0
  gap : Nat := 0
  /-- Records overwritten before the trigger. -/
  overwritten : Nat := 0
  /-- Slots left after a trigger. -/
  slots : Nat := 0
  /-- Records of kinds 1 to 6 of cycles that have not ended, oldest first, not yet ordered (R583): those of the cycle in which the chip is, and
  those of later cycles of a span that has been worked out. -/
  batch : List Nat := []
  /-- A trigger taken in such a cycle: a fault code, 0 for a write, and its time (R586). -/
  trigger : Option (Nat × Nat) := none
  /-- OBS.TRC_HEAD: records written to the trace allocation. -/
  head : Nat := 0
  /-- Records drained since the drain began (R587). -/
  drained : Nat := 0
  deriving DecidableEq, Repr

/-! ### Protection (10_protection_and_recovery.md) -/

/-- A block frozen copy-on-write (R460): still unread by the snapshot engine, by the mirror engine, and where its old
contents were copied. -/
structure FrozenBlock where
  snap : Bool := false
  mirror : Bool := false
  /-- Pool slots of the copies that the two engines read; one slot where both froze the block before it was copied. -/
  snapCopy : Option Nat := none
  mirrorCopy : Option Nat := none
  deriving DecidableEq, Repr

/-- An item of a snapshot (R455, R457, R462, R470). -/
structure SnapItem where
  /-- ITEM of Table 10.5. -/
  item : Nat
  alloc : Nat
  base : Nat
  size : Nat
  group : Nat
  k : Nat
  /-- Partner index of each shard; for a pinned mirror, of its one whole copy. -/
  places : List Nat
  /-- A pinned mirror of R470: sent whole into slot P. -/
  pinned : Bool := false
  /-- Not sent: the copy of this earlier generation stands (R462). -/
  kept : Option Nat := none
  /-- Bay slot written. -/
  slot : Nat := 0
  digest : Nat := 0
  /-- Chunk of 64 stripes, and shard in it, to send next. -/
  chunk : Nat := 0
  shard : Nat := 0
  /-- Shards receipted. -/
  receipts : List Nat := []
  deriving DecidableEq, Repr

/-- The vault snapshot in progress or last made. -/
structure Snapshot where
  gen : Nat
  step : Nat
  frame : Nat
  items : List SnapItem
  /-- Groups that take part. -/
  groups : List Nat
  /-- The step digest that goes with home values (R449). -/
  home : Option Nat := none
  /-- What had been written before the freeze since the last complete copies (R462). -/
  before : List Nat := []
  /-- The generation records have been sent, and to (group, partner) pairs that have not receipted. -/
  recorded : Bool := false
  awaiting : List (Nat × Nat) := []
  deriving DecidableEq, Repr

/-- A tensor's mirror (R465 to R467). -/
structure MirrorItem where
  tensor : Nat
  partner : Nat
  shared : Bool := false
  /-- Target slot, 0 for A and 1 for B; the other holds the last sealed generation. -/
  target : Nat := 0
  /-- A generation is in progress in the target slot. -/
  open_ : Bool := false
  /-- Blocks of the target slot not yet sent. -/
  toSend : List Nat := []
  /-- Blocks sent and not yet receipted. -/
  inFlight : List Nat := []
  /-- The SEAL has been sent. -/
  sealSent : Bool := false
  /-- Step of the last sealed generation. -/
  sealedStep : Option Nat := none
  deriving DecidableEq, Repr

/-- A mirror generation in progress. -/
inductive MirrorState where
  | idle
  | streaming
  | sealed
  | abandoned
  deriving DecidableEq, Repr

/-- A copied item of a refill (R475): the mirror slots that may hold it, as partner and slot code 0xA or 0xB, the next to ask
first; with none left, the source's own memory. -/
structure RefillItem where
  item : Nat
  alloc : Nat
  base : Nat
  size : Nat
  tries : List (Nat × Nat) := []
  deriving DecidableEq, Repr

/-- Something that a restore fetches: a generation record, a shard or a mirror slot, from the first partner of `tries`. -/
structure Want where
  item : Nat
  shard : Nat
  gen : Nat
  group : Nat
  /-- Bytes to fetch; 0 while unknown. -/
  size : Nat
  tries : List Nat
  got : List Byte := []
  /-- Slot P of a tensor of PROT 1 (R470). -/
  pinned : Bool := false
  deriving DecidableEq, Repr

/-- A refill or a restore at its target (R473 to R483). -/
structure RefillRun where
  /-- A restore from the vault instead of a refill. -/
  restore : Bool
  fp : Nat
  group : Nat
  /-- Partner asked or serving. -/
  source : Option Nat := none
  /-- The source has accepted. -/
  accepted : Bool := false
  /-- Replicas asked so far. -/
  tried : List Nat := []
  /-- The first source's STEP, CLEAR_SUM and DIGEST (R474). -/
  known : Option (Nat × Nat × Nat) := none
  items : List RefillItem := []
  /-- A FETCH is outstanding. -/
  asked : Bool := false
  /-- The generation asked for, 0 for the newest complete one; the records fetched: partner, group and bytes. -/
  gen : Nat := 0
  records : List (Nat × Nat × List Byte) := []
  /-- The generation has been chosen and its items are being fetched. -/
  chosen : Bool := false
  wants : List Want := []
  /-- Shards and slots fetched: item, shard, bytes. -/
  shards : List (Nat × Nat × List Byte) := []
  deriving DecidableEq, Repr

/-- What a vault partition holds of a source's item: a shard, a mirror slot or a generation record, with the granules of
the bay that it stands in. -/
structure Held where
  src : Nat
  item : Nat
  shard : Nat
  gen : Nat
  step : Nat
  /-- Granule of the copy, and granule of the bay. -/
  grans : List (Nat × Nat) := []
  /-- Bytes landed at its far end. -/
  size : Nat := 0
  /-- Every byte has landed; for a mirror slot, it is sealed. -/
  whole : Bool := false
  deriving DecidableEq, Repr

/-- A vault message that waits to be sent: partner, stream class, and whether it is refill traffic (R477). -/
structure VaultMsg where
  partner : Nat
  cls : Nat
  refill : Bool
  bytes : List Byte
  deriving DecidableEq, Repr

/-- A protection state (Table 10.6). -/
inductive ProtState where
  | whole
  | degraded
  | refilling
  | doubly
  | rollback
  deriving DecidableEq, Repr

/-- The counts of one frame that the risk inputs look back on (Table 10.2). -/
structure RiskFrame where
  ce : List Nat := List.replicate 12 0
  ue : Nat := 0
  fec : List Nat := List.replicate 12 0
  retry : List Nat := List.replicate 12 0
  deriving DecidableEq, Repr

/-- The protection block. -/
structure Prt where
  /-- MUL and CAP of the eight inputs (Table 10.2). -/
  weights : List (Nat × Nat) :=
    [(4, 512), (6144, 1023), (16, 256), (32, 256), (128, 384), (512, 384), (64, 256), (1, 512)]
  /-- x_i and term_i of the last tick. -/
  inputs : List (Nat × Nat) := List.replicate 8 (0, 0)
  score : Nat := 0
  now : RiskFrame := {}
  /-- The last 64 frames, newest first. -/
  past : List RiskFrame := []
  /-- Uncorrectable counts of the last 4,096 frames, newest first. -/
  pastUe : List Nat := []
  age : Nat := 0
  /-- R453 holds term 7. -/
  ageHeld : Bool := false
  frozen : List (Nat × FrozenBlock) := []
  /-- Pool slots in use, by 2^24 × stack + slot. -/
  pool : List Nat := []
  /-- Dirty bits of mirrored blocks, by 2^28 × allocation + block: bit 0 A, bit 1 B, bit 2 P (R466). -/
  dirty : List (Nat × Nat) := []
  /-- Items written since the freeze of their last complete copy: 2 × allocation + ledger half (R462). -/
  touched : List Nat := []
  /-- An armed SNAPSHOT request: its STEP (R456). -/
  armed : Option Nat := none
  snap : Option Snapshot := none
  snapState : Nat := 0
  /-- PRT.SNAP.PROGRESS of a snapshot that has been abandoned. -/
  progress : Nat := 0
  /-- Last complete generation. -/
  complete : Option Snapshot := none
  lastGen : Nat := 0
  /-- Mirror units of the tensors. -/
  mirrors : List MirrorItem := []
  mirrorState : MirrorState := .idle
  mirrorStep : Nat := 0
  mirrorSealed : Nat := 0
  /-- Mirrors stream at every tick (ρ ≥ T2). -/
  every : Bool := false
  states : List (Nat × ProtState) := []
  /-- Replicas counted lost, by group (R481), with refills running for lost replicas (their fingerprints). -/
  lost : List (Nat × List Nat) := []
  refills : List (Nat × List Nat) := []
  /-- Groups in which a refill has begun and ended (REFILL_BEGIN, RESTORED) since the last tick (Table 10.7). -/
  begun : List Nat := []
  /-- Replicas out of date under R354, by partner index. -/
  stale : List Nat := []
  /-- Partners in the lost state at the last tick. -/
  gone : List Nat := []
  skipped : List Nat := []
  used : List (Nat × Nat) := []
  refill : Option RefillRun := none
  refillState : Nat := 0
  /-- Partner for which this chip serves a refill, and F_lost (R474). -/
  serving : Option (Nat × Nat) := none
  /-- Refills that REFILL_BEGIN has announced to this chip: target's fingerprint and F_lost (R480). -/
  announced : List (Nat × Nat) := []
  /-- A refill or restore has completed since the rollback state was entered (R486), and the REPLICAS to tell (R478): F_lost
  and group. -/
  ready : Bool := false
  restoredFor : Option (Nat × Nat) := none
  /-- The rollback state is entered at the next tick (R481). -/
  rollDue : Bool := false
  /-- A reconcile has passed: the groups leave the rollback state at the next tick (Table 10.7). -/
  passed : Bool := false
  /-- The last refill or restore carried a rewind set (R449, Table 10.8). -/
  rewind : Bool := false
  /-- Home values carried: step digest to check (R449, R484). -/
  homeDigest : Option Nat := none
  recon : Nat := 0
  reconCheck : Nat := 0
  reconStep : Nat := 0
  /-- A reconcile waiting for its result: program base and settle-list index. -/
  reconcile : Option (Nat × Nat) := none
  /-- ρ reached T1, T2, T3 at the last tick. -/
  t1 : Bool := false
  t2 : Bool := false
  t3 : Bool := false
  /-- A step has been committed or skipped, and its mirrors have not been frozen (R465). -/
  committed : Bool := false
  /-- Contents of this chip's vault partition. -/
  held : List Held := []
  /-- Vault messages waiting to be sent, oldest first. -/
  outbox : List VaultMsg := []
  /-- Bays this chip has claimed, by partner: size and whether it has been granted. -/
  bays : List (Nat × (Nat × Bool)) := []
  /-- Tensors without a mirror partner that have been reported (R467). -/
  noMirror : List Nat := []
  /-- Securing requests that act at the next tick (R486): the command and its entry. -/
  requests : List (CmdRef × BitVec 1024) := []
  deriving DecidableEq, Repr

/-! ### Backward arrays and row engines (06_backward_arrays.md) -/

/-- An accumulator entry (R152, R277): its sum at the file's anchor, the marks ZEROED and NONFIN, and the saturation flag. -/
structure BwdEntry where
  v : Int := 0
  zeroed : Bool := false
  nonfin : Bool := false
  sat : Bool := false
  deriving DecidableEq, Repr

/-- What the first window of an open file fixes (R270, R274). -/
structure BwdFile where
  layer : Nat
  mode : Nat
  pass : Nat
  c : Int
  deriving DecidableEq, Repr

/-- What the spare latches of a backward tile hold: the operand-table index of a window, and the codes and the scale bytes of
its first B tile as they were loaded (R267, R272). -/
structure BwdLatch where
  arg : Nat
  codes : List Byte
  scales : List Byte
  deriving DecidableEq, Repr

/-- A backward tile's array state. Its operand SRAM is device memory. -/
structure BwdTile where
  /-- Entries that are not plain zero, by 128 × entry + column. -/
  acc : List (Nat × BwdEntry) := []
  file : Option BwdFile := none
  /-- The first B tile that the spare latches hold (R267, R272). -/
  spare : Option BwdLatch := none
  /-- Contents of the deposit buffer, moved and not yet deposited (R281). -/
  deposit : Option (List (Nat × BwdEntry)) := none
  /-- Cycle t_m at which the newest move fills the buffer, in the frame in progress; 0 for one of an earlier frame (R281). -/
  moveAt : Nat := 0
  /-- Committed end of the deposit that empties it, in the frame in progress (R282). -/
  busyUntil : Nat := 0
  deriving DecidableEq, Repr

/-- The BWD counters of a die in the step (R306), and its notices of the step (R305). -/
structure BwdCount where
  cycles : Nat := 0
  accSat : Nat := 0
  nonfin : Nat := 0
  trunc : Nat := 0
  zeroed : Nat := 0
  deposit : Nat := 0
  raised3010 : Bool := false
  raised3011 : Bool := false
  deriving DecidableEq, Repr

/-- The backward block. -/
structure Bwd where
  /-- By 16 × die + tile. -/
  tiles : List (Nat × BwdTile) := []
  counts : List (Nat × BwdCount) := []
  /-- The backward dies draw retention power only (R290). -/
  gated : Bool := true
  /-- The frame in progress follows a frame with BGATE 1 (R291). -/
  waking : Bool := false
  /-- The last frame was a step's frame with BGATE 1. -/
  lastGated : Bool := false
  deriving DecidableEq, Repr

/-- The ROW counters of a stash die in the step (R307), and its notices of the step (R305). -/
structure RowCount where
  cycles : Nat := 0
  rows : Nat := 0
  sat : Nat := 0
  nonfin : Nat := 0
  contrib : Nat := 0
  raised3021 : Bool := false
  raised3022 : Bool := false
  deriving DecidableEq, Repr

/-- The row block. -/
structure Row where
  counts : List (Nat × RowCount) := []
  /-- FUNC of the last ROW_RUN issued on each die. -/
  func : List (Nat × Nat) := []
  /-- Cycles of the frame in which each die's ROW_RUN is in its span: first and one past the last (R307). -/
  spans : List (Nat × (Nat × Nat)) := []
  deriving DecidableEq, Repr

/-! ### Ledger, clearing and settlement (07_ledger_clearing_settlement.md) -/

/-- The escrow states (Table 7.7). -/
inductive EscrowState where
  | idle
  | clearing
  | cleared
  | held
  | settling
  | settled
  | reverting
  deriving DecidableEq, Repr

/-- A clearing round that has issued in the step (R325): its operand-table index, whether its message has been applied, and
the deadline tick of its message. -/
structure Round where
  arg : Nat
  applied : Bool
  deadline : Nat
  /-- 0x5004 has been raised at its deadline. -/
  late : Bool := false
  deriving DecidableEq, Repr

/-- A group descriptor (Table 7.11), as the escrow record keeps it (R326). -/
structure GroupDesc where
  opt : Nat
  bias : Bool
  grad : Nat
  master : Nat
  state1 : Nat
  state2 : Nat
  fwd : Nat
  escrow : Nat
  bcopy : Nat
  eta : Nat
  beta1 : Nat
  beta2 : Nat
  eps : Nat
  wd : Nat
  gscale : Nat
  seed : Nat
  reserved : Bool
  deriving DecidableEq, Repr

/-- A settlement chunk that has issued and not completed (R343): group, first entry, count and FINAL. -/
structure Chunk where
  group : Nat
  first : Nat
  count : Nat
  final : Bool
  deriving DecidableEq, Repr

/-- A layout copy that a settle list's group runs, created at the run's admission (R343, R353): its operand-table index and
the 16 bytes of its descriptor, with both layout descriptors. -/
structure CopyImage where
  index : Nat
  desc : BitVec 128
  src : BitVec 1024
  dst : BitVec 1024
  deriving DecidableEq, Repr

/-- The escrow record of the control die (R314, R326, R347). -/
structure Escrow where
  step : Nat
  /-- Rank of this chip and number of members. -/
  rank : Nat
  members : Nat
  clearSum : Nat
  lossSum : Int
  /-- Step loss, an F32 code (R330). -/
  loss : Nat
  lovf : Bool
  spike : Bool
  nonfin : Bool
  diverged : Bool := false
  /-- FLAGS bits 7 to 0 of the step record. -/
  flags : Nat
  /-- The verdict was met with the barrier: HELD of the step record. -/
  wasHeld : Bool := false
  /-- A release command has been accepted (R356). -/
  released : Bool := false
  groups : List GroupDesc
  copies : List CopyImage := []
  /-- Anchors of the step, and staged next-bank anchors, by class 3 tensor. -/
  anchors : List (Nat × Int)
  nextAnchors : List (Nat × Int)
  /-- Update exponents λ of the step by LAYERS index, and the largest EU met in each layer. -/
  lambdas : List (Nat × Int) := []
  eus : List (Nat × Int) := []
  /-- P1 and P2 of the step and their next values, by class 3 tensor. -/
  ps : List (Nat × (Nat × Nat)) := []
  qs : List (Nat × (Nat × Nat)) := []
  /-- Entries whose escrow image the step wrote: group, first entry, count (R353). -/
  images : List (Nat × Nat × Nat) := []
  /-- Step digest, once settled (R349). -/
  digest : Nat := 0
  /-- Settlement has completed. -/
  settled : Bool := false
  /-- The attempt has been abandoned or reverted: its step runs again. -/
  dropped : Bool := false
  deriving DecidableEq, Repr

/-- A report that the H1 sends itself (R338): kind, step and DIGEST8, and the CLASS 2 streams it has still to go out on. -/
structure Report where
  kind : Nat
  step : Nat
  verdict : Nat
  rank : Nat
  clearSum : Nat
  digest8 : Nat
  streams : List Nat
  deriving DecidableEq, Repr

/-- The ledger block. -/
structure Ldg where
  /-- Directory allocation sampled at the run's admission. -/
  dir : Nat := 0xFFF
  /-- STEP of the directory at the last step start. -/
  step : Nat := 0
  /-- Anchors A of the class 3 tensors for the step (R313). -/
  anchors : List (Nat × Int) := []
  lossSum : Int := 0
  lossNonfin : Nat := 0
  lovf : Bool := false
  /-- LDG.OVER of the step, and 0x5010 raised in the step. -/
  overs : Nat := 0
  raised5010 : Bool := false
  /-- Blocks of local entries that clearing has read, by tensor: entries checked against the bound (R316). -/
  checked : List (Nat × List Nat) := []
  state : EscrowState := .idle
  /-- COLD states of the replicas that clearing has met in the step: bit 0 not cold, bit 1 cold (R260). -/
  colds : Nat := 0
  /-- Rounds issued in the step, oldest first, and whether the LAST one has issued, with its descriptor index. -/
  rounds : List Round := []
  last : Option Nat := none
  record : Option Escrow := none
  /-- Reports arrived: rank, kind, step, CLEAR_SUM and VERDICT (R334, R335). -/
  reports : List (Nat × Nat × Nat × Nat × Nat) := []
  /-- Tick at which the wait in progress started (R336). -/
  waitFrom : Option Nat := none
  /-- Settlement chunks in progress, oldest first; the FINAL one has issued. -/
  chunks : List Chunk := []
  finalIssued : Bool := false
  /-- Settlement runs outside the program. -/
  outside : Bool := false
  /-- Kinds of report that the program has issued for the escrowed step. -/
  issued : List Nat := []
  /-- Reports waiting to be sent. -/
  deferred : List Report := []
  /-- Steps this chip has reverted, and steps a released report has named (R354). -/
  reverted : List Nat := []
  releasedSeen : List Nat := []
  /-- Out of date in its protection groups (R354). -/
  outOfDate : Bool := false
  deriving DecidableEq, Repr

/-! ### Links, partners and streams (09_optical_links_and_partners.md) -/

/-- A lane of a port. -/
structure Lane where
  trained : Bool := false
  /-- The far chip and its port, as the lane's control flits name them. -/
  peer : Nat := 0
  farPort : Nat := 0
  /-- A control flit has been heard since training; one has arrived in this frame. -/
  heard : Bool := false
  now : Bool := false
  /-- Consecutive frames without a control flit; two, or a lost codeword lock, stand until the lane has left its link (R418). -/
  missed : Nat := 0
  /-- The lane has trained again before the tick at which it leaves its link. -/
  leaving : Bool := false
  /-- Receive margin in 0.1 dB. -/
  margin : Nat := 255
  /-- The last control flit's FRAME, L, FLAGS, REF, HOPS and LAUNCH, and its arrival here. -/
  frame : Nat := 0
  len : Nat := 0
  flags : Nat := 0
  ref : Nat := 0
  hops : Nat := 0
  launch : Int := 0
  arrival : Int := 0
  /-- The far side has heard this lane's control flits (their ECHO). -/
  echoed : Bool := false
  /-- Launch of this chip's own control flits, by frame: the last two. -/
  launches : List (Nat × Int) := []
  /-- 2θ and 2d of R422 in 1/16 reference periods, once measured. -/
  theta : Option Int := none
  delay : Int := 0
  /-- 0x7001 has been raised in this training. -/
  raised7001 : Bool := false
  deriving DecidableEq, Repr

/-- A data flit as the replay buffer or the receive window holds it (R414, R415). -/
structure Flit where
  hdr : Nat
  payload : List Byte
  sends : Nat := 1
  /-- The flit belongs to a run's message. -/
  ofRun : Bool := false
  /-- Class of its stream, and its message's deadline tick (R38, R40). -/
  cls : Nat := 0
  deadline : Nat := 0
  deriving DecidableEq, Repr

/-- A link: lanes of one port that reach one port of one partner (R404, R418). -/
structure Link where
  port : Nat
  fp : Nat
  farPort : Nat
  lanes : List Nat
  up : Bool := false
  /-- Tick at which the link formed. -/
  formed : Nat := 0
  hailSent : Bool := false
  /-- Segments of hails that wait for control flits: index, number of segments and bytes (Table 9.5). -/
  hailTx : List (Nat × Nat × List Byte) := []
  /-- The other side's hail has been accepted here, and HAIL_OK has been seen from it. -/
  accepted : Bool := false
  hailOk : Bool := false
  foreign : Bool := false
  /-- Not the lowest far port of its partner on the port (R419). -/
  second : Bool := false
  raised7024 : Bool := false
  raised7021 : Bool := false
  /-- Next FSEQ to send, unacknowledged flits by FSEQ in order of sending, next FSEQ expected, flits held out of order. -/
  txSeq : Nat := 0
  replay : List (Nat × Flit) := []
  rxSeq : Nat := 0
  window : List (Nat × Flit) := []
  /-- The next FSEQ expected is of a flit that was dropped (R414). -/
  nack : Bool := false
  /-- Committed end, retries charged to the link reserve and snapshot flits sent in the frame (R413, R39, R40). -/
  committed : Nat := 0
  retries : Nat := 0
  snap : Nat := 0
  /-- First sends of the frame that are charged to no reserve (R420). -/
  sent : Nat := 0
  deriving DecidableEq, Repr

/-- The states of a partner entry (Table 9.7). -/
inductive PartnerState where
  | free
  | hailing
  | present
  | lost
  deriving DecidableEq, Repr

/-- A partner entry (R432). -/
structure Partner where
  state : PartnerState := .free
  fp : Nat := 0
  keyd : Nat := 0
  feed : Nat := 0
  loop_ : Nat := 0
  chassis : Nat := 0
  frame : Nat := 0
  /-- Port of the link to it that last came up or went down: its records carry it (R445). -/
  port : Nat := 0
  deriving DecidableEq, Repr

/-- A landing binding (R440). -/
structure Bind where
  alloc : Nat
  slots : Nat
  offset : Nat
  slotBytes : Nat
  deriving DecidableEq, Repr

/-- A message at a receive stream: its tag frame, MSEQ and the bytes delivered so far. -/
structure Incoming where
  frame : Nat
  mseq : Nat
  bytes : List Byte
  whole : Bool
  /-- Its flits in the port's landing buffer (R441). -/
  waiting : Nat := 0
  deriving DecidableEq, Repr

/-- A stream's counts and buffers. -/
structure StreamState where
  send : Nat := 0
  recv : Nat := 0
  bound : Option Bind := none
  /-- Bytes admitted in the frame (R37). -/
  charged : Nat := 0
  /-- The message being delivered. -/
  partial_ : Option Incoming := none
  /-- Messages held in the landing buffer until the stream is bound (R441). -/
  held : List Incoming := []
  /-- Complete messages of the engines' streams, oldest first: tag frame and bytes. -/
  inbox : List (Nat × List Byte) := []
  /-- Complete class 0 messages by tag frame, for R443. -/
  done : List (Nat × Nat) := []
  /-- Counts at the step's first tick (R444). -/
  send0 : Nat := 0
  recv0 : Nat := 0
  deriving DecidableEq, Repr

/-- An expectation of a STREAM_EXPECT (R443). -/
structure Expect where
  stream : Nat
  frame : Nat
  count : Nat
  deadline : Nat
  deriving DecidableEq, Repr

/-- The laser feeds of an exchange die (R406). -/
structure Feeds where
  aOk : Bool := false
  bOk : Bool := false
  onB : Bool := false
  switches : Nat := 0
  deriving DecidableEq, Repr

/-- The link block. -/
structure Lnk where
  /-- By 8 × port + lane. -/
  lanes : List (Nat × Lane) := []
  links : List Link := []
  partners : List (Nat × Partner) := []
  streams : List (Nat × StreamState) := []
  expects : List Expect := []
  feeds : List (Nat × Feeds) := []
  /-- REF, HOPS and the upstream port and lane (R424). -/
  ref : Nat := Config.fingerprint.toNat
  hops : Nat := 0
  upstream : Option (Nat × Nat) := none
  solitary : Bool := true
  /-- A new REF or upstream is joined at the next tick (R425). -/
  join : Bool := false
  /-- The last change of L: the L before it, and its tick. Markers of earlier frames still carry it (R87, R117). -/
  relen : Option (Nat × Nat) := none
  /-- The REF whose path has disappeared, while the component elects (R427). -/
  lostRef : Option Nat := none
  /-- Ticks that the election still lasts. -/
  election : Nat := 0
  /-- Update hails go out at the next tick (R435). -/
  domainChanged : Bool := false
  /-- A YIELD and a FREE that act at the next tick. -/
  yield : Bool := false
  free : List Nat := []
  /-- Frames of cancelled steps whose messages are discarded on arrival (R444): first and last frame. -/
  dropped : List (Nat × Nat) := []
  /-- Frames of steps that a stop cut: their messages still land (R508), first and last frame. -/
  draining : List (Nat × Nat) := []
  /-- Notices of the frame: code and link or lane (R445). -/
  raised : List (Nat × Nat) := []
  /-- Partners whose hail has been accepted or whose state changes at the next tick: journalled there (R433). -/
  changes : List (Nat × PartnerState) := []
  /-- Domain descriptors of update hails, which partner entries take at the next tick: FEED, LOOP, CHASSIS (R433). -/
  domains : List (Nat × (Nat × Nat × Nat)) := []
  deriving DecidableEq, Repr

/-! ### The whole -/

/-- Everything of the chip but its memories. -/
structure Dev where
  /-- Registers without another home, by BAR0 address; unlisted: the reset value of the card. -/
  regs : List (Nat × Nat) := []
  /-- High words latched by a read of the low word (R11), by address of the high register. -/
  latched : List (Nat × Nat) := []
  /-- Low words of 64-bit quantities that wait for their high word (R12), by address of the low register. -/
  lowWords : List (Nat × Nat) := []
  /-- Register writes that wait for the tick (R13), in order of arrival. -/
  staged : List StagedWrite := []
  frm : Frm := {}
  seq : Seq := {}
  cht : Cht := {}
  flt : Flt := {}
  hst : Hst := {}
  stk : Stk := {}
  mnt : Mnt := {}
  pwr : Pwr := {}
  sec : Sec := {}
  obs : Obs := {}
  fwd : Fwd := {}
  prt : Prt := {}
  /-- Layout counters of the stacks. -/
  lay : List (Nat × LayCount) := []
  bwd : Bwd := {}
  row : Row := {}
  ldg : Ldg := {}
  lnk : Lnk := {}
  /-- Engines 0 to 36 of Table 14.1: committed ends and admitted jobs. -/
  engines : List (Nat × Engine) := []
  /-- What has left the chip, newest first. -/
  out : List Out := []
  /-- The model's own counter of free values (Config.freeWord). -/
  free : Nat := 0
  deriving DecidableEq, Repr

/-- The state of the machine. -/
structure State where
  /-- Commands that wait, first in first out. -/
  pending : List Instr := []
  /-- Device memory: every place of Table 8.1 and the bundle store, by model address (Ops.lean). -/
  mem : Memory := []
  /-- Host memory as CXL.cache reaches it. -/
  host : Memory := []
  dev : Dev := {}
  deriving DecidableEq, Repr

/-- The machine before power-good: every register at its reset value, no memory written, nothing waiting. -/
def State.reset : State := {}

end Sys2Proof.Machine
end

