-- ==== Sys2Proof/Machine/Operands.lean ====
section
/-! DEFINITION. The fields of charter entries, ring entries, bundles and operand-table descriptors, each read from
its bits once, as the tables of the spec lay them out. -/

namespace Sys2Proof.Machine

/-! ### SETTINGS (Table 2.4) and the mode word (Table 2.5) -/

def Charter.logLen (c : Charter) : Nat := fld c.settings 0 8
def Charter.fwdLog2 (c : Charter) : Nat := fld c.settings 8 8
def Charter.modes (c : Charter) : Nat := fld c.settings 32 32
def Charter.settleTimeout (c : Charter) : Nat := fld c.settings 64 16
def Charter.topology (c : Charter) : Nat := fld c.settings 80 8
def Charter.spikeK (c : Charter) : Nat := fld c.settings 88 8
def Charter.t1 (c : Charter) : Nat := fld c.settings 96 16
def Charter.t2 (c : Charter) : Nat := fld c.settings 112 16
def Charter.t3 (c : Charter) : Nat := fld c.settings 128 16

/-- L in force: the charter's, or the default 16 (R18). -/
def Dev.logLen (d : Dev) : Nat := match d.cht.active with
  | some c => c.logLen
  | none => 16

/-- FRAME_LEN in cycles (R18). -/
def Dev.frameLen (d : Dev) : Nat := 2 ^ d.logLen

/-- The plannable length (R23). -/
def Dev.plannable (d : Dev) : Nat := d.frameLen - d.frameLen / 32

/-- k of the forward retry reserve (Table 1.5). -/
def Dev.fwdLog2 (d : Dev) : Nat := match d.cht.active with
  | some c => c.fwdLog2
  | none => 5

/-- The mode word in force; the default while no charter is active (Table 2.10). -/
def Dev.modes (d : Dev) : Nat := match d.cht.active with
  | some c => c.modes
  | none => 7

def Dev.modeSkip (d : Dev) : Bool := d.modes.testBit 0
def Dev.modePext (d : Dev) : Bool := d.modes.testBit 1
def Dev.modeRuna (d : Dev) : Bool := d.modes.testBit 2
def Dev.modeTrc (d : Dev) : Nat := nfld d.modes 3 2
def Dev.modeStopNow (d : Dev) : Bool := d.modes.testBit 5
def Dev.modeSrnd (d : Dev) : Bool := d.modes.testBit 6
def Dev.modeConfTest (d : Dev) : Bool := d.modes.testBit 7

/-- Run-ahead acts: RUNA is on and CONF is service (R128). -/
def Dev.runAhead (d : Dev) : Bool := d.modeRuna && !d.modeConfTest

/-! ### TILE_GROUPS (R99) -/

structure GroupEntry where
  kind : Nat
  dies : Nat
  tiles : Nat
  reserved : Bool
  deriving DecidableEq, Repr

def groupEntry (b : BitVec 256) : GroupEntry :=
  { kind := fld b 0 2, dies := fld b 8 8, tiles := fld b 128 128
    reserved := fld b 2 6 ≠ 0 ∨ fld b 16 112 ≠ 0 }

/-- Group `g` of the active charter; an unused group where there is none. -/
def Dev.group (d : Dev) (g : Nat) : GroupEntry := match d.cht.active with
  | some c => groupEntry (c.groups.getD g 0)
  | none => groupEntry 0

/-- Members of a forward group: 128 × die + tile, dies ascending, then tiles (R99, R266). -/
def GroupEntry.fwdMembers (e : GroupEntry) : List Nat :=
  (setBits 8 e.dies).flatMap (fun d => (setBits 128 e.tiles).map (fun t => 128 * d + t))

/-- Members of a backward group: 16 × die + tile. -/
def GroupEntry.bwdMembers (e : GroupEntry) : List Nat :=
  (setBits 8 e.dies).flatMap (fun d => (setBits 16 e.tiles).map (fun t => 16 * d + t))

/-- Number of members of a group (R99). -/
def GroupEntry.size (e : GroupEntry) : Nat := if e.kind = 2 then e.bwdMembers.length else e.fwdMembers.length

/-! ### STREAMS (R101) -/

structure StreamEntry where
  valid : Bool
  d : Nat
  port : Nat
  recv : Bool
  partner : Nat
  remote : Nat
  cls : Nat
  budget : Nat
  reserved : Bool
  deriving DecidableEq, Repr

def streamEntry (b : BitVec 128) : StreamEntry :=
  { valid := bitOf b 0, d := fld b 1 2 + 1, port := fld b 3 4, recv := bitOf b 7, partner := fld b 8 8
    remote := fld b 16 12, cls := fld b 28 4, budget := fld b 32 32, reserved := fld b 64 64 ≠ 0 }

def Dev.stream (d : Dev) (i : Nat) : StreamEntry := match d.cht.active with
  | some c => streamEntry (c.streams.getD i 0)
  | none => streamEntry 0

/-- Numbers of the valid streams of the active charter. -/
def Dev.validStreams (d : Dev) : List Nat := match d.cht.active with
  | some c => (List.range c.streams.length).filter (fun i => (d.stream i).valid)
  | none => []

/-! ### ALLOCATIONS (Table 8.4) -/

structure AllocEntry where
  valid : Bool
  purpose : Nat
  loc : Nat
  panel : Bool
  places : Nat
  base : Nat
  size : Nat
  perm : Nat
  reserved : Bool
  deriving DecidableEq, Repr

def allocEntry (b : BitVec 256) : AllocEntry :=
  { valid := bitOf b 0, purpose := fld b 1 3, loc := fld b 4 2, panel := bitOf b 6, places := fld b 8 12
    base := fld b 32 32, size := fld b 64 40, perm := fld b 128 16
    reserved := bitOf b 7 ∨ fld b 20 12 ≠ 0 ∨ fld b 104 24 ≠ 0 ∨ fld b 144 112 ≠ 0 }

/-- Allocation `a` of the active charter; 0xFFF names none (R371). -/
def Dev.alloc (d : Dev) (a : Nat) : AllocEntry := match d.cht.active with
  | some c => if a ≥ 4095 then allocEntry 0 else allocEntry (c.allocs.getD a 0)
  | none => allocEntry 0

/-- The class may read (Table 8.4). -/
def AllocEntry.mayRead (e : AllocEntry) (cls : Nat) : Bool := e.perm.testBit (2 * cls)

/-- The class may write. -/
def AllocEntry.mayWrite (e : AllocEntry) (cls : Nat) : Bool := e.perm.testBit (2 * cls + 1)

/-- Interleave unit in bytes. -/
def AllocEntry.unit (e : AllocEntry) : Nat := if e.panel then 262144 else 4096

/-- Selected places, ascending (LOC 0 and 1). -/
def AllocEntry.placeList (e : AllocEntry) : List Nat := setBits (if e.loc = 0 then 12 else 4) e.places

/-! ### LAYERS (R103) and TENSORS (R104) -/

structure LayerEntry where
  group : Nat
  bgroup : Nat
  pmax : Nat
  outlier : Nat
  pass : Nat
  wclass : Nat
  nobwd : Bool
  silent : Nat
  itensor : Nat
  wtensor : Nat
  otensor : Nat
  reserved : Bool
  deriving DecidableEq, Repr

def layerEntry (b : BitVec 128) : LayerEntry :=
  { group := fld b 0 6, bgroup := fld b 6 6, pmax := fld b 12 4, outlier := fld b 16 9, pass := fld b 25 2
    wclass := fld b 27 2, nobwd := bitOf b 29, silent := fld b 32 16, itensor := fld b 48 12
    wtensor := fld b 60 12, otensor := fld b 72 12, reserved := fld b 30 2 ≠ 0 ∨ fld b 84 44 ≠ 0 }

def Dev.layer (d : Dev) (i : Nat) : LayerEntry := match d.cht.active with
  | some c => layerEntry (c.layers.getD i 0)
  | none => layerEntry 0

def Dev.layerCount (d : Dev) : Nat := match d.cht.active with
  | some c => c.layers.length
  | none => 0

structure TensorEntry where
  alloc : Nat
  cls : Nat
  rerun : Bool
  prot : Nat
  pgroup : Nat
  trackK : Nat
  head : Nat
  layer : Nat
  fmt : Nat
  reserved : Bool
  deriving DecidableEq, Repr

def tensorEntry (b : BitVec 128) : TensorEntry :=
  { alloc := fld b 0 12, cls := fld b 12 4, rerun := bitOf b 16, prot := fld b 17 2, pgroup := fld b 19 6
    trackK := fld b 25 3 + 1, head := fld b 28 2, layer := fld b 32 16, fmt := fld b 48 8
    reserved := fld b 30 2 ≠ 0 ∨ fld b 56 72 ≠ 0 }

def Dev.tensor (d : Dev) (i : Nat) : TensorEntry := match d.cht.active with
  | some c => tensorEntry (c.tensors.getD i 0)
  | none => tensorEntry 0

def Dev.tensorCount (d : Dev) : Nat := match d.cht.active with
  | some c => c.tensors.length
  | none => 0

/-- The tensor is tracked: class 0, 1 or 2 with a scaled format (R256). -/
def TensorEntry.tracked (t : TensorEntry) : Bool :=
  t.cls ≤ 2 && (match fmtOf t.fmt with
    | some f => f.scaled
    | none => false)

/-- TENSORS indices that are tracked, ascending. -/
def Dev.trackedTensors (d : Dev) : List Nat := (List.range d.tensorCount).filter (fun i => (d.tensor i).tracked)

/-! ### PROTECTION (R105) and ENERGY (R106) -/

structure ProtEntry where
  valid : Bool
  rsK : Nat
  vault : Nat
  order : List Nat
  replicas : List Nat
  reserved : Bool
  deriving DecidableEq, Repr

/-- A list of partner indices ended by 0xFF. -/
def untilFF : List Nat → List Nat
  | [] => []
  | x :: r => if x = 0xFF then [] else x :: untilFF r

def protEntry (b : BitVec 512) : ProtEntry :=
  { valid := fld b 0 8 = 1, rsK := fld b 8 8, vault := fld b 16 16
    order := untilFF ((List.range 8).map (fun i => fld b (32 + 8 * i) 8))
    replicas := untilFF ((List.range 8).map (fun i => fld b (96 + 8 * i) 8))
    reserved := fld b 160 352 ≠ 0 ∨ fld b 0 8 > 1 }

def Dev.protGroup (d : Dev) (g : Nat) : ProtEntry := match d.cht.active with
  | some c => protEntry (c.prot.getD g 0)
  | none => protEntry 0

/-- The energy limit of a frame: floor(FRAME_LEN / 75) (R106). -/
def energyLimit (frameLen : Nat) : Nat := frameLen / 75

/-- Planned energy and BGATE of frame `j` of a step (R106). -/
def Dev.energyPlan (d : Dev) (j : Nat) : Nat × Bool := match d.cht.active with
  | some c =>
    (match c.energy with
      | [] => (energyLimit d.frameLen, false)
      | _ => let e := c.energy.getD (min j (c.energy.length - 1)) 0; (fld e 0 16, bitOf e 16))
  | none => (energyLimit d.frameLen, false)

/-! ### Ring entries (Tables 12.3 and 12.4) -/

abbrev Entry := BitVec 1024

/-- Field of `n` bytes at byte `o`. -/
def Entry.at (e : Entry) (o n : Nat) : Nat := fld e (8 * o) (8 * n)

def Entry.opcode (e : Entry) : Nat := e.at 0 1
def Entry.flags (e : Entry) : Nat := e.at 1 1
def Entry.frames (e : Entry) : Nat := e.at 4 4
def Entry.tag (e : Entry) : Nat := e.at 8 8
/-- RUN. -/
def Entry.base (e : Entry) : Nat := e.at 16 4
def Entry.optab (e : Entry) : Nat := e.at 20 4
def Entry.steps (e : Entry) : Nat := e.at 24 4
def Entry.loops (e : Entry) : List Nat := (List.range 16).map (fun i => e.at (32 + 4 * i) 4)
/-- LOAD_CHARTER and READ_TALLIES. -/
def Entry.addr (e : Entry) : Nat := e.at 16 8
def Entry.length (e : Entry) : Nat := e.at 24 4
def Entry.effect (e : Entry) : Nat := e.at 32 6
def Entry.first (e : Entry) : Nat := e.at 24 4
def Entry.tallyCount (e : Entry) : Nat := e.at 28 4
/-- COPY. -/
def Entry.dir (e : Entry) : Nat := e.at 16 1
def Entry.hostAddr (e : Entry) : Nat := e.at 24 8
def Entry.desc (e : Entry) : Nat := e.at 32 8
def Entry.copyAlloc (e : Entry) : Nat := e.at 40 2
def Entry.copyOffset (e : Entry) : Nat := e.at 44 4
def Entry.copyIndex (e : Entry) : Nat := e.at 48 4
def Entry.copyCount (e : Entry) : Nat := e.at 52 4
/-- DECIDE. -/
def Entry.step (e : Entry) : Nat := e.at 16 8
def Entry.decision (e : Entry) : Nat := e.at 24 1
/-- SECURE. -/
def Entry.kind (e : Entry) : Nat := e.at 16 1
def Entry.secStep (e : Entry) : Nat := e.at 24 8
def Entry.fp (e : Entry) : Nat := e.at 32 8
def Entry.pgroup (e : Entry) : Nat := e.at 40 1
def Entry.gen (e : Entry) : Nat := e.at 42 2
def Entry.secBase (e : Entry) : Nat := e.at 44 4
def Entry.slist (e : Entry) : Nat := e.at 48 2
/-- STOP. -/
def Entry.order (e : Entry) : Nat := e.at 16 1
def Entry.key (e : Entry) : Nat := e.at 17 1
def Entry.stopAt (e : Entry) : Nat := e.at 24 6

/-- The bytes of an entry outside the given byte ranges are 0. -/
def Entry.zeroOutside (e : Entry) (used : List (Nat × Nat)) : Bool :=
  (List.range 128).all (fun i => used.any (fun r => r.1 ≤ i ∧ i ≤ r.2) || e.at i 1 = 0)

/-! ### Bundles (Tables 1.6 and 1.7) -/

abbrev Bundle := BitVec 512

def Bundle.span (b : Bundle) : Nat := fld b 0 16 + 1
def Bundle.seq (b : Bundle) : Nat := fld b 16 16
def Bundle.kind (b : Bundle) : Nat := fld b 32 3
def Bundle.loop (b : Bundle) : Nat := fld b 35 4
def Bundle.fence (b : Bundle) : Bool := bitOf b 39
def Bundle.reserved (b : Bundle) : Nat := fld b 40 8
def Bundle.check (b : Bundle) : Nat := fld b 48 16

/-- A slot: target, operation and argument. -/
structure Slot where
  target : Nat
  op : Nat
  arg : Nat
  deriving DecidableEq, Repr

def Bundle.slot (b : Bundle) (j : Nat) : Slot :=
  { target := fld b (64 + 28 * j + 21) 7, op := fld b (64 + 28 * j + 16) 5, arg := fld b (64 + 28 * j) 16 }

/-- The non-empty slots, ascending. -/
def Bundle.slots (b : Bundle) : List Slot := ((List.range 16).map b.slot).filter (fun s => s.op ≠ 0)

/-! ### Fill items (Table 1.10) -/

structure FillDesc where
  item : Nat
  deadline : Nat
  cost : Nat
  inputs : List Nat
  action : Nat
  tag : Nat
  reserved : Bool
  deriving DecidableEq, Repr

def fillDesc (b : BitVec 128) : FillDesc :=
  { item := fld b 0 5, deadline := fld b 8 8, cost := fld b 16 16
    inputs := ((List.range 4).filter (fun i => bitOf b (80 + i))).map (fun i => fld b (32 + 12 * i) 12)
    action := fld b 84 16, tag := fld b 100 6, reserved := fld b 5 3 ≠ 0 ∨ fld b 106 22 ≠ 0 }

/-! ### Forward descriptors (Tables 4.3 and 4.6) -/

structure WinDesc where
  layer : Nat
  first : Bool
  last : Bool
  replay : Bool
  runs : Nat
  act : Nat
  wclass : Nat
  inOff : Nat
  inscOff : Nat
  wgtOff : Nat
  wscOff : Nat
  logOff : Nat
  fin : Nat
  next : Nat
  btail : Nat
  reserved : Bool
  deriving DecidableEq, Repr

def winDesc (b : BitVec 256) : WinDesc :=
  { layer := fld b 0 10, first := bitOf b 10, last := bitOf b 11, replay := bitOf b 12, runs := fld b 16 10 + 1
    act := fld b 26 4, wclass := fld b 30 2, inOff := fld b 32 20, inscOff := fld b 52 20, wgtOff := fld b 72 20
    wscOff := fld b 92 20, logOff := fld b 112 20, fin := fld b 132 16, next := fld b 148 16, btail := fld b 164 9
    reserved := fld b 13 3 ≠ 0 ∨ fld b 173 83 ≠ 0 }

structure FinDesc where
  func : Nat
  ofmt : Nat
  tabE : Int
  scbOff : Nat
  tabOff : Nat
  outOff : Nat
  oscOff : Nat
  reserved : Bool
  deriving DecidableEq, Repr

def finDesc (b : BitVec 128) : FinDesc :=
  { func := fld b 0 2, ofmt := fld b 4 4, tabE := sfld b 8 8, scbOff := fld b 16 20, tabOff := fld b 36 20
    outOff := fld b 56 20, oscOff := fld b 76 20, reserved := fld b 2 2 ≠ 0 ∨ fld b 96 32 ≠ 0 }

/-! ### Mint descriptors (Table 5.5) -/

structure MintDesc where
  src : Nat
  dst : Nat
  sfmt : Nat
  dfmt : Nat
  tensor : Nat
  wsum : Bool
  stats : Bool
  scale : Nat
  fixedE : Nat
  group : Nat
  reserved : Bool
  deriving DecidableEq, Repr

def mintDesc (b : BitVec 128) : MintDesc :=
  { src := fld b 0 16, dst := fld b 16 16, sfmt := fld b 32 8, dfmt := fld b 40 8, tensor := fld b 48 12
    wsum := bitOf b 60, stats := bitOf b 61, scale := fld b 62 2, fixedE := fld b 64 8, group := fld b 72 32
    reserved := fld b 104 24 ≠ 0 }

/-! ### Layout and copy descriptors (Tables 8.8 and 8.9) -/

structure Layout where
  alloc : Nat
  econt : Nat
  packed : Bool
  pwidth : Nat
  write : Bool
  fold : Bool
  padyield : Bool
  blocked : Bool
  ndim : Nat
  rdim : Nat
  comp : Nat
  gc : Nat
  bc : Nat
  pc : Nat
  gord : Bool
  bord : Bool
  pord : Bool
  origin : Nat
  rowlen : Nat
  calloc : Nat
  cbase : Nat
  /-- Extents, valid extents and strides of dimensions 0 to NDIM − 1. -/
  ext : List Nat
  valid : List Nat
  stride : List Int
  /-- A reserved field, or a field of a dimension at or above NDIM, is not 0. -/
  reserved : Bool
  deriving DecidableEq, Repr

def layoutDesc (b : BitVec 1024) : Layout :=
  let nd := fld b 24 3
  let n := min nd 6
  { alloc := fld b 0 12, econt := fld b 12 3, packed := bitOf b 15, pwidth := fld b 16 4, write := bitOf b 20
    fold := bitOf b 21, padyield := bitOf b 22, blocked := bitOf b 23, ndim := nd, rdim := fld b 27 3
    comp := fld b 30 2, gc := fld b 32 4, bc := fld b 36 3, pc := fld b 39 3, gord := bitOf b 42, bord := bitOf b 43
    pord := bitOf b 44, origin := fld b 48 40, rowlen := fld b 88 40, calloc := fld b 128 12, cbase := fld b 140 40
    ext := (List.range n).map (fun d => fld b (256 + 96 * d) 24 + 1)
    valid := (List.range n).map (fun d => fld b (256 + 96 * d + 24) 24 + 1)
    stride := (List.range n).map (fun d => sfld b (256 + 96 * d + 48) 32)
    reserved := fld b 45 3 ≠ 0 ∨ fld b 180 76 ≠ 0 ∨ fld b 832 192 ≠ 0 ∨
      (List.range 6).any (fun d => fld b (256 + 96 * d + 80) 16 ≠ 0 ∨ (nd ≤ d ∧ fld b (256 + 96 * d) 96 ≠ 0)) }

structure CopyDesc where
  src : Nat
  dst : Nat
  fmt : Nat
  padval : Nat
  reserved : Bool
  deriving DecidableEq, Repr

def copyDesc (b : BitVec 128) : CopyDesc :=
  { src := fld b 0 16, dst := fld b 16 16, fmt := fld b 32 8, padval := fld b 64 64, reserved := fld b 40 24 ≠ 0 }

end Sys2Proof.Machine
end

