-- ==== Sys2Proof/Machine/Ops.lean ====
section
/-! DEFINITION. The operations that every chapter uses: the register file, the memories, what leaves the
chip, the counters and the trace, raising a fault, and the journal. -/

namespace Sys2Proof.Machine

/-! ### The register file (R8) -/

/-- The stored value of a register's instance; its reset value when nothing has changed it. -/
def Dev.reg (d : Dev) (r : Reg) (i : Nat := 0) : Nat := tgetD d.regs (r.card.at i) r.card.reset

/-- Set a register's instance. -/
def Dev.setReg (d : Dev) (r : Reg) (v : Nat) (i : Nat := 0) : Dev :=
  { d with regs := tput d.regs (r.card.at i) (v % 2 ^ 32) }

/-- Field [lo + len - 1 : lo] of a register. -/
def Dev.regFld (d : Dev) (r : Reg) (lo len : Nat) (i : Nat := 0) : Nat := nfld (d.reg r i) lo len

/-- `v` with the field [lo + len - 1 : lo] replaced. -/
def putFld (v lo len x : Nat) : Nat := v - nfld v lo len * 2 ^ lo + (x % 2 ^ len) * 2 ^ lo

/-- Set a field of a register. -/
def Dev.setFld (d : Dev) (r : Reg) (lo len x : Nat) (i : Nat := 0) : Dev := d.setReg r (putFld (d.reg r i) lo len x) i

/-- Add to a field that saturates at its largest value. -/
def Dev.bumpFld (d : Dev) (r : Reg) (lo len n : Nat) (i : Nat := 0) : Dev :=
  d.setFld r lo len (satAdd len (d.regFld r lo len i) n) i

/-- Set a 64-bit quantity in a pair of registers. -/
def Dev.setPair (d : Dev) (lo hi : Reg) (v : Nat) (i : Nat := 0) : Dev :=
  (d.setReg lo (v % 2 ^ 32) i).setReg hi (v / 2 ^ 32 % 2 ^ 32) i

/-- A 64-bit quantity of a pair of registers. -/
def Dev.pair (d : Dev) (lo hi : Reg) (i : Nat := 0) : Nat := d.reg lo i + 2 ^ 32 * d.reg hi i

/-! ### Model addresses (Table 8.1) -/

/-- Local address `a` of stack M_k: its device physical address (R362). -/
def stackAddr (k a : Nat) : Nat := 0xC00000000 * k + a

/-- Local address `a` of stash die S_d. -/
def stashAddr (d a : Nat) : Nat := 0x10000000000 + 0x20000000 * d + a

/-- Local address `a` of forward tile `t` = 128 × die + tile. -/
def fwdAddr (t a : Nat) : Nat := 0x20000000000 + 0x100000 * t + a

/-- Local address `a` of backward tile `t` = 16 × die + tile. -/
def bwdAddr (t a : Nat) : Nat := 0x30000000000 + 0x400000 * t + a

/-- Byte `a` of the bundle store. -/
def storeAddr (a : Nat) : Nat := 0x40000000000 + a

/-- The first address above the stacks (R362). -/
def dpaEnd : Nat := 0x9000000000

/-- The stack a model address lies on; `none` outside the stacks. -/
def stackOf (a : Nat) : Option Nat := if a < dpaEnd then some (a / 0xC00000000) else none

/-- The address lies in a ledger partition (R360). -/
def inLedger (a : Nat) : Bool := decide (a < dpaEnd) && decide (0xA00000000 ≤ a % 0xC00000000)

/-! ### Byte memories -/

/-- The byte at an address. -/
def Memory.get (m : Memory) (a : Nat) : Byte :=
  match m with
  | [] => Memory.blank
  | (k, b) :: r => if a < k then Memory.blank else if a = k then b else Memory.get r a

/-- Write one byte, keeping the canonical form. -/
def Memory.set (m : Memory) (a : Nat) (b : Byte) : Memory :=
  match m with
  | [] => if b = Memory.blank then [] else [(a, b)]
  | (k, c) :: r =>
    if a < k then (if b = Memory.blank then (k, c) :: r else (a, b) :: (k, c) :: r)
    else if a = k then (if b = Memory.blank then r else (a, b) :: r)
    else (k, c) :: Memory.set r a b

/-- `n` bytes from an address. -/
def Memory.read (m : Memory) (a n : Nat) : List Byte := (List.range n).map (fun i => m.get (a + i))

/-- Write bytes from an address upward. -/
def Memory.write (m : Memory) (a : Nat) : List Byte → Memory
  | [] => m
  | b :: r => (m.set a b).write (a + 1) r

/-- Every byte of [lo, hi) back to blank. -/
def Memory.erase (m : Memory) (lo hi : Nat) : Memory := m.filter (fun c => c.1 < lo ∨ hi ≤ c.1)

/-- Every address rises above `lo` and no byte is blank. -/
def Memory.wfFrom (m : Memory) (lo : Nat) : Bool :=
  match m with
  | [] => true
  | (k, b) :: r => decide (lo ≤ k) && decide (b ≠ Memory.blank) && Memory.wfFrom r (k + 1)

/-- The canonical form: addresses strictly rising, no entry equal to what an unlisted address reads as. -/
def Memory.wf (m : Memory) : Bool := Memory.wfFrom m 0

/-! ### What leaves the chip -/

/-- Put something out. -/
def Dev.emit (d : Dev) (o : Out) : Dev := { d with out := o :: d.out }

/-- The place of an order or a register write that arrives now: the number of those that wait for the tick (R504). -/
def Dev.arrived (d : Dev) : Nat := d.staged.length + d.flt.orders.length

/-- A free value (Config.freeWord) and the state after it is taken. -/
def Dev.fresh (d : Dev) : Nat × Dev := ((Config.freeWord d.free).toNat, { d with free := d.free + 1 })

/-! ### Queue counters (R575 to R578) -/

/-- Jobs of copy engine `q` whose committed end lies ahead (R34). -/
def Dev.liveJobs (d : Dev) (q : Nat) : List Job := (tgetD d.engines q ({} : Engine)).jobs.filter (fun (j : Job) => decide (d.frm.cycle < j.stop))

/-- Units in queue `q`: of a copy engine, queues 0 to 36, the copies whose committed end has not come. -/
def Dev.depthOf (d : Dev) (q depth : Nat) : Nat := if q < 37 then (d.liveJobs q).length else depth

/-- A unit enters queue `q`. -/
def Dev.cntEnter (d : Dev) (q : Nat) (n : Nat := 1) : Dev :=
  { d with obs := { d.obs with counters := tmod d.obs.counters q {} (fun c =>
      let c' := { c with depth := c.depth + n }
      if d.obs.counting then { c' with high := max c'.high (d.depthOf q c'.depth), accepted := (c'.accepted + n) % 2 ^ 32 } else c') } }

/-- A unit leaves queue `q`. -/
def Dev.cntLeave (d : Dev) (q : Nat) (n : Nat := 1) : Dev :=
  { d with obs := { d.obs with counters := tmod d.obs.counters q {} (fun c => { c with depth := c.depth - n }) } }

/-- The samples of `n` cycles of queue `q`: a copy is in its engine's queue until its committed end. -/
def Dev.samples (d : Dev) (q depth n : Nat) : Nat :=
  if q < 37 then sumNat ((d.liveJobs q).map (fun j => min n (j.stop - d.frm.cycle))) else n * depth

/-- `n` cycles pass: every depth is sampled at the end of each (R577). -/
def Dev.cntAdvance (d : Dev) (n : Nat) : Dev :=
  if d.obs.counting then
    { d with obs := { d.obs with counters := d.obs.counters.map (fun p =>
        (p.1, { p.2 with sum := satAdd 64 p.2.sum (d.samples p.1 p.2.depth n), high := max p.2.high (d.depthOf p.1 p.2.depth) })) } }
  else d

/-- The entry of a memory request queue, 61 to 72: the spec does not say how long a request waits at its stack, so what the queue counts is
a free value of the frame and cycle (DESIGN CHOICE, log entry 202). -/
def memQueue (q frame cycle : Nat) : Counter :=
  let w := Config.requestQueue q (2 ^ 20 * frame + cycle)
  { depth := fld w 0 16, high := fld w 16 16, accepted := fld w 32 32, sum := fld w 64 64 }

/-- The 202 entries as they stand in the current cycle. -/
def Dev.entries (d : Dev) : List (Nat × Counter) :=
  (List.range 202).map (fun q =>
    if 61 ≤ q ∧ q ≤ 72 then (q, memQueue q d.frm.frame d.frm.cycle)
    else
      let c := tgetD d.obs.counters q ({} : Counter)
      (q, { c with depth := d.depthOf q c.depth }))

/-- Queue `q` is emptied. -/
def Dev.cntClear (d : Dev) (q : Nat) : Dev :=
  { d with obs := { d.obs with counters := tmod d.obs.counters q {} (fun c => { c with depth := 0 }) } }

/-! ### The trace (R581 to R586) -/

/-- Records the buffer holds (R585). -/
def traceSlots : Nat := 524288

/-- A trace record (Table 14.4) as one number. -/
def traceWord (kind unit wher frame cycle data : Nat) : Nat :=
  kind + 2 ^ 8 * (unit % 256) + 2 ^ 16 * (wher % 65536) + 2 ^ 32 * (frame % 2 ^ 48) + 2 ^ 96 * (cycle % 2 ^ 20) +
    2 ^ 128 * (data % 2 ^ 128)

/-- PRE records (R586). -/
def tracePre (cfg : Nat) : Nat := 4096 * max 1 (nfld cfg 16 7)

/-- Time of a record: its frame and cycle as one number. -/
def traceTime (frame cycle : Nat) : Nat := 2 ^ 20 * (frame % 2 ^ 48) + cycle % 2 ^ 20

/-- Time at which a record was made. -/
def recordTime (r : Nat) : Nat := traceTime (r / 2 ^ 32) (r / 2 ^ 96)

/-- A GAP record made at a time, for `n` records lost. -/
def gapRecord (time n : Nat) : Nat := traceWord 8 0xFF 0 (time / 2 ^ 20) (time % 2 ^ 20) (2 ^ 64 * n)

/-- Write one record into the buffer under the state and policy (Table 14.6, R584, R586). -/
def Obs.push (o : Obs) (policy pre : Nat) (r : Nat) : Obs :=
  let g := gapRecord (recordTime r) o.gap
  let rs := if o.gap > 0 then [r, g] else [r]
  match o.state with
  | .recording =>
    if policy = 3 ∧ traceSlots < o.undrained + rs.length then { o with lost := o.lost + 1, gap := o.gap + 1 }
    else
      let b := rs ++ o.buffer
      { o with
        buffer := b.take traceSlots
        undrained := o.undrained + rs.length
        gap := 0
        wrapped := o.wrapped || (policy ≠ 3 && decide (b.length > traceSlots)) }
  | .armed =>
    let b := rs ++ o.buffer
    { o with buffer := b.take pre, gap := 0, overwritten := o.overwritten + (b.length - pre) }
  | .triggered =>
    if o.slots < rs.length + 1 then
      { o with
        buffer := gapRecord (recordTime r) 1 :: (rs.drop 1 ++ o.buffer)
        slots := 0, gap := 0, lost := o.lost + 1, state := .full }
    else if o.slots = rs.length + 1 then
      { o with buffer := gapRecord (recordTime r) 0 :: (rs ++ o.buffer), slots := 0, gap := 0, state := .full }
    else { o with buffer := rs ++ o.buffer, slots := o.slots - rs.length, gap := 0 }
  | .full =>
    { o with
      lost := o.lost + 1
      buffer := match o.buffer with
        | [] => []
        | g :: b => (g + 2 ^ 192) :: b }
  | _ => o

/-- Records of a cycle beyond the fourth are lost (R583, R584); once a pin is full its final GAP record counts them too (R586). -/
def Obs.lose (o : Obs) (n : Nat) : Obs :=
  match o.state with
  | .off => o
  | .paused => o
  | .full => { o with lost := o.lost + n, buffer := match o.buffer with
      | [] => []
      | g :: b => (g + 2 ^ 192 * n) :: b }
  | _ => { o with lost := o.lost + n, gap := o.gap + n }

/-- The trigger of an armed pin: its TRIGGER record, after a GAP record where records have been lost (R584, R586). -/
def Obs.fire (o : Obs) (pre code time : Nat) : Obs :=
  let b := if o.gap > 0 then gapRecord time o.gap :: o.buffer else o.buffer
  let gone := o.overwritten + (b.length - pre)
  if o.state = .armed then
    { o with
      state := .triggered, slots := traceSlots - pre - 1, gap := 0, overwritten := gone
      buffer := traceWord 7 0xFF 0 (time / 2 ^ 20) (time % 2 ^ 20) (code + 2 ^ 64 * gone) :: b.take pre }
  else o

/-- Insert a record behind those of lower or equal (KIND, UNIT) (R583). -/
def traceInsert (l : List Nat) (r : Nat) : List Nat :=
  match l with
  | [] => [r]
  | x :: t =>
    if x % 256 * 256 + x / 256 % 256 ≤ r % 256 * 256 + r / 256 % 256 then x :: traceInsert t r else r :: x :: t

/-- A cycle ends: its trigger is taken, its records are ordered, and those beyond the fourth are lost (R583, R586). -/
def Obs.closeCycle (o : Obs) (policy pre time : Nat) : Obs :=
  let rs := (o.batch.filter (fun r => recordTime r = time)).foldl traceInsert []
  let o1 : Obs := match o.trigger with
    | none => o
    | some t => if t.2 = time then { o.fire pre t.1 time with trigger := none } else o
  let o2 := { o1 with batch := o1.batch.filter (fun r => recordTime r ≠ time) }
  ((rs.take 4).foldl (fun x r => x.push policy pre r) o2).lose (rs.length - 4)

/-- The cycles before a time end, in their order; all, where no time is given. -/
def Obs.flush (o : Obs) (policy pre : Nat) (before : Option Nat := none) : Obs :=
  let times := ((o.batch.map recordTime) ++ (o.trigger.map Prod.snd).toList).foldl sinsert []
  (times.filter (fun t => before.all (fun b => decide (t < b)))).foldl (fun x t => x.closeCycle policy pre t) o

/-- The allocation that OBS.TRC_ALLOC names and the records that it holds, when it meets R587. -/
def Dev.traceAlloc (d : Dev) : Option (Nat × Nat) :=
  let a := d.regFld .obsTrcAlloc 0 12
  let e := d.alloc a
  if e.valid && e.purpose = 5 && e.mayWrite 7 then some (a, e.size / 32) else none

/-- The policy under which records are kept: drain without its allocation is ring (R587). -/
def Dev.tracePolicyNow (d : Dev) : Nat := if d.modeTrc = 3 ∧ d.traceAlloc = none then 1 else d.modeTrc

/-- Close the trace unit's cycles before a time, or all. -/
def Dev.traceFlush (d : Dev) (before : Option Nat := none) : Dev :=
  { d with obs := d.obs.flush d.tracePolicyNow (tracePre (d.reg .obsTrcCfg)) before }

/-- Make a trace record of a kind from 1 to 6 in the current cycle (R582). -/
def Dev.trace (d : Dev) (kind unit wher data : Nat) : Dev :=
  if d.obs.state = .off ∨ d.obs.state = .paused ∨ !(d.reg .obsTrcCfg).testBit (kind - 1) then d
  else { d with obs := { d.obs with batch := d.obs.batch ++ [traceWord kind unit wher d.frm.frame d.frm.cycle data] } }

/-- A trigger of an armed pin in the current cycle (R586): the first one counts. -/
def Dev.tracePin (d : Dev) (code : Nat) : Dev :=
  if d.obs.state ≠ .armed then d
  else match d.obs.trigger with
    | some _ => d
    | none => { d with obs := { d.obs with trigger := some (code, traceTime d.frm.frame d.frm.cycle) } }

/-! ### Fill work discarded (R72, R73) -/

/-- The item has started and not retired. -/
def FillItem.started (i : FillItem) : Bool := !i.progress.isEmpty

/-- The item back in its queue as not started. -/
def FillItem.discard (i : FillItem) : FillItem := { i with progress := [] }

/-- Discard the started items that satisfy `p`; FILL_DISCARD counts them tile by tile, as far as they had work on a tile (DEDUCED, log
entry 151). -/
def Dev.discardFill (d : Dev) (p : FillItem → Bool) : Dev :=
  let hit := fun (i : FillItem) => i.started && p i
  let n := sumNat (d.fwd.groups.map (fun g => sumNat ((g.2.fill.filter hit).map (fun i => i.progress.length))))
  { d with fwd := { d.fwd with
      groups := d.fwd.groups.map (fun g =>
        (g.1, { g.2 with fill := g.2.fill.map (fun i => if hit i then i.discard else i) }))
      bnd := { d.fwd.bnd with discard := satAdd 32 d.fwd.bnd.discard n } } }

/-! ### Raising a fault (R493 to R498, R521) -/

/-- The severity of a fault code (the code tables of every chapter; a code with two severities has its
severity inside a run). -/
def severityOf (code : Nat) : Severity :=
  if [0x1001, 0x1008, 0x1025, 0x1030, 0x1061, 0x1062, 0x1064, 0x2010, 0x2011, 0x3010, 0x3011, 0x3021, 0x3022].contains code
    then .notice
  else if 0x1050 ≤ code ∧ code ≤ 0x105F then .notice
  else if [0x4001, 0x4003, 0x4010, 0x4011, 0x4012, 0x4020, 0x5003, 0x5010, 0x5013, 0x5016, 0x5017, 0x5019, 0x501A,
      0x501C].contains code then .notice
  else if [0x6001, 0x6002, 0x6003, 0x6004, 0x6005, 0x6006, 0x6024, 0x6030, 0x7001, 0x7002, 0x7005, 0x7010, 0x7020,
      0x7021, 0x7022, 0x7024].contains code then .notice
  else if [0x8001, 0x8002, 0x8003, 0x8010, 0x8011, 0x8013, 0x8014, 0x8016, 0x8017, 0x8020, 0x8021, 0x8024, 0x8030,
      0x8040].contains code then .notice
  else if [0x9010, 0x9020, 0x9023, 0xA003, 0xA010, 0xA011, 0xA020, 0xA021, 0xA024, 0xB001, 0xB002, 0xB004, 0xB006,
      0xB007].contains code then .notice
  else if [0x1063, 0x5015, 0x5018, 0x6021, 0x7003, 0x7004, 0x7023, 0x8012, 0x8015, 0x8022, 0x8023, 0x8031, 0x8032,
      0x9011, 0xA001, 0xA002, 0xA023, 0xB012].contains code then .degrade
  else if [0x1060, 0x1065, 0x1066, 0x9001, 0x9002, 0x9013, 0x9021, 0x9022, 0xA022, 0xB010, 0xB011, 0xB013].contains code
    then .chipStop
  else .stepAbort

/-- The value of a severity (Table 11.2). -/
def Severity.val : Severity → Nat
  | .notice => 0
  | .degrade => 1
  | .stepAbort => 2
  | .chipStop => 3

/-- SEV byte of Table 11.3. -/
def FaultRec.sevByte (r : FaultRec) : Nat :=
  r.sev.val + 4 * b2n r.preempted + 8 * b2n (decide (r.rep > 0)) + 16 * b2n r.downgraded + 32 * b2n r.overflow

/-- The 32 bytes of a fault record (Table 11.3). -/
def FaultRec.bytes (r : FaultRec) : List Byte :=
  leBytes 2 r.code ++ leBytes 1 r.sevByte ++ leBytes 1 r.unit ++ leBytes 2 r.wher ++ leBytes 2 r.rep ++
  leBytes 6 r.frame ++ leBytes 2 0 ++ leBytes 4 (r.cycle % 2 ^ 20) ++ leBytes 4 r.seq ++ leBytes 8 r.detail

/-- Count one raising under the severity with which it is recorded (R521). -/
def Dev.countFault (d : Dev) (s : Severity) : Dev :=
  match s with
  | .notice => d.bumpFld .fltCount0 0 16 1
  | .degrade => d.bumpFld .fltCount0 16 16 1
  | .stepAbort => d.bumpFld .fltCount1 0 16 1
  | .chipStop => d.bumpFld .fltCount1 16 16 1

/-- Capture an overrun in FRM.OVR (R84, Table 1.21): the first re-arms nothing, later ones of its frame add their bits. -/
def Dev.captureOvr (d : Dev) (code wher : Nat) : Dev :=
  if code < 0x1010 ∨ 0x1012 < code then d
  else
    let o := d.reg .frmOvr
    let bit := code - 0x1010
    let grp := fun (g : Nat) => putFld g 8 6 (if code = 0x1012 then wher else nfld g 8 6)
    let prt := fun (g : Nat) => putFld g 4 4 (if code = 0x1010 then wher / 16 else nfld g 4 4)
    if o.testBit 31 then
      if d.pair .frmOvrFrameLo .frmOvrFrameHi = d.frm.frame then
        let o1 := if code = 0x1012 ∧ (!o.testBit 2 ∨ wher < nfld o 8 6) then grp o else o
        let o2 := if code = 0x1010 ∧ (!o1.testBit 0 ∨ wher / 16 < nfld o1 4 4) then prt o1 else o1
        d.setReg .frmOvr (putFld o2 bit 1 1)
      else d
    else
      (d.setReg .frmOvr (putFld (prt (grp (2 ^ 31))) bit 1 1)).setPair .frmOvrFrameLo .frmOvrFrameHi d.frm.frame

/-- Enter a record in the fault queue: coalesce, append, or overflow (R496, R498). -/
def Dev.enterFault (d : Dev) (r : FaultRec) : Dev :=
  let same := fun (q : FaultRec) => q.code = r.code ∧ q.unit = r.unit ∧ q.wher = r.wher
  if d.flt.queue.any (fun q => decide (same q)) then
    { d with flt := { d.flt with
        queue := d.flt.queue.map (fun q => if same q then { q with rep := satAdd 16 q.rep 1 } else q) } }
  else if d.flt.queue.length + b2n d.flt.handling.isSome < 32 then
    ({ d with flt := { d.flt with
        queue := d.flt.queue ++ [{ r with seq := d.flt.nextSeq }], nextSeq := (d.flt.nextSeq + 1) % 2 ^ 32 } }).cntEnter 201
  else
    match d.flt.reserved with
    | some q => { d with flt := { d.flt with reserved := some { q with rep := satAdd 16 q.rep 1 } } }
    | none =>
      ({ d with flt := { d.flt with
          reserved := some { r with
            code := 0x1060, sev := .chipStop, downgraded := false, overflow := true, unit := 24, wher := 0, rep := 1
            detail := 0, seq := d.flt.nextSeq }
          nextSeq := (d.flt.nextSeq + 1) % 2 ^ 32
          overflow := true } }).countFault .chipStop

/-- A more severe record stops the handling of the current one, which returns to the queue (R497). -/
def Dev.preempt (d : Dev) (s : Severity) : Dev :=
  match d.flt.handling with
  | none => d
  | some h =>
    if h.sev.val < s.val then
      { d with flt := { d.flt with handling := none, queue := { h with preempted := true } :: d.flt.queue } }
    else d

/-- Raise a fault at a severity in the current cycle (R45, R493 to R498, R582, R586). -/
def Dev.raiseAs (d : Dev) (sev : Severity) (code unit wher detail : Nat) : Dev :=
  let down := sev = .stepAbort ∧ d.seq.run.isNone
  let s : Severity := if down then .notice else sev
  let r : FaultRec :=
    { code := code, sev := s, downgraded := down, unit := unit, wher := wher, frame := d.frm.frame
      cycle := d.frm.cycle, detail := detail % 2 ^ 64 }
  let d1 := (d.countFault s).captureOvr code wher
  let d2 := d1.enterFault r
  let lost := d1.flt.reserved.isNone && d2.flt.reserved.isSome
  let top : Severity := if lost then .chipStop else s
  let d3 := (d2.preempt top).trace 2 unit wher (code + 2 ^ 16 * r.sevByte + 2 ^ 64 * (detail % 2 ^ 64))
  let d4 := if lost then d3.trace 2 24 0 (0x1060 + 2 ^ 16 * 0x2B) else d3
  let trig := d.reg .obsTrcTrig
  let cfg := d.reg .obsTrcCfg
  let hit := fun (c : Nat) (v : Severity) => (c &&& (trig / 2 ^ 16)) = (trig % 2 ^ 16 &&& (trig / 2 ^ 16)) ∨
    (cfg.testBit 10 ∧ nfld cfg 8 2 ≤ v.val)
  let d5 := if hit code s then d4.tracePin code else if lost ∧ hit 0x1060 .chipStop then d4.tracePin 0x1060 else d4
  if 1 ≤ top.val then (d5.discardFill (fun _ => true)).emit (.msix 64) else d5

/-- Raise a fault at its table's severity. -/
def Dev.raise (d : Dev) (code unit wher detail : Nat) : Dev := d.raiseAs (severityOf code) code unit wher detail

/-- Capture the first admission fault in FRM.ADM (Table 1.21): SOURCE is the TARGET of the refusing unit, or 0x7F for a
host command. -/
def Dev.captureAdm (d : Dev) (code source : Nat) : Dev :=
  if (d.reg .frmAdm).testBit 31 then d else d.setReg .frmAdm (2 ^ 31 + 2 ^ 16 * (source % 128) + code)

/-! ### The journal (R563 to R567, R615) -/

/-- Entries not yet exported (R567). -/
def Sec.unexported (s : Sec) : Nat := s.nextSeq - s.acked

/-- Bytes 0 to 95 of an entry (Table 13.6). -/
def JEntry.body (e : JEntry) : List Byte :=
  leBytes 8 e.seq ++ leBytes 6 e.frame ++ leBytes 1 e.source ++ leBytes 1 (e.kind + 128 * b2n e.digest) ++
  leBytes 8 e.object ++ leBytes 8 e.who ++ leBytes 32 e.old ++ leBytes 32 e.new

/-- The 128 bytes of an entry. -/
def JEntry.bytes (e : JEntry) : List Byte := e.body ++ leBytes 32 e.chain

/-- The CHAIN before entry 0 (R564). -/
def chainStart : Nat := identityDigest

/-- CHAIN of the newest entry. -/
def Sec.chain (s : Sec) : Nat := match s.journal with
  | [] => chainStart
  | e :: _ => e.chain

/-- The number of a master in SOURCE (Table 13.6). -/
def masterNum : Master → Nat
  | .management => 0
  | .host => 1
  | .peer => 2
  | .device => 3

/-- The seal of an entry: its SEQ and CHAIN, signed by the identity key (R565). -/
def sealOf (free : Nat) (e : JEntry) : Seal :=
  { seq := e.seq, chain := e.chain, sig := signBytes free (leBytes 8 e.seq ++ leBytes 32 e.chain) }

/-- No journal slot is free: every change but an acknowledgement is refused (R567). -/
def Dev.journalSpent (d : Dev) : Bool := decide (d.sec.unexported ≥ 65536)

/-- Append an entry, sealing every 256th (R565) and acting on the limits (R567). Nothing is entered while no slot is
free. -/
def Dev.journal (d : Dev) (source kind : Nat) (digest : Bool) (object who old new : Nat) : Dev :=
  if d.sec.unexported ≥ 65536 then d
  else
    let e0 : JEntry :=
      { seq := d.sec.nextSeq, frame := d.frm.frame, source := source, kind := kind, digest := digest
        object := object % 2 ^ 64, who := who, old := old % 2 ^ 256, new := new % 2 ^ 256, chain := 0 }
    let e := { e0 with chain := shake256 (leBytes 32 d.sec.chain ++ e0.body) }
    let sealNow := (e.seq + 1) % 256 = 0 ∧ d.sec.seals.length < 512
    let d1 := { d with
      sec := { d.sec with
        journal := (e :: d.sec.journal).take 65536
        nextSeq := d.sec.nextSeq + 1
        seals := if sealNow then sealOf d.free e :: d.sec.seals else d.sec.seals }
      free := if sealNow then d.free + 1 else d.free }
    let u := d1.sec.unexported
    let d2 := if u = 57344 then d1.raise 0xA020 24 0 0 else d1
    if u = 65536 then d2.raise 0xA022 24 0 0 else d2

/-- A change from this master is refused because the journal is full (R567). -/
def Dev.journalFull (d : Dev) (src : Master) : Bool :=
  match src with
  | .management => decide (d.sec.unexported ≥ 65280)
  | .host => decide (d.sec.unexported ≥ 65280)
  | _ => decide (d.sec.unexported ≥ 65536)

/-- Journal the change of a register (KIND 1, Table 13.14). -/
def Dev.journalReg (d : Dev) (src : Master) (addr old new : Nat) : Dev :=
  d.journal (masterNum src) 1 false addr 0 old new

end Sys2Proof.Machine
end

