-- ==== Sys2Proof/Machine/Mem.lean ====
section
/-! DEFINITION. Device memory as the units of the chip reach it: zero marks, poison and codewords, the
translation and the checks of allocations (08_memory_and_layout.md, R310, R360 to R379). -/

namespace Sys2Proof.Machine

/-! ### Contents behind zero marks, poison and codewords -/

/-- The ledger block of a model address is under a zero mark (R310). -/
def Dev.zeroMarked (d : Dev) (a : Nat) : Bool := d.stk.zero.contains (a / 4096)

/-- A stored byte as a read returns it: 0 in a zero-marked block (R310). -/
def State.byte (s : State) (a : Nat) : Byte := if s.dev.zeroMarked a then 0 else s.mem.get a

/-- `n` stored bytes. -/
def State.rd (s : State) (a n : Nat) : List Byte := (List.range n).map (fun i => s.byte (a + i))

/-- A little-endian number of `n` bytes. -/
def State.num (s : State) (a n : Nat) : Nat := leNat (s.rd a n)

/-- What the decoder makes of a granule (Table 8.3, R366, R370). -/
inductive Decoded where
  | clean
  | corrected
  | uncorrectable
  | storedPoison
  /-- Miscorrected into other bytes. -/
  | wrong (g : BitVec 512)
  deriving DecidableEq, Repr

/-- Cells in error in each of the eight SECDED words of an SRAM granule: bit 288q + 4i + j of `m` is cell 4i + j of row q, which belongs to
word j of the row's four (R370). -/
def sramErrors (m : Nat) : List Nat :=
  (List.range 8).map (fun w => ((List.range 72).filter (fun i => m.testBit (288 * (w / 4) + 4 * i + w % 4))).length)

/-- Decode granule `g` (model address / 64): a stack's codeword by its symbols in error (Table 8.3), an SRAM granule by its cells in
error (R370). Bytes are kept as data, and check symbols only as what is in error. -/
def Dev.decodeGran (d : Dev) (g : Nat) : Decoded :=
  if d.stk.zero.contains (g / 64) then .clean
  else if d.stk.poison.contains g then .storedPoison
  else
    let e := tgetD d.stk.upsets g 0
    let beyond := match Config.sixSymbols d.free g with
      | none => .uncorrectable
      | some w => .wrong w
    if (stackOf (64 * g)).isSome then
      (if e = 0 then .clean else if e ≤ 3 then .corrected else if e ≤ 5 then .uncorrectable else beyond)
    else
      let worst := (sramErrors e).foldl max 0
      if worst = 0 then .clean else if worst = 1 then .corrected else if worst = 2 then .uncorrectable else beyond

/-- Latch the address of an uncorrectable codeword in MEM.UE_ADDR (Table 8.13). -/
def Dev.latchUe (d : Dev) (k local_ : Nat) : Dev :=
  if (d.reg .memUeAddrHi k).testBit 31 then d
  else (d.setReg .memUeAddrLo (local_ % 2 ^ 32) k).setReg .memUeAddrHi (2 ^ 31 + local_ / 2 ^ 32 % 16) k

/-- A corrected codeword of stack `k` counts in risk input 0 (Table 10.2). -/
def Dev.riskCe (d : Dev) (k : Nat) : Dev :=
  { d with prt := { d.prt with now := { d.prt.now with ce := lmod d.prt.now.ce k (· + 1) } } }

/-- An uncorrectable codeword or SRAM word counts in risk input 1. -/
def Dev.riskUe (d : Dev) : Dev := { d with prt := { d.prt with now := { d.prt.now with ue := d.prt.now.ue + 1 } } }

/-- SRAM words of granule `g` with `n` cells in error. -/
def Dev.sramWords (d : Dev) (g n : Nat) : Nat := ((sramErrors (tgetD d.stk.upsets g 0)).filter (fun x => x = n)).length

/-- Count what the decoder found (R364, R365, R370): a corrected granule of a stack waits for its write-back, corrected SRAM words are
rewritten at once. -/
def Dev.countGran (d : Dev) (g : Nat) (r : Decoded) : Dev :=
  match stackOf (64 * g) with
  | none =>
    (match r with
      | .corrected => (let e := d.bumpFld .memSramCe 0 32 (d.sramWords g 1)
          { e with stk := { e.stk with upsets := tdel e.stk.upsets g } })
      | .uncorrectable => ((d.bumpFld .memSramCe 0 32 (d.sramWords g 1)).bumpFld .memSramUe 0 32 (d.sramWords g 2)).riskUe
      | _ => d)
  | some k =>
    (match r with
      | .corrected => ({ d.bumpFld .memCe 0 32 1 k with stk := { d.stk with writeback := sinsert d.stk.writeback g } }).riskCe k
      | .uncorrectable => ((d.bumpFld .memUe 0 32 1 k).latchUe k (64 * g - stackAddr k 0)).riskUe
      | .wrong _ => { d with free := d.free + 1 }
      | _ => d)

/-- Granules that `n` bytes from `a` touch. -/
def granulesOf (a n : Nat) : List Nat := if n = 0 then [] else (List.range ((a + n - 1) / 64 - a / 64 + 1)).map (· + a / 64)

/-- The bytes that the decoder delivers of `n` bytes at a model address. -/
def State.delivered (s : State) (a n : Nat) : List Byte :=
  (List.range n).map (fun i => match s.dev.decodeGran ((a + i) / 64) with
    | .wrong w => BitVec.ofNat 8 (fld w (8 * ((a + i) % 64)) 8)
    | _ => s.byte (a + i))

/-- What is delivered of granule `g` is poisoned. -/
def Dev.badGran (d : Dev) (g : Nat) : Bool := match d.decodeGran g with
  | .uncorrectable => true
  | .storedPoison => true
  | _ => false

/-- A unit reads `n` bytes at a model address: the bytes, whether they are poisoned, and the state after the decoder's
counts and the faults of R367 (0x6020 for a codeword found uncorrectable, 0x6023 for stored poison). -/
def State.load (s : State) (unit wher a n : Nat) : (List Byte × Bool) × State :=
  if s.dev.stk.poison.isEmpty && s.dev.stk.upsets.isEmpty then ((s.rd a n, false), s)
  else
    let gs := granulesOf a n
    let d1 := gs.foldl (fun (d : Dev) g =>
      let r := s.dev.decodeGran g
      let d' := d.countGran g r
      match r with
      | .uncorrectable => if (stackOf (64 * g)).isSome then d'.raise 0x6020 unit wher (64 * g) else d'.raise 0x6022 unit wher (64 * g)
      | .storedPoison => d'.raise 0x6023 unit wher (64 * g)
      | _ => d') s.dev
    ((s.delivered a n, gs.any s.dev.badGran), { s with dev := d1 })

/-- The first write into a zero-marked block writes the whole block: it becomes plain data, 0 where not written (R310). -/
def State.unmark (s : State) (a : Nat) : State :=
  let b := a / 4096
  if s.dev.stk.zero.contains b then
    { s with
      mem := s.mem.erase (4096 * b) (4096 * (b + 1))
      dev := { s.dev with stk := { s.dev.stk with zero := s.dev.stk.zero.filter (· ≠ b) } } }
  else s

/-- What a write does to the codeword of a granule: a whole granule is stored anew, poisoned or not; a part leaves stored
poison in place (the rest of the granule is still unknown; log entry 12). -/
def Dev.noteGran (d : Dev) (g : Nat) (whole poison : Bool) : Dev :=
  let clr := d.stk.poison.filter (· ≠ g)
  { d with stk := { d.stk with
      poison := if poison then sinsert d.stk.poison g else if whole then clr else d.stk.poison
      upsets := if d.stk.upsets.isEmpty then [] else tdel d.stk.upsets g
      writeback := d.stk.writeback.filter (· ≠ g) } }

/-- A write into a granule. A part write is a read, modify and write of the codeword (R379): what its read finds is counted, and a
codeword found uncorrectable is stored poisoned, the rest of the granule being unknown (log entry 12). -/
def Dev.writeGran (d : Dev) (g : Nat) (whole poison : Bool) : Dev :=
  let r := if whole then .clean else d.decodeGran g
  (d.countGran g r).noteGran g whole (poison || decide (r = .uncorrectable))

/-- The bytes that a part write's read delivers where the decoder miscorrects (Table 8.3). -/
def State.misread (s : State) (g : Nat) (whole : Bool) : Memory :=
  if whole then s.mem
  else match s.dev.decodeGran g with
    | .wrong w => s.mem.write (64 * g) ((List.range 64).map (fun i => BitVec.ofNat 8 (fld w (8 * i) 8)))
    | _ => s.mem

/-- Store bytes at a model address, without the hooks of protection. -/
def State.storeRaw (s : State) (a : Nat) (b : List Byte) (poison : Bool := false) : State :=
  let blocks := (List.range ((a + b.length + 4095) / 4096 - a / 4096)).map (· + a / 4096)
  let s1 := if s.dev.stk.zero.isEmpty then s else blocks.foldl (fun t k => t.unmark (4096 * k)) s
  let s2 := if s1.dev.stk.poison.isEmpty && s1.dev.stk.upsets.isEmpty && s1.dev.stk.writeback.isEmpty && !poison then s1
    else (granulesOf a b.length).foldl (fun (t : State) g =>
      let whole := decide (a ≤ 64 * g) && decide (64 * g + 64 ≤ a + b.length)
      { t with mem := t.misread g whole, dev := t.dev.writeGran g whole poison }) s1
  { s2 with mem := s2.mem.write a b }

/-! ### Allocations -/

/-- Bytes on each place of an allocation (R373). -/
def Dev.share (d : Dev) (e : AllocEntry) : Nat :=
  if e.loc ≤ 1 then
    let n := e.placeList.length
    if n = 0 then 0 else ceilDiv e.size (n * e.unit) * e.unit
  else
    let m := (d.group (e.places % 64)).size
    if m = 0 then 0 else e.size / m

/-- Translate offset `o` of an allocation to a model address (R373). -/
def Dev.translate (d : Dev) (e : AllocEntry) (o : Nat) : Nat :=
  if e.loc ≤ 1 then
    let ps := e.placeList
    let n := max 1 ps.length
    let u := e.unit
    let j := o / u
    let p := ps.getD (j % n) 0
    let l := e.base * 4096 + (j / n) * u + o % u
    if e.loc = 0 then stackAddr p l else stashAddr p l
  else
    let g := d.group (e.places % 64)
    let sh := max 1 (d.share e)
    let l := e.base * 64 + o % sh
    if e.loc = 2 then fwdAddr (g.fwdMembers.getD (o / sh) 0) l else bwdAddr (g.bwdMembers.getD (o / sh) 0) l

/-- The place of offset `o`: its stack or stash die, or member tile (R373). -/
def Dev.placeOf (d : Dev) (e : AllocEntry) (o : Nat) : Nat :=
  if e.loc ≤ 1 then e.placeList.getD (o / e.unit % max 1 e.placeList.length) 0
  else
    let g := d.group (e.places % 64)
    let sh := max 1 (d.share e)
    if e.loc = 2 then g.fwdMembers.getD (o / sh) 0 else g.bwdMembers.getD (o / sh) 0

/-- The check of R376 that an access fails: 0 not valid, 1 beyond size, 2 permission. -/
def Dev.accessKind (d : Dev) (cls a o n : Nat) (write : Bool) : Option Nat :=
  let e := d.alloc a
  if !e.valid then some 0
  else if e.size < o + n then some 1
  else if (if write then e.mayWrite cls else e.mayRead cls) then none
  else some 2

/-- Raise the access fault of R376 and capture it in MEM.ACCESS of the instance (R401). -/
def Dev.accessFault (d : Dev) (inst cls a kind : Nat) (write : Bool) (unit detail : Nat) : Dev :=
  let d1 := if (d.reg .memAccess inst).testBit 31 then d
    else d.setReg .memAccess (2 ^ 31 + 2 ^ 28 * (cls % 8) + 2 ^ 26 * kind + 2 ^ 25 * b2n write + a % 4096) inst
  d1.raise (0x6010 + kind) unit a detail

/-- Who accesses: MEM.ACCESS instance, unit class (Table 8.5) and endpoint number. -/
structure Who where
  inst : Nat
  cls : Nat
  unit : Nat
  deriving DecidableEq, Repr

/-- A unit on the logic die of stack `k`. -/
def Who.stack (k cls : Nat) : Who := { inst := k, cls := cls, unit := 25 + k }

/-- The control die (class 7). -/
def Who.control : Who := { inst := 0, cls := 7, unit := 24 }

/-- Pieces of [o, o + n) that do not cross a granule. -/
def pieces : Nat → Nat → Nat → List (Nat × Nat)
  | 0, _, _ => []
  | f + 1, o, n => if n = 0 then [] else
      let k := min n (64 - o % 64)
      (o, k) :: pieces f (o + k) (n - k)

/-- The pieces of an access, granule by granule. -/
def granPieces (o n : Nat) : List (Nat × Nat) := pieces (n / 64 + 2) o n

/-- Read bytes of an allocation that needs no check, granule by granule. -/
def State.loadPieces (s : State) (unit a o n : Nat) : (List Byte × Bool) × State :=
  let e := s.dev.alloc a
  (granPieces o n).foldl (fun (acc : (List Byte × Bool) × State) p =>
    let q := acc.2.load unit a (acc.2.dev.translate e p.1) p.2
    ((acc.1.1 ++ q.1.1, acc.1.2 || q.1.2), q.2)) (([], false), s)

/-- Read bytes of an allocation with the checks of R376: `none` when refused. -/
def State.loadAlloc (s : State) (w : Who) (a o n : Nat) : Option (List Byte × Bool) × State :=
  match s.dev.accessKind w.cls a o n false with
  | some k => (none, { s with dev := s.dev.accessFault w.inst w.cls a k false w.unit o })
  | none =>
    let r := s.loadPieces w.unit a o n
    (some r.1, r.2)

/-- Bytes of an allocation as a plain number, without checks (for structures whose permissions a run's admission has
checked, R616). -/
def State.peek (s : State) (a o n : Nat) : Nat :=
  let e := s.dev.alloc a
  leNat ((granPieces o n).flatMap (fun p => s.rd (s.dev.translate e p.1) p.2))

/-- The same where the bytes lie in the allocation; an access that R376 refuses delivers nothing, and what would be read of it
shows as 0 (DESIGN CHOICE, log entry 159). -/
def State.peekIn (s : State) (a o n : Nat) : Nat :=
  let e := s.dev.alloc a
  if e.valid && decide (o + n ≤ e.size) then s.peek a o n else 0

/-- Bytes of an allocation without checks. -/
def State.peekBytes (s : State) (a o n : Nat) : List Byte :=
  let e := s.dev.alloc a
  (granPieces o n).flatMap (fun p => s.rd (s.dev.translate e p.1) p.2)

end Sys2Proof.Machine
end

