-- ==== Sys2Proof/Machine/Store.lean ====
section
/-! DEFINITION. Writes into device memory with everything a write brings about: copy-on-write of frozen blocks
(R460, R461), dirty bits (R466), the discard of fill work that reads the allocation (R72), and the checks of
R376 and of device memory's hosts (R378, R379). -/

namespace Sys2Proof.Machine

/-! ### Freezes -/

/-- Pool slots whose copies an engine still has to read. -/
def FrozenBlock.slots (f : FrozenBlock) : List Nat := f.snapCopy.toList ++ f.mirrorCopy.toList

/-- Drop freezes that no engine holds any more, with the pool copies that no engine reads. -/
def Prt.dropFreezes (p : Prt) : Prt :=
  let live := (p.frozen.filter (fun (f : Nat × FrozenBlock) => f.2.snap || f.2.mirror)).map (fun (f : Nat × FrozenBlock) =>
    (f.1, { f.2 with snapCopy := if f.2.snap then f.2.snapCopy else none, mirrorCopy := if f.2.mirror then f.2.mirrorCopy else none }))
  let used := live.flatMap (fun (f : Nat × FrozenBlock) => f.2.slots)
  { p with frozen := live, pool := p.pool.filter used.contains }

/-- PRT.SNAP.PROGRESS: the share of a snapshot's shards that have a receipt, in 1/256 units. -/
def Snapshot.progress (sn : Snapshot) : Nat :=
  let items := sn.items.filter (fun (x : SnapItem) => x.kept.isNone && !x.pinned)
  let total := sumNat (items.map (fun x => x.places.length))
  if total = 0 then 0 else min 255 (256 * sumNat (items.map (fun x => min x.places.length x.receipts.length)) / total)

/-- Abandon the snapshot in progress (R464): its freezes end and the previous generation stays. -/
def Dev.abandonSnapshot (d : Dev) (notice : Bool) : Dev :=
  match d.prt.snap with
  | none => d
  | some sn =>
    let p := { d.prt with
      snap := none, snapState := 3, progress := sn.progress, touched := sn.before.foldl sinsert d.prt.touched, frozen := d.prt.frozen.map (fun (f : Nat × FrozenBlock) => (f.1, { f.2 with snap := false })) }
    let d1 := { d with prt := p.dropFreezes }
    if notice then d1.raise 0x8011 24 0 0 else d1

/-- Model 4 KiB blocks of [o, o + n) of an allocation. -/
def Dev.itemBlocks (d : Dev) (a o n : Nat) : List Nat :=
  let e := d.alloc a
  (granPieces o n).foldl (fun l p => sinsert l (d.translate e p.1 / 4096)) []

/-- Model blocks of a mirror's tensor. -/
def Dev.mirrorBlocks (d : Dev) (m : MirrorItem) : List Nat :=
  let a := (d.tensor m.tensor).alloc
  d.itemBlocks a 0 (d.alloc a).size

/-- Abandon the mirrors in progress that satisfy `which`, each with its notice (R461, R469). -/
def Dev.abandonMirror (d : Dev) (notice : Bool) (which : MirrorItem → Bool := fun _ => true) : Dev :=
  let gone := d.prt.mirrors.filter (fun (m : MirrorItem) => m.open_ && which m)
  if gone.isEmpty then d
  else
    let mine := gone.flatMap d.mirrorBlocks
    let ms := d.prt.mirrors.map (fun (m : MirrorItem) =>
      if m.open_ && which m then { m with toSend := [], inFlight := [], sealSent := false, open_ := false } else m)
    let p := { d.prt with
      mirrorState := if ms.any MirrorItem.open_ then .streaming else .abandoned
      mirrors := ms
      frozen := d.prt.frozen.map (fun (f : Nat × FrozenBlock) => if mine.contains f.1 then (f.1, { f.2 with mirror := false }) else f) }
    let d1 := { d with prt := p.dropFreezes }
    if notice then gone.foldl (fun (x : Dev) _ => x.raise 0x8016 24 0 0) d1 else d1

/-- Blocks of the copy-on-write pool on stack `k` (R461: all 12 stacks, IUNIT 0). -/
def AllocEntry.poolBlocks (e : AllocEntry) (k : Nat) : Nat :=
  let n := e.size / 4096
  if n ≤ k then 0 else (n - k - 1) / 12 + 1

/-- The pool named by PRT.COW_ALLOC, when it is one (R461). -/
def Dev.cowPool (d : Dev) : Option AllocEntry :=
  let e := d.alloc (d.regFld .prtCowAlloc 0 12)
  if e.valid && e.purpose = 0 && e.loc = 0 && !e.panel && e.places = 0xFFF && e.mayRead 5 && e.mayWrite 5 then some e
  else none

/-- A free pool slot of stack `k`: its number 2^24 × k + slot. -/
def Dev.cowSlot (d : Dev) (k : Nat) : Option Nat :=
  match d.cowPool with
  | none => none
  | some e =>
    match (List.range (d.prt.pool.length + 1)).find? (fun n => !d.prt.pool.contains (2 ^ 24 * k + n)) with
    | none => none
    | some n => if n < e.poolBlocks k then some (2 ^ 24 * k + n) else none

/-- Model address of a pool slot. -/
def Dev.slotAddr (d : Dev) (c : Nat) : Nat :=
  match d.cowPool with
  | none => 0
  | some e => stackAddr (c / 2 ^ 24) (4096 * (e.base + c % 2 ^ 24))

/-- A full pool share abandons the snapshot and every mirror whose freeze still holds an unread block on stack `k` (R461). -/
def Dev.poolFull (d : Dev) (k : Nat) : Dev :=
  let on := d.prt.frozen.filter (fun (f : Nat × FrozenBlock) => stackOf (4096 * f.1) = some k)
  let d1 := if on.any (fun (f : Nat × FrozenBlock) => f.2.snap) then d.abandonSnapshot true else d
  let held := (on.filter (fun (f : Nat × FrozenBlock) => f.2.mirror)).map Prod.fst
  d1.abandonMirror true (fun m => !held.isEmpty && (d.mirrorBlocks m).any (fun b => held.contains b))

/-- An engine that froze a block has no copy of it yet. -/
def FrozenBlock.owed (f : FrozenBlock) : Bool := (f.snap && f.snapCopy.isNone) || (f.mirror && f.mirrorCopy.isNone)

/-- Pool slot `c` becomes the copy of each engine that lacks one; the other's, of an earlier freeze, stands. -/
def FrozenBlock.copied (f : FrozenBlock) (c : Nat) : FrozenBlock :=
  { f with snapCopy := if f.snap && f.snapCopy.isNone then some c else f.snapCopy
           mirrorCopy := if f.mirror && f.mirrorCopy.isNone then some c else f.mirrorCopy }

/-- Before a write into block `b`: copy a frozen block's old contents into the pool (R460), counted as the decoder finds them (R364) and
poisoned where they are (R367). One copy serves both engines where both owe one. The copy is no unit's read inside a run, and raises no fault (DEDUCED, log entry 195). -/
def State.cow (s : State) (b : Nat) : State :=
  match tget s.dev.prt.frozen b with
  | none => s
  | some f =>
    if !f.owed then s
    else
      let k := (stackOf (4096 * b)).getD 0
      match s.dev.cowSlot k with
      | none => { s with dev := s.dev.poolFull k }
      | some c =>
        let gs := (List.range 64).map (· + 64 * b)
        let found := if s.dev.stk.upsets.isEmpty then s.dev else gs.foldl (fun (d : Dev) g => d.countGran g (s.dev.decodeGran g)) s.dev
        let s1 := ({ s with dev := found } : State).storeRaw (s.dev.slotAddr c) (s.delivered (4096 * b) 4096)
        let lost := (List.range 64).filter (fun i => s.dev.badGran (64 * b + i))
        let stk := { s1.dev.stk with poison := lost.foldl (fun l i => sinsert l (s1.dev.slotAddr c / 64 + i)) s1.dev.stk.poison }
        { s1 with dev := { s1.dev with stk := stk, prt := { s1.dev.prt with
            pool := sinsert s1.dev.prt.pool c
            frozen := tput s1.dev.prt.frozen b (f.copied c) } } }

/-- Blocks of 4 KiB that `n` bytes from `a` touch. -/
def blocksOf (a n : Nat) : List Nat :=
  if n = 0 then [] else (List.range ((a + n - 1) / 4096 - a / 4096 + 1)).map (· + a / 4096)

/-- Store bytes at a model address. -/
def State.storeBytes (s : State) (a : Nat) (b : List Byte) (poison : Bool := false) : State :=
  let s1 := if s.dev.prt.frozen.isEmpty then s else (blocksOf a b.length).foldl State.cow s
  s1.storeRaw a b poison

/-! ### Writes into allocations -/

/-- The tensor is mirrored: PROT 1 or 3, or a small PROT 2 while mirrors stream at every tick (R450, R454). -/
def Dev.mirrored (d : Dev) (t : TensorEntry) : Bool :=
  [0, 4, 5, 6, 7].contains t.cls &&
  (t.prot = 1 || t.prot = 3 || (t.prot = 2 && d.prt.every && decide ((d.alloc t.alloc).size ≤ 67108864)))

/-- An allocation holds a mirrored tensor. -/
def Dev.allocMirrored (d : Dev) (a : Nat) : Bool :=
  (List.range d.tensorCount).any (fun i => (d.tensor i).alloc = a && d.mirrored (d.tensor i))

/-- What a write of bytes [o, o + n) of allocation `a` marks: fill items that read it (R72), dirty bits of mirrored blocks
(R466), and the items in it as written (R462): a ledger half is an item of its own. -/
def Dev.noteStore (d : Dev) (a o n : Nat) : Dev :=
  let d1 := d.discardFill (fun i => i.inputs.contains a)
  let d2 := if d.allocMirrored a then
      { d1 with prt := { d1.prt with
          dirty := (blocksOf o n).foldl (fun t b => tput t (2 ^ 28 * a + b) 7) d1.prt.dirty } }
    else d1
  let e := d.alloc a
  let low := e.purpose ≠ 1 || decide (o < e.size / 2)
  let high := e.purpose ≠ 1 || decide (e.size / 2 < o + n)
  let t := if low then sinsert d2.prt.touched (2 * a) else d2.prt.touched
  { d2 with prt := { d2.prt with touched := if high then sinsert t (2 * a + 1) else t } }

/-- Write bytes of an allocation that has passed its checks. -/
def State.poke (s : State) (a o : Nat) (b : List Byte) (poison : Bool := false) : State :=
  let e := s.dev.alloc a
  let s1 := (granPieces o b.length).foldl (fun t p =>
    t.storeBytes (t.dev.translate e p.1) ((b.drop (p.1 - o)).take p.2) poison) s
  { s1 with dev := s1.dev.noteStore a o b.length }

/-- Write bytes of an allocation with the checks of R376; `false` when refused. -/
def State.storeAlloc (s : State) (w : Who) (a o : Nat) (b : List Byte) (poison : Bool := false) : Bool × State :=
  match s.dev.accessKind w.cls a o b.length true with
  | some k => (false, { s with dev := s.dev.accessFault w.inst w.cls a k true w.unit o })
  | none => (true, s.poke a o b poison)

/-- Bytes [o, o + n) of a tile's SRAM lie in allocation `a` (R373). -/
def Dev.tileHits (d : Dev) (fwd : Bool) (t o n a : Nat) : Bool :=
  let e := d.alloc a
  let g := d.group (e.places % 64)
  e.valid && e.loc = (if fwd then 2 else 3) && (if fwd then g.fwdMembers else g.bwdMembers).contains t &&
    decide (e.base * 64 < o + n) && decide (o < e.base * 64 + d.share e)

/-- A tile array writes its own SRAM by raw offset (R380): fill items whose inputs lie there are discarded (R72). -/
def State.storeTile (s : State) (fwd : Bool) (t o : Nat) (b : List Byte) : State :=
  let a := if fwd then fwdAddr t o else bwdAddr t o
  let s1 := s.storeBytes a b
  { s1 with dev := s1.dev.discardFill (fun i => i.inputs.any (s.dev.tileHits fwd t o b.length)) }

/-! ### Bits of elements (R133, R134) -/

/-- Read `w` bits at a bit position of a byte list. -/
def bitsAt (b : List Byte) (pos w : Nat) : Nat := nfld (leNat ((b.drop (pos / 8)).take ((pos % 8 + w + 7) / 8))) (pos % 8) w

/-- Pack codes of container width `w` into bytes. -/
def packCodes (w : Nat) (cs : List Nat) : List Byte :=
  let n := cs.foldr (fun c acc => c % 2 ^ w + 2 ^ w * acc) 0
  leBytes (ceilDiv (w * cs.length) 8) n

/-- The codes of container width `w` in bytes. -/
def unpackCodes (w n : Nat) (b : List Byte) : List Nat :=
  (List.range n).map (fun i => bitsAt b (w * i) w)

end Sys2Proof.Machine
end

