-- ==== Sys2Proof/Machine/Layout.lean ====
section
/-! DEFINITION. Layout descriptors: index tuples, element indices, bit positions, scale blocks, the creation checks of
R386 to R393 and the reading and writing of single elements (08_memory_and_layout.md). -/

namespace Sys2Proof.Machine

/-- Container width in bits (Table 8.8). -/
def Layout.width (l : Layout) : Nat := if l.econt = 7 then 512 else 2 ^ l.econt

/-- Number of tuples. -/
def Layout.count (l : Layout) : Nat := l.ext.foldl (· * ·) 1

/-- The digits of a linear index, dimension 0 first (R382). -/
def digits : List Nat → Nat → List Nat
  | [], _ => []
  | n :: r, i => i % n :: digits r (i / n)

/-- The tuple of a linear index. -/
def Layout.tuple (l : Layout) (i : Nat) : List Nat := digits l.ext i

/-- Element index of a tuple (R382); creation has checked that it is not negative. -/
def Layout.elem (l : Layout) (t : List Nat) : Nat :=
  ((l.origin : Int) + (List.zipWith (fun (i : Nat) (s : Int) => (i : Int) * s) t l.stride).foldl (· + ·) 0).toNat

/-- Every index is within the valid extent (R382). -/
def Layout.isValid (l : Layout) (t : List Nat) : Bool :=
  (List.zipWith (fun (i v : Nat) => decide (i < v)) t l.valid).all id

/-- The descriptor has pad tuples. -/
def Layout.padded (l : Layout) : Bool := (List.zipWith (fun (v e : Nat) => decide (v < e)) l.valid l.ext).any id

/-- Bit position in the blocked layout (R383). -/
def Layout.blockedPos (l : Layout) (e : Nat) : Nat :=
  let w := l.width
  let r := e / max 1 l.rowlen
  let c := e % max 1 l.rowlen
  let eg := 512 / w
  let gc := 2 ^ l.gc
  let gr := max 1 (eg / gc)
  let bc := 2 ^ l.bc
  let br := max 1 (64 / bc)
  let pc := 2 ^ l.pc
  let pr := max 1 (64 / pc)
  let bw := gc * bc
  let bh := gr * br
  let pw := bw * pc
  let ph := bh * pr
  let panel := (r / ph) * (l.rowlen / pw) + c / pw
  let r1 := r % ph
  let c1 := c % pw
  let block := if l.pord then (c1 / bw) * pr + r1 / bh else (r1 / bh) * pc + c1 / bw
  let r2 := r1 % bh
  let c2 := c1 % bw
  let gran := if l.bord then (c2 / gc) * br + r2 / gr else (r2 / gr) * bc + c2 / gc
  let r3 := r2 % gr
  let c3 := c2 % gc
  let elem := if l.gord then c3 * gr + r3 else r3 * gc + c3
  ((panel * 64 + block) * 64 + gran) * 512 + elem * w

/-- Bit position of an element within the allocation (R383). -/
def Layout.bitPos (l : Layout) (e : Nat) : Nat :=
  if l.blocked then l.blockedPos e else if l.packed then e * l.pwidth else e * l.width

/-- Bits an element occupies. -/
def Layout.bits (l : Layout) : Nat := if l.packed then l.pwidth else l.width

/-- Extents with RDIM counted in scale blocks of 32 (R384). -/
def Layout.blockExt (l : Layout) : List Nat :=
  (List.range l.ext.length).map (fun d => if d = l.rdim then ceilDiv (l.ext.getD d 1) 32 else l.ext.getD d 1)

/-- Number of scale blocks, NB. -/
def Layout.blocks (l : Layout) : Nat := l.blockExt.foldl (· * ·) 1

/-- Linear index of a tuple under extents. -/
def linear : List Nat → List Nat → Nat
  | n :: ns, i :: is => i + n * linear ns is
  | _, _ => 0

/-- Scale block of a tuple (R384). -/
def Layout.blockOf (l : Layout) (t : List Nat) : Nat :=
  linear l.blockExt ((List.range t.length).map (fun d => if d = l.rdim then t.getD d 0 / 32 else t.getD d 0))

/-! ### Granules -/

/-- Remove repeats, keeping the first of each. -/
def dedup : List Nat → List Nat → List Nat
  | seen, [] => seen.reverse
  | seen, x :: r => if seen.contains x then dedup seen r else dedup (x :: seen) r

/-- Byte offset of the granule that holds an element. A packed source counts in its unpacked form (R289). -/
def Layout.granOf (l : Layout) (e : Nat) : Nat := (if l.packed then e * l.width else l.bitPos e) / 512

/-- Distinct granules of the elements of the tuples that satisfy `p`. -/
def Layout.granules (l : Layout) (p : Nat → Bool) : Nat :=
  (dedup [] (((List.range l.count).filter p).map (fun i => l.granOf (l.elem (l.tuple i))))).length

/-! ### Elements -/

/-- Read element `e` with the checks of R376: code and poison, or `none` when refused. -/
def State.elem (s : State) (w : Who) (l : Layout) (e : Nat) : Option (Nat × Bool) × State :=
  let p := l.bitPos e
  let r := s.loadAlloc w l.alloc (p / 8) ((p % 8 + l.bits + 7) / 8)
  (r.1.map (fun b => (nfld (leNat b.1) (p % 8) l.bits, b.2)), r.2)

/-- Write element `e`; `false` when refused. -/
def State.setElem (s : State) (w : Who) (l : Layout) (e code : Nat) (poison : Bool) : Bool × State :=
  let p := l.bitPos e
  let n := (p % 8 + l.bits + 7) / 8
  let old := if p % 8 = 0 ∧ l.bits % 8 = 0 then 0 else s.peek l.alloc (p / 8) n
  s.storeAlloc w l.alloc (p / 8) (leBytes n (putFld old (p % 8) l.bits code)) poison

/-- Companions of a block as they are read. -/
structure Comp where
  E : Nat := 127
  z : Nat := 0
  poison : Bool := false
  deriving DecidableEq, Repr

/-- Scale byte and zero-point byte of block `k`, poisoned where either byte is (R367, R384). -/
def State.companion (s : State) (w : Who) (l : Layout) (k : Nat) : Option Comp × State :=
  if l.comp = 0 then (some {}, s)
  else
    let a := s.loadAlloc w l.calloc (l.cbase + k) 1
    match a.1 with
    | none => (none, a.2)
    | some e =>
      if l.comp = 1 then (some { E := leNat e.1, poison := e.2 }, a.2)
      else
        let b := a.2.loadAlloc w l.calloc (l.cbase + l.blocks + k) 1
        (b.1.map (fun z => { E := leNat e.1, z := leNat z.1, poison := e.2 || z.2 }), b.2)

/-- Write the companions of block `k`, poisoned where they were formed from poisoned elements (R367). -/
def State.setCompanion (s : State) (w : Who) (l : Layout) (k e z : Nat) (poison : Bool := false) : Bool × State :=
  if l.comp = 0 then (true, s)
  else
    let a := s.storeAlloc w l.calloc (l.cbase + k) (leBytes 1 e) poison
    if l.comp = 1 ∨ !a.1 then a
    else a.2.storeAlloc w l.calloc (l.cbase + l.blocks + k) (leBytes 1 z) poison

/-- The place of an element: its stack, stash die or tile. -/
def Dev.elemPlace (d : Dev) (l : Layout) (e : Nat) : Nat := d.placeOf (d.alloc l.alloc) (l.bitPos e / 8)

/-! ### Creation (R386 to R393) -/

/-- Sum of the minimum contributions of the dimensions that satisfy `p` (R388, R390). -/
def Layout.minSum (l : Layout) (p : Nat → Bool) : Int :=
  ((List.range l.ext.length).filter p).foldl (fun acc d => acc + min 0 (l.stride.getD d 0 * ((l.ext.getD d 1 : Int) - 1))) 0

/-- Sum of the maximum contributions. -/
def Layout.maxSum (l : Layout) (p : Nat → Bool) : Int :=
  ((List.range l.ext.length).filter p).foldl (fun acc d => acc + max 0 (l.stride.getD d 0 * ((l.ext.getD d 1 : Int) - 1))) 0

/-- Container exponent of U format of width `a` (Table 3.1). -/
def uEcont (a : Nat) : Nat := (Fmt.u a).econt

/-- The field checks of R387. -/
def Dev.layoutFields (d : Dev) (l : Layout) (hostCopy : Bool) : Bool :=
  let eg := 512 / l.width
  let pw := 2 ^ l.gc * 2 ^ l.bc * 2 ^ l.pc
  !l.reserved && l.comp ≠ 3 && decide (1 ≤ l.ndim ∧ l.ndim ≤ 6 ∧ l.rdim < l.ndim) &&
  decide (2 ^ l.gc ≤ eg) && !(l.econt = 7 && l.gc ≠ 0) && decide (1 ≤ l.rowlen) &&
  !(l.blocked && l.rowlen % pw ≠ 0) &&
  (List.zipWith (fun (v e : Nat) => decide (v ≤ e)) l.valid l.ext).all id &&
  (d.alloc l.alloc).valid && l.bc ≠ 7 && l.pc ≠ 7 &&
  !(l.comp ≠ 0 && !(d.alloc l.calloc).valid) && !(l.comp = 0 && (l.calloc ≠ 0xFFF || l.cbase ≠ 0)) &&
  (if l.packed then !l.blocked && (d.alloc l.alloc).loc = 1 && decide (1 ≤ l.pwidth ∧ l.pwidth ≤ 8) && l.econt = uEcont l.pwidth
   else l.pwidth = 0) &&
  !((l.fold || l.padyield) && !l.write) && !(l.fold && l.padyield) && !(hostCopy && l.padded)

/-- The footprint check of R388. -/
def Dev.layoutFits (d : Dev) (l : Layout) : Bool :=
  let lo := (l.origin : Int) + l.minSum (fun _ => true)
  let hi := ((l.origin : Int) + l.maxSum (fun _ => true)).toNat
  let size := (d.alloc l.alloc).size
  let eg := 512 / l.width
  let gr := max 1 (eg / 2 ^ l.gc)
  let ph := gr * (64 / 2 ^ l.bc) * (64 / 2 ^ l.pc)
  let pw := 2 ^ l.gc * 2 ^ l.bc * 2 ^ l.pc
  decide (0 ≤ lo) &&
  (if l.blocked then decide ((hi / max 1 l.rowlen / max 1 ph + 1) * (l.rowlen / pw) * 262144 ≤ size)
   else decide (ceilDiv ((hi + 1) * l.bits) 8 ≤ size)) &&
  (if l.comp = 0 then true else decide (l.cbase + (if l.comp = 2 then 2 else 1) * l.blocks ≤ (d.alloc l.calloc).size))

/-- Insert a dimension by ascending |stride|, ties by dimension number (R389). -/
def strideInsert (l : List (Nat × Nat)) (x : Nat × Nat) : List (Nat × Nat) :=
  match l with
  | [] => [x]
  | y :: r => if y.1 ≤ x.1 then y :: strideInsert r x else x :: y :: r

/-- The separation test of R389 over (|stride|, extent) in ascending order. -/
def separated : Nat → List (Nat × Nat) → Bool
  | _, [] => true
  | acc, (s, n) :: r => decide (acc < s) && separated (acc + s * (n - 1)) r

/-- R389 holds of a plain write descriptor. -/
def Layout.separable (l : Layout) : Bool :=
  if l.write && !l.fold then
    let ds := ((List.range l.ext.length).filter (fun d => decide (1 < l.ext.getD d 1))).map
      (fun d => ((l.stride.getD d 0).natAbs, l.ext.getD d 1))
    separated 0 (ds.foldl strideInsert [])
  else true

/-- A row dimension has a stride that is a multiple of ROWLEN (R390). -/
def Layout.isRow (l : Layout) (d : Nat) : Bool := (l.stride.getD d 0) % (max 1 l.rowlen : Int) = 0

/-- Row-separable (R390). -/
def Layout.rowSeparable (l : Layout) : Bool :=
  let c0 := ((l.origin % max 1 l.rowlen : Nat) : Int)
  decide (0 ≤ c0 + l.minSum (fun d => !l.isRow d)) && decide (c0 + l.maxSum (fun d => !l.isRow d) < (l.rowlen : Int))

/-- Two boxes share a cell. -/
def Box.meets (a b : Box) : Bool := decide (a.r0 ≤ b.r1 ∧ b.r0 ≤ a.r1 ∧ a.c0 ≤ b.c1 ∧ b.c0 ≤ a.c1)

/-- Bounding box of the tuples with each index from `lo` to `hi` of a row-separable descriptor. -/
def Layout.boxOf (l : Layout) (lo hi : List Nat) : Box :=
  let rl : Int := max 1 l.rowlen
  let part := fun (row : Bool) (mx : Bool) =>
    ((List.range l.ext.length).filter (fun d => l.isRow d = row)).foldl (fun (acc : Int) d =>
      let a := l.stride.getD d 0 * (lo.getD d 0 : Int)
      let b := l.stride.getD d 0 * (hi.getD d 0 : Int)
      acc + (if mx then max a b else min a b)) 0
  let r := (l.origin : Int) / rl
  let c := (l.origin : Int) % rl
  { r0 := r + part true false / rl, r1 := r + part true true / rl, c0 := c + part false false, c1 := c + part false true }

/-- The valid box that a write descriptor registers (R391). -/
def Layout.validBox (l : Layout) : Box :=
  let zero := l.ext.map (fun _ => 0)
  if l.rowSeparable then l.boxOf zero (l.valid.map (· - 1))
  else
    let rl : Int := max 1 l.rowlen
    { r0 := ((l.origin : Int) + l.minSum (fun _ => true)) / rl, r1 := ((l.origin : Int) + l.maxSum (fun _ => true)) / rl
      c0 := 0, c1 := rl - 1 }

/-- The pad slabs (R391). -/
def Layout.padSlabs (l : Layout) : List Box :=
  ((List.range l.ext.length).filter (fun d => decide (l.valid.getD d 0 < l.ext.getD d 0))).map (fun d =>
    l.boxOf ((List.range l.ext.length).map (fun j => if j = d then l.valid.getD d 0 else 0)) (l.ext.map (· - 1)))

/-- The checks of one descriptor in the order of R387 to R391: its fault, if any. -/
def Dev.createLayout (d : Dev) (l : Layout) (hostCopy : Bool) : Option Nat :=
  if !d.layoutFields l hostCopy then some 0x6001
  else if !d.layoutFits l then some 0x6002
  else if !l.separable then some 0x6003
  else if l.padded && !l.rowSeparable then some 0x6004
  else none

/-- The registry of a command: operand index, allocation and box of each write descriptor (R391). -/
abbrev Registry := List (Nat × Nat × Box)

/-- R392 on the write descriptors of one command: the first one in fault, with its fault. -/
def registryCheck (ws : List (Nat × Layout)) : Option (Nat × Nat) :=
  match ws.drop 4096 with
  | (i, _) :: _ => some (i, 0x6005)
  | [] =>
    let reg : Registry := ws.map (fun w => (w.1, w.2.alloc, w.2.validBox))
    (ws.find? (fun w => !w.2.padyield && w.2.padSlabs.any (fun b =>
      reg.any (fun x => decide (x.1 ≠ w.1 ∧ x.2.1 = w.2.alloc) && b.meets x.2.2)))).map (fun w => (w.1, 0x6004))

/-- Latch the failing descriptor in LAY.CREATE (R386). -/
def Dev.latchCreate (d : Dev) (code index : Nat) : Dev :=
  if (d.reg .layCreate).testBit 31 then d
  else d.setReg .layCreate (2 ^ 31 + 2 ^ 16 * (code % 256) + index % 65536)

/-- The engine that would carry a copy pair (Table 8.10). -/
inductive CopyEngine where
  | dma
  | lay
  | mint
  deriving DecidableEq, Repr

/-- Table 8.10 and R396 on a pair; the mint's formats are checked at issue (R241). -/
def Dev.pairOk (d : Dev) (g : CopyEngine) (src dst : Layout) (fmt : Nat) : Bool :=
  let a := d.alloc src.alloc
  let b := d.alloc dst.alloc
  let places := match g with
    | .dma => !(decide (2 ≤ a.loc) && decide (2 ≤ b.loc))
    | .lay => a.loc = 0 && b.loc = 0
    | .mint => (a.loc = 0 && b.loc ≠ 0) || (a.loc ≠ 0 && b.loc = 0) || (a.loc = 1 && decide (2 ≤ b.loc))
  let shape := match g with
    | .dma => src.econt = 7 && dst.econt = 7 && !src.packed && !dst.packed && !dst.fold && fmt = 0
    | .lay => src.econt = dst.econt && src.econt ≠ 7 && !src.packed && !dst.packed &&
        (if dst.fold then fmt = 0x24 || fmt = 0x25 else fmt = 0)
    | .mint => !dst.fold && fmt = 0
  places && shape && src.ndim = dst.ndim && src.ext = dst.ext && dst.write && a.mayRead 0 && b.mayWrite 0

/-- Some element of the layout lies on the stash die that is paired with stack `k`. -/
def Layout.onPair (l : Layout) (d : Dev) (k : Nat) : Bool := (List.range l.count).any (fun i => decide (3 * d.elemPlace l (l.elem (l.tuple i)) = k))

/-- The direction of a mint operation on stack `k`: MINT_LOAD from the stack, MINT_STORE into it (Table 5.3), and stash to tile SRAM by
MINT_LOAD (R289) on the mint unit of a stack that is paired with a stash die of the source's elements (Table 8.10). -/
def Dev.mintPlaces (d : Dev) (k op : Nat) (src dst : Layout) : Bool :=
  let a := d.alloc src.alloc
  let b := d.alloc dst.alloc
  if op = 2 then (a.loc = 0 && b.loc ≠ 0) || (a.loc = 1 && decide (2 ≤ b.loc) && src.onPair d k)
  else a.loc ≠ 0 && b.loc = 0

end Sys2Proof.Machine
end

