-- ==== Sys2Proof/Machine/Track.lean ====
section
/-! DEFINITION. Trackers, the scale rule, tallies and step flags (05_mint_and_scale.md): what every mint point uses. -/

namespace Sys2Proof.Machine

/-! ### The scale rule (R230) -/

/-- m × 2^k. -/
def Val.scale (v : Val) (k : Int) : Val := match v with
  | .fin m e => .fin m (e + k)
  | x => x

/-- ceil of a non-negative value. -/
def Val.ceil (v : Val) : Nat := match v with
  | .fin m e => if 0 ≤ e then m.toNat * 2 ^ e.toNat else ceilDiv m.toNat (2 ^ (-e).toNat)
  | _ => 0

/-- The smallest E from 0 to 254 with x ≤ L × 2^(E − 127), or 254. -/
def leastE (f : Fmt) (x : Val) : Nat :=
  ((List.range 255).find? (fun (E : Nat) => Val.le x (.fin f.largest ((E : Int) - 127)))).getD 254

/-- The z formula of R230. -/
def zeroPoint (f : Fmt) (mlo : Nat) (h E : Nat) : Nat :=
  match f with
  | .u a => min (2 ^ a - 1) (((f32Val mlo).scale ((h : Int) + 127 - E)).ceil)
  | _ => 0

/-- R230: scale byte and zero point from m_hi and m_lo (F32 codes), headroom and the previous E. -/
def scaleRule (f : Fmt) (mhi mlo h prev : Nat) : Nat × Nat :=
  if mhi = 0 ∧ mlo = 0 then (prev, 0)
  else
    let u := f.isU && decide (0 < mlo)
    let x := if u then (f32Val mhi).add (f32Val mlo) else f32Val mhi
    let E := leastE f (x.scale h)
    (E, if u then zeroPoint f mlo h E else 0)

/-- What a value adds to b_hi (R231), as an F32 code: the value itself for U formats, else its magnitude. Blocks without
values have b_hi 0 and the statistics combine by maximum, so a negative value adds nothing (DEDUCED, log entry 20). -/
def statHi (f : Fmt) (v : Val) : Nat :=
  match v with
  | .fin m e => if f.isU then (if m ≤ 0 then 0 else toF32 (.fin m e)) else toF32 (.fin m.natAbs e)
  | _ => 0

/-- What a value adds to b_lo (R231). -/
def statLo (v : Val) : Nat := match v with
  | .fin m e => if m < 0 then toF32 (.fin m.natAbs e) else 0
  | _ => 0

/-! ### The tracker table (R253) -/

/-- Header of the tracker table (Table 5.10). -/
structure TrkHdr where
  magic : Nat
  version : Nat
  cold : Bool
  bank : Nat
  step : Nat
  tensors : Nat
  layers : Nat
  dirOff : Nat
  bankOff : Nat
  bankSize : Nat
  tallyOff : Nat
  entries : Nat
  deriving DecidableEq, Repr

/-- A directory entry (Table 5.11). -/
structure TrkDir where
  tensor : Nat
  cls : Nat
  fmt : Nat
  groups : Nat
  rows : Nat
  first : Nat
  deriving DecidableEq, Repr

/-- Read `n` bytes of the table. -/
def State.trk (s : State) (o n : Nat) : Nat := s.peekIn s.dev.mnt.table o n

/-- What a read of `n` bytes of the table by a unit does to the state: the checks of R376 under its class and those of the
codewords (R364, R616). The value itself is `State.trk`. -/
def State.trkTouch (s : State) (w : Who) (o n : Nat) : State := (s.loadAlloc w s.dev.mnt.table o n).2

/-- A unit writes bytes of the table under its class (R616). -/
def State.trkPut (s : State) (w : Who) (o : Nat) (b : List Byte) : State := (s.storeAlloc w s.dev.mnt.table o b).2

def State.trkHdr (s : State) : TrkHdr :=
  { magic := s.trk 0 4, version := s.trk 4 2, cold := (s.trk 6 1).testBit 0, bank := b2n ((s.trk 6 1).testBit 1)
    step := s.trk 8 8, tensors := s.trk 16 4, layers := s.trk 20 4, dirOff := s.trk 24 8, bankOff := s.trk 32 8
    bankSize := s.trk 40 8, tallyOff := s.trk 48 8, entries := s.trk 56 8 }

def State.trkDirAt (s : State) (j : Nat) : TrkDir :=
  let o := s.trkHdr.dirOff + 16 * j
  { tensor := s.trk o 2, cls := s.trk (o + 2) 1, fmt := s.trk (o + 3) 1, groups := s.trk (o + 4) 4
    rows := s.trk (o + 8) 4, first := s.trk (o + 12) 4 }

/-- The table is a tracker table whose directory lists the tracked tensors of the charter (R256), so that every tracker has its entry. -/
def State.trkListed (s : State) : Bool :=
  let h := s.trkHdr
  let ts := s.dev.trackedTensors
  (s.dev.alloc s.dev.mnt.table).valid && h.magic = 0x4B54524B && h.version = 1 && h.tensors = ts.length &&
  (List.range ts.length).all (fun j =>
    let e := s.trkDirAt j
    let t := s.dev.tensor (ts.getD j 0)
    e.tensor = ts.getD j 0 && e.cls = t.cls && e.fmt = t.fmt)

/-- Everything of R256 but COLD holds. -/
def State.trkUsable (s : State) : Bool := s.trkListed && s.trkHdr.layers = s.dev.layerCount

/-- Layer records that a bank of the table has for the charter's layers. -/
def State.trkLayers (s : State) : Nat := min s.trkHdr.layers s.dev.layerCount

/-- The trackers are cold (R256). -/
def State.trkCold (s : State) : Bool := !s.trkUsable || s.trkHdr.cold

/-- Directory entry of a tensor, when the table lists the charter's. -/
def State.trkDir (s : State) (t : Nat) : Option TrkDir :=
  if s.trkListed then
    match s.dev.trackedTensors.findIdx? (· = t) with
    | some j => some (s.trkDirAt j)
    | none => none
  else none

/-- Trackers of a tensor. -/
def TrkDir.size (e : TrkDir) : Nat := e.rows * e.groups

/-- Offset of entry `i` of a bank. -/
def State.trkEntryOff (s : State) (bank i : Nat) : Nat :=
  let h := s.trkHdr
  h.bankOff + bank * h.bankSize + 32 * i

/-- Offset of a layer record of a bank. -/
def State.trkLayerOff (s : State) (bank i : Nat) : Nat :=
  let h := s.trkHdr
  h.bankOff + bank * h.bankSize + 32 * h.entries + 32 * i

/-- A tracker entry (Table 5.12). -/
structure TrkEntry where
  mhi : Nat := 0
  mlo : Nat := 0
  bhi : Nat := 0
  blo : Nat := 0
  E : Nat := 127
  z : Nat := 0
  ovf : Bool := false
  rerun : Bool := false
  stamp : Nat := 0
  sat : Nat := 0
  zero : Nat := 0
  deriving DecidableEq, Repr

def State.trkEntry (s : State) (bank i : Nat) : TrkEntry :=
  let o := s.trkEntryOff bank i
  { mhi := s.trk o 4, mlo := s.trk (o + 4) 4, bhi := s.trk (o + 8) 4, blo := s.trk (o + 12) 4, E := s.trk (o + 16) 1
    z := s.trk (o + 17) 1, ovf := (s.trk (o + 18) 1).testBit 0, rerun := (s.trk (o + 18) 1).testBit 1
    stamp := s.trk (o + 19) 1, sat := s.trk (o + 20) 2, zero := s.trk (o + 22) 2 }

def TrkEntry.bytes (e : TrkEntry) : List Byte :=
  leBytes 4 e.mhi ++ leBytes 4 e.mlo ++ leBytes 4 e.bhi ++ leBytes 4 e.blo ++ leBytes 1 e.E ++ leBytes 1 e.z ++
  leBytes 1 (b2n e.ovf + 2 * b2n e.rerun) ++ leBytes 1 e.stamp ++ leBytes 2 e.sat ++ leBytes 2 e.zero ++ leBytes 8 0

/-- Current E and z of tracker `i` of a tensor; 127 and 0 while the trackers are cold (R230). -/
def State.trkScale (s : State) (t i : Nat) : Nat × Nat :=
  if s.dev.mnt.warmup then (127, 0)
  else match s.trkDir t with
    | none => (127, 0)
    | some e => let x := s.trkEntry s.dev.mnt.bank (e.first + i); (x.E, x.z)

/-- The scale and zero point that a mint writes from tracker `i`: never above 254 (R137). -/
def State.trkMint (s : State) (f : Fmt) (t i : Nat) : Nat × Nat :=
  let x := s.trkScale t i
  (min 254 x.1, f.zeroBits x.2)

/-- Scales and zero points of every tracker of a tensor in the current bank; none while cold. -/
def State.trkScales (s : State) (t : Nat) : List (Nat × Nat) :=
  if s.dev.mnt.warmup then []
  else match s.trkDir t with
    | none => []
    | some e => (List.range e.size).map (fun i => let x := s.trkEntry s.dev.mnt.bank (e.first + i); (x.E, x.z))

/-- A unit reads tracker `i` of a tensor in the current bank (R616). -/
def State.trkRead (s : State) (w : Who) (t i : Nat) : State := match s.trkDir t with
  | some e => s.trkTouch w (s.trkEntryOff s.dev.mnt.bank (e.first + i)) 32
  | none => s

/-- The control die reads the header and, where the table lists the charter's tensors, the directory and the current bank (R253, R616). -/
def State.trkAudit (s : State) : State :=
  let s1 := if (s.dev.alloc s.dev.mnt.table).valid then s.trkTouch .control 0 64 else s
  if s1.trkListed then
    let h := s1.trkHdr
    (s1.trkTouch .control h.dirOff (16 * h.tensors)).trkTouch .control (h.bankOff + h.bank * h.bankSize) (32 * (h.entries + h.layers))
  else s1

/-- A tracker index lies beyond the tensor's directory entry (R241). -/
def State.trkBeyond (s : State) (t i : Nat) : Bool := match s.trkDir t with
  | none => false
  | some e => decide (e.size ≤ i)

/-! ### Tallies and flags (R234 to R238) -/

/-- The events of conversions, summed: saturated, zeroed, non-finite. -/
structure Tally where
  sat : Nat := 0
  zero : Nat := 0
  nonfin : Nat := 0
  deriving DecidableEq, Repr

/-- Add one conversion. -/
def Tally.add (t : Tally) (e : Enc) : Tally :=
  { sat := t.sat + b2n e.sat, zero := t.zero + b2n e.zeroed, nonfin := t.nonfin + b2n e.nonfin }

/-- Raise a code at most once per step, at the first block flagged (R261). -/
def Dev.flagBlock (d : Dev) (cls unit t : Nat) : Dev :=
  if cls = 2 then
    let d1 := { d with mnt := { d.mnt with flags := { d.mnt.flags with gsat := true }, raised4011 := true } }
    if d.mnt.raised4011 then d1 else d1.raise 0x4011 unit t 0
  else
    let d1 := { d with mnt := { d.mnt with flags := { d.mnt.flags with ovf := true }, raised4010 := true } }
    if d.mnt.raised4010 then d1 else d1.raise 0x4010 unit t 0

/-- Set the step flag NONFIN when there is cause. -/
def Dev.flagNonfin (d : Dev) (n : Nat) : Dev :=
  if n = 0 then d else { d with mnt := { d.mnt with flags := { d.mnt.flags with nonfin := true } } }

/-- Count conversions into a tensor's summary (R235); 0xFFF names none. -/
def Dev.tallyTensor (d : Dev) (t : Nat) (n : Tally) (void rerun : Nat) : Dev :=
  if t = 0xFFF then d
  else { d with mnt := { d.mnt with tensors := tmod d.mnt.tensors t {} (fun x =>
      { x with sat := satAdd 32 x.sat n.sat, zero := satAdd 32 x.zero n.zero, nonfin := satAdd 32 x.nonfin n.nonfin
               void := satAdd 32 x.void void, rerun := satAdd 32 x.rerun rerun }) } }

/-- Key of a tracked block's statistics. -/
def blockKey (t i : Nat) : Nat := 2 ^ 32 * t + i

/-- Merge statistics into a tracked block (R234, R249). -/
def Dev.mergeBlock (d : Dev) (t i : Nat) (b : BlockStats) : Dev :=
  { d with mnt := { d.mnt with blocks := tmod d.mnt.blocks (blockKey t i) {} (fun x =>
      { hi := max x.hi b.hi, lo := max x.lo b.lo, sat := satAdd 16 x.sat b.sat, zero := satAdd 16 x.zero b.zero
        ovf := x.ovf || b.ovf, rerun := x.rerun || b.rerun }) } }

/-- Merge statistics into a tracked block by a stack mint unit: into the block's statistics of the step, and, where the table
lists the tensor, into the statistics of its entry in the bank that the step is to make, with the step's STAMP (R234, R249,
R251, R616; DEDUCED, log entry 152). -/
def State.mergeTracked (s : State) (w : Who) (t i : Nat) (b : BlockStats) : State :=
  let s1 := { s with dev := s.dev.mergeBlock t i b }
  match s1.trkDir t with
  | none => s1
  | some e =>
    let x := tgetD s1.dev.mnt.blocks (blockKey t i) {}
    let o := s1.trkEntryOff (1 - s1.dev.mnt.bank) (e.first + i)
    let s2 := s1.trkPut w (o + 8) (leBytes 4 x.hi ++ leBytes 4 x.lo)
    s2.trkPut w (o + 18) (leBytes 1 (b2n x.ovf + 2 * b2n x.rerun) ++ leBytes 1 (s.dev.ldg.step % 256) ++ leBytes 2 x.sat ++ leBytes 2 x.zero)

/-- Conversions that a stack mint unit stores into tracked block `i` of tensor `t`: block, summary and flags (Table 5.4). -/
def State.countBlock (s : State) (w : Who) (t i cls : Nat) (n : Tally) (hi lo : Nat) : State :=
  let s1 := ({ s with dev := s.dev.tallyTensor t n 0 0 } : State).mergeTracked w t i
    { hi := hi, lo := lo, sat := min n.sat 65535, zero := min n.zero 65535, ovf := decide (0 < n.sat) }
  let d2 := if n.sat = 0 then s1.dev else s1.dev.flagBlock cls w.unit t
  { s1 with dev := d2.flagNonfin n.nonfin }

/-- Conversions stored into a tensor without trackers, and non-finite inputs. Where no tensor is named (0xFFF), none counts them, and the
step flag NONFIN is set all the same (R192, Table 5.4; DESIGN CHOICE, log entry 187). -/
def Dev.countPlain (d : Dev) (t : Nat) (n : Tally) : Dev := (d.tallyTensor t n 0 0).flagNonfin n.nonfin

/-- Merge a histogram into a tensor's (R174). -/
def Dev.addHist (d : Dev) (t : Nat) (h : Hist) : Dev :=
  if t = 0xFFF ∨ h.elements = 0 then d
  else { d with mnt := { d.mnt with tensors := tmod d.mnt.tensors t {} (fun x => { x with hist := x.hist.merge h }) } }

/-- Count conversions of a stack's mint unit (R263). -/
def Dev.countMint (d : Dev) (k : Nat) (n : Tally) (void rerun : Nat) : Dev :=
  { d with mnt := { d.mnt with counts := tmod d.mnt.counts k {} (fun (x : MintCount) =>
      { sat := satAdd 32 x.sat n.sat, zero := satAdd 32 x.zero n.zero, nonfin := satAdd 32 x.nonfin n.nonfin
        void := satAdd 32 x.void void, rerun := satAdd 32 x.rerun rerun }) } }

/-- Change a layer's statistics of the step. -/
def Dev.modLayer (d : Dev) (i : Nat) (f : LayerStats → LayerStats) : Dev :=
  { d with mnt := { d.mnt with layers := tmod d.mnt.layers i {} f } }

/-! ### Statistics records (Table 5.9) -/

/-- The 16 bytes of a record. -/
def statRecord (hi lo : Nat) (n : Tally) (rerun : Nat) (ovf replay : Bool) : List Byte :=
  leBytes 4 hi ++ leBytes 4 lo ++ leBytes 2 (min n.sat 65535) ++ leBytes 2 (min n.zero 65535) ++
  leBytes 2 (min n.nonfin 65535) ++ leBytes 1 (min rerun 255) ++ leBytes 1 (b2n ovf + 2 * b2n replay + 128)

/-- Block-exact scale of a scale block (R258): R230 from the block's own largest values. -/
def exactScale (f : Fmt) (h : Nat) (vs : List Val) : Nat × Nat :=
  scaleRule f (maxNat (vs.map (statHi f))) (if f.isU then maxNat (vs.map statLo) else 0) h 127

/-- Headroom of a tensor; the default 1 where none is named (R104). -/
def Dev.headroom (d : Dev) (t : Nat) : Nat := if t = 0xFFF then 1 else (d.tensor t).head

end Sys2Proof.Machine
end

