-- ==== Sys2Proof/Machine/Program.lean ====
section
/-! DEFINITION. The bundle store as a running program reads it: bundles and operand-table entries. An operand-table index
counts units of 16 bytes from the operand table's base (DEDUCED, log entry 21). -/

namespace Sys2Proof.Machine

/-- Bundle at a store index. -/
def State.bundle (s : State) (i : Nat) : Bundle := BitVec.ofNat 512 (s.num (storeAddr (64 * i)) 64)

/-- `n` bytes of the operand table whose base is bundle index `t`, from index `i`. -/
def State.operandAt (s : State) (t i n : Nat) : Nat := s.num (storeAddr (64 * t + 16 * i)) n

/-- Base of the operand table of the active run. -/
def Dev.optab (d : Dev) : Nat := match d.seq.run with
  | some r => r.optab
  | none => 0

/-- A descriptor of the active run. -/
def State.opnd (s : State) (i n : Nat) : Nat := s.operandAt s.dev.optab i n

/-- The layout descriptor at an index. -/
def State.layoutAt (s : State) (i : Nat) : Layout := layoutDesc (BitVec.ofNat 1024 (s.opnd i 128))

end Sys2Proof.Machine
end

