-- ==== Sys2Proof/Machine/Forward.lean ====
section
/-! DEFINITION. The forward arrays (04_forward_arrays.md): window checks, plane arithmetic, outliers and plane extension,
the column finisher with its rerun, and what a window leaves on each tile. -/

namespace Sys2Proof.Machine

/-! ### Windows and their checks -/

/-- A window as the checks and the arithmetic use it. -/
structure Window where
  d : WinDesc
  layer : LayerEntry
  fin : FinDesc
  /-- The output tensor is set to rerun (R244). -/
  rerun : Bool
  /-- Vectors, worst-case work (R185) and forward retry reserve (Table 1.5). -/
  v : Nat
  work : Nat
  reserve : Nat
  deriving DecidableEq, Repr

/-- ACT 0x9: XNOR–popcount. -/
def Window.binary (w : Window) : Bool := w.d.act = 9

/-- Scale blocks of a vector (R178). -/
def Window.nb (w : Window) : Nat := if w.binary then 8 else 2

/-- Elements of a vector. -/
def Window.elems (w : Window) : Nat := if w.binary then 256 else 64

/-- Container width of the activation codes. -/
def Window.cw (w : Window) : Nat := if w.binary then 1 else (Fmt.u w.d.act).container

/-- Bytes of one run's weight tiles. -/
def Window.tileBytes (w : Window) : Nat :=
  if w.binary then 2048 else if w.d.wclass = 0 then 512 else if w.d.wclass = 1 then 2048 else 4096

/-- Nibble passes. -/
def Window.passes (w : Window) : Nat := if w.d.wclass = 2 then 2 else 1

/-- The window that a descriptor describes. -/
def State.window (s : State) (arg : Nat) : Window :=
  let d := winDesc (BitVec.ofNat 256 (s.opnd arg 32))
  let l := s.dev.layer d.layer
  let v := 64 * d.runs
  let w := v * l.pmax * (if d.wclass = 2 then 2 else 1)
  { d := d, layer := l, fin := finDesc (BitVec.ofNat 128 (s.opnd d.fin 16))
    rerun := l.otensor ≠ 0xFFF && (s.dev.tensor l.otensor).rerun
    v := v, work := w, reserve := ceilDiv w (2 ^ s.dev.fwdLog2) }

/-- The checks of R183 under a format tag. -/
def Dev.windowOk (dv : Dev) (w : Window) (g tag : Nat) : Bool :=
  let d := w.d
  decide (d.layer < dv.layerCount) && d.act = tag % 16 && d.wclass = tag / 16 % 4 &&
  decide (1 ≤ d.act ∧ d.act ≤ 9) && d.wclass ≠ 3 &&
  !(d.act = 9 && d.wclass ≠ 0) && !(d.act = 9 && w.layer.pmax ≠ 1) && !(d.act ≠ 9 && decide (d.act < w.layer.pmax)) &&
  w.layer.group = g &&
  [d.inOff, d.inscOff, d.wgtOff, d.wscOff, d.logOff].all (fun o => o % 64 = 0) &&
  !(d.btail ≠ 0 && (d.act ≠ 9 || !d.last)) && decide (d.btail ≤ 256) && !d.reserved

/-- Format of a finisher's output (Table 4.6). F8a and F8b take the block's scale (R217; DEDUCED, log entry 22). -/
def finFmt (c : Nat) : Option Fmt :=
  if 1 ≤ c ∧ c ≤ 8 then some (.u c) else if c = 9 then some .f8as else if c = 10 then some .f8bs
  else if c = 11 then some .bf16 else if c = 12 then some .f32 else none

/-- The checks of R218; TAB_E and TAB_OFF count with FUNC 2 only. -/
def FinDesc.ok (f : FinDesc) : Bool :=
  f.func ≠ 3 && (finFmt f.ofmt).isSome && [f.scbOff, f.outOff, f.oscOff].all (fun o => o % 64 = 0) &&
  !(f.func = 2 && (f.tabOff % 64 ≠ 0 || !(decide (-64 ≤ f.tabE) && decide (f.tabE ≤ 63)))) && !f.reserved

/-- First byte past everything a window reads or writes (R380). -/
def Window.extent (w : Window) : Nat :=
  let d := w.d
  let own := [d.inOff + w.v * w.elems * w.cw / 8, d.inscOff + w.v * w.nb * (if w.binary then 1 else 2),
    d.wgtOff + d.runs * w.tileBytes, d.wscOff + d.runs * 64 * w.nb * 3, d.logOff + 16]
  let f := w.fin
  let cw := ((finFmt f.ofmt).getD (.u 8)).container
  let fin := if d.last then
      [f.scbOff + 512, if f.func = 2 then f.tabOff + 2048 else 0, f.outOff + 512 * cw + 256, f.oscOff + 36]
    else []
  maxNat (own ++ fin)

/-- Bytes of a window's output on a tile (R220, R252): the codes, the companion and the two statistics records, all of which
a shadow slot stages. -/
def Window.outBytes (w : Window) : Nat :=
  if w.d.last then 512 * ((finFmt w.fin.ofmt).getD (.u 8)).container + 256 + 32 else 0

/-- Bytes of the first weight tile, as the spare latches take it: 4 bits a lane; the high-nibble tile of a WCLASS 2 window
(R180, R188). -/
def Window.latchBytes (w : Window) : Nat := min 2048 w.tileBytes

/-- A tile of the forward arrays. -/
def Dev.fwdTile (d : Dev) (t : Nat) : FwdTile := tgetD d.fwd.tiles t {}

/-- Change a tile. -/
def Dev.modFwdTile (d : Dev) (t : Nat) (f : FwdTile → FwdTile) : Dev :=
  { d with fwd := { d.fwd with tiles := tmod d.fwd.tiles t {} f } }

/-- Members of a forward group. -/
def Dev.fwdMembers (d : Dev) (g : Nat) : List Nat := (d.group g).fwdMembers

/-- A tile group's state. -/
def Dev.fwdGroup (d : Dev) (g : Nat) : GroupState := tgetD d.fwd.groups g {}

/-- Change a group's state. -/
def Dev.modGroup (d : Dev) (g : Nat) (f : GroupState → GroupState) : Dev :=
  { d with fwd := { d.fwd with groups := tmod d.fwd.groups g {} f } }

/-- The decision word of a tile (R211): DECLINE_AT, outlier count, VALID. -/
def decisionWord (w : Nat) : Nat × Nat × Bool := (nfld w 0 17, nfld w 17 9, w.testBit 32)

/-- The rerun word of a tile (R246): ROWS, DECLINED, VALID. -/
def rerunWord (w : Nat) : Nat × Bool × Bool := (nfld w 0 7, w.testBit 7, w.testBit 32)

/-- The checks that a window of the program and a fill item's window share, made on the tiles `ms` that run it: the decision
words (R212) and rerun words (R246) of a REPLAY window, the finisher descriptor of a LAST one (R218), and the areas (R380). -/
def State.windowFault (s : State) (w : Window) (ms : List Nat) : Option Nat :=
  if w.d.replay && ms.any (fun t =>
      let x := decisionWord (s.num (fwdAddr t w.d.logOff) 8)
      !x.2.2 || decide (w.v < x.1)) then some 0x2004
  else if w.d.replay && ms.any (fun t =>
      let x := rerunWord (s.num (fwdAddr t (w.d.logOff + 8)) 8)
      !x.2.2 || decide (64 < x.1)) then some 0x4032
  else if w.d.last && !w.fin.ok then some 0x2012
  else if 0x100000 < w.extent then some 0x6013
  else none

/-- The fault with which a FWD_WINDOW does not issue: R183, R59, R184, R212, R246, R218 and R380, in that order (DEDUCED,
log entry 23). -/
def State.fwdWindowFault (s : State) (g arg span : Nat) : Option Nat :=
  let w := s.window arg
  let ms := s.dev.fwdMembers g
  if !s.dev.windowOk w g (s.dev.fwdGroup g).tag then some 0x2001
  else if span < w.work + w.reserve + 16 then some 0x1005
  else if ms.any (fun t => (s.dev.fwdTile t).spare.map Prod.fst ≠ some arg) then some 0x2002
  else s.windowFault w ms

/-! ### Operands of a window on one tile -/

/-- What a tile reads for a window. -/
structure TileIn where
  codes : List Nat
  scales : List Nat
  zeros : List Nat
  wgt : List Byte
  wsc : List Byte
  scb : List Byte
  tab : List Byte
  osc : List Byte
  decision : Nat
  rerun : Nat

/-- The codes of width `w` of a byte list (R133). -/
def splitCodes (w : Nat) (b : List Byte) : List Nat :=
  if w = 8 then b.map BitVec.toNat
  else b.flatMap (fun x => (List.range (8 / w)).map (fun j => nfld x.toNat (w * j) w))

/-- The codes of a vector as the feeder takes them: the container bits above the format's width are not read (R134), and the
elements of a block whose scale byte is 0xFF are fed as 0, so that none of them is an outlier, extended or clipped (R138,
R192; DEDUCED, log entry 145). -/
def Window.feedCodes (w : Window) (scales : List Nat) (codes : List Nat) : List Nat :=
  if w.binary then codes
  else (List.zipWith (fun (e : Nat) (c : List Nat) => c.map (fun q => if e = 0xFF then 0 else q % 2 ^ w.d.act)) scales
    (chunks 32 codes)).flatten

/-- Read a tile's operands, with the checks of stored codewords. All of them are read when the window issues, but the first
weight tile, or what of it the latches hold, which is `latch` (R180; DEDUCED, log entry 146). The codes at IN_OFF are taken as
whole vectors one after the other (DESIGN CHOICE, log entry 144). -/
def State.tileIn (s : State) (w : Window) (g t : Nat) (latch : List Byte) : TileIn × State :=
  let unit := t / 128
  let rd := fun (s : State) (o n : Nat) => s.load unit g (fwdAddr t o) n
  let d := w.d
  let a := rd s d.inOff (w.v * w.elems * w.cw / 8)
  let b := rd a.2 d.inscOff (w.v * w.nb)
  let c := rd b.2 (d.inscOff + w.v * w.nb) (if w.binary then 0 else w.v * w.nb)
  let e := rd c.2 (d.wgtOff + latch.length) (d.runs * w.tileBytes - latch.length)
  let f := rd e.2 d.wscOff (d.runs * 64 * w.nb * 3)
  let h := rd f.2 w.fin.scbOff (if d.last then 512 else 0)
  let i := rd h.2 w.fin.tabOff (if d.last && w.fin.func = 2 then 2048 else 0)
  let j := rd i.2 w.fin.oscOff (if d.last then 4 else 0)
  let k := rd j.2 d.logOff (if d.replay then 16 else 0)
  let scales := b.1.1.map BitVec.toNat
  ({ codes := w.feedCodes scales (splitCodes w.cw a.1.1), scales := scales, zeros := c.1.1.map BitVec.toNat
     wgt := latch ++ e.1.1, wsc := f.1.1, scb := h.1.1, tab := i.1.1, osc := j.1.1
     decision := leNat (k.1.1.take 8), rerun := leNat (k.1.1.drop 8) }, k.2)

/-- One run's weights, row by row, 64 columns each (Table 4.3). In binary mode the codes 0 and 1 stand for −1 and +1, four
rows of elements to each row of lanes. Table 4.3 orders the tiles and not the codes inside one: the model takes them reduction
element by reduction element (DESIGN CHOICE, log entry 143). -/
def Window.weights (w : Window) (run : Nat) (b : List Byte) : List (List Int) :=
  let tile := (b.drop (run * w.tileBytes)).take w.tileBytes
  if w.binary || w.d.wclass = 0 then (chunks 64 (splitCodes 1 tile)).map (List.map (fun c => if c = 1 then 1 else -1))
  else if w.d.wclass = 1 then (chunks 64 (splitCodes 4 tile)).map (List.map (weightInt 4))
  else
    let h := splitCodes 4 (tile.take 2048)
    let l := splitCodes 4 (tile.drop 2048)
    chunks 64 (List.zipWith (fun (a b : Nat) => 16 * toSigned 4 a + (b : Int)) h l)

/-- Scale byte of column `c`, block `b` of a run. -/
def Window.wscale (w : Window) (b : List Byte) (run c k : Nat) : Nat :=
  (b.getD ((run * 64 * w.nb) * 3 + (c * w.nb + k) * 3) 0).toNat

/-- Weight sum S_cb (R191). -/
def Window.wsum (w : Window) (b : List Byte) (run c k : Nat) : Int :=
  let o := (run * 64 * w.nb) * 3 + (c * w.nb + k) * 3
  toSigned 16 (leNat [b.getD (o + 1) 0, b.getD (o + 2) 0])

/-! ### Outliers and plane extension (R206 to R213) -/

/-- What the feeder makes of a vector: the codes that its base planes add up to, outlier residuals included; the codes that
its planes feed; the extended elements' codes, 0 elsewhere, with the number of extension planes; and its counts. -/
structure Fed where
  base : List Nat
  planes : List Nat
  ext : List Nat
  extPlanes : Nat := 0
  outliers : Nat
  clipped : Nat := 0
  cost : Nat := 0
  declined : Bool := false
  deriving DecidableEq, Repr

/-- Give each element its case of Table 4.5: 0 within the width, 1 outlier, 2 extension or clipped. -/
def cases45 (top budget : Nat) : Nat → List Nat → List Nat
  | _, [] => []
  | n, q :: r =>
    if q ≤ top then 0 :: cases45 top budget n r
    else if n < budget then 1 :: cases45 top budget (n + 1) r
    else 2 :: cases45 top budget n r

/-- Feed one vector. `n` is the outlier count before it; `accept` judges an extension of a cost. -/
def feed (p budget passes n : Nat) (mayExtend : Bool) (accept : Nat → Bool) (q : List Nat) : Fed :=
  let top := 2 ^ p - 1
  let cs := cases45 top budget n q
  let n' := n + (cs.filter (· = 1)).length
  let cand := (List.zip q cs).filter (fun x => x.2 = 2)
  let e := maxNat (cand.map (fun x => bitLen x.1 - p))
  let cost := e * passes
  if cand.isEmpty then
    { base := q, planes := q.map (min top), ext := q.map (fun _ => 0), outliers := n' }
  else if mayExtend && accept cost then
    { base := (List.zip q cs).map (fun x => if x.2 = 2 then x.1 % 2 ^ p else x.1)
      planes := (List.zip q cs).map (fun x => if x.2 = 2 then x.1 % 2 ^ p else min top x.1)
      ext := (List.zip q cs).map (fun x => if x.2 = 2 then x.1 else 0)
      extPlanes := e, outliers := n', cost := cost }
  else
    { base := (List.zip q cs).map (fun x => if x.2 = 2 then top else x.1)
      planes := q.map (min top), ext := q.map (fun _ => 0), outliers := n', clipped := cand.length
      declined := mayExtend }

/-! ### The accumulator file (R193 to R196) -/

/-- An accumulator row: 64 columns of sum and saturated mark. -/
abbrev AccRow := List (Int × Bool)

/-- Add a block term Y at scale exponent `e` into an entry at anchor `G`, with the count of saturated additions. An entry
marked saturated stays at its saturated value, and an addition that would take it further out is counted as any other
(DEDUCED, log entry 24). -/
def addTerm (a : Int × Bool) (y e g : Int) : (Int × Bool) × Nat :=
  let x := sat64 (a.1 + rneShift y (e - g + 62))
  (if a.2 then a else x, b2n x.2)

/-- Add a row of block terms. -/
def addRow (r : AccRow) (ts : List (Option (Int × Int))) (g : Int) : AccRow × Nat :=
  let xs := List.zipWith (fun a t => match t with
    | none => (a, 0)
    | some (y, e) => addTerm a y e g) r ts
  (xs.map Prod.fst, sumNat (xs.map Prod.snd))

/-- Column sums Σ over rows of value × weight. -/
def columnSums (vals : List Nat) (rows : List (List Int)) : List Int :=
  (List.zip vals rows).foldl (fun acc x =>
    if x.1 = 0 then acc else List.zipWith (fun (s w : Int) => s + (x.1 : Int) * w) acc x.2) (List.replicate 64 0)

/-- The block terms of one block of an integer vector, one for each column (R192). -/
def Window.blockTerms (w : Window) (x : TileIn) (rows : List (List Int)) (v b : Nat) (vals : List Nat) (useZ : Bool) :
    List (Option (Int × Int)) :=
  let run := v / 64
  let ea := x.scales.getD (v * w.nb + b) 0
  let z := if useZ then x.zeros.getD (v * w.nb + b) 0 % 2 ^ w.d.act else 0
  let ts := columnSums ((vals.drop (32 * b)).take 32) ((rows.drop (32 * b)).take 32)
  (List.range 64).map (fun c =>
    let ew := w.wscale x.wsc run c b
    if ea = 0xFF ∨ ew = 0xFF then none
    else some (ts.getD c 0 - (z : Int) * (if useZ then w.wsum x.wsc run c b else 0), (ea : Int) + ew - 254))

/-- Elements of block `j` of a binary vector of run `run` that are present (R189, Table 4.3). -/
def Window.present (w : Window) (run j : Nat) : Nat :=
  if w.binary then min 32 ((if w.d.btail ≠ 0 ∧ run + 1 = w.d.runs then w.d.btail else 256) - 32 * j) else 32

/-- The block terms of block `j` of a binary vector: 2p − n over the present positions (R189). -/
def Window.binaryTerms (w : Window) (x : TileIn) (rows : List (List Int)) (v j : Nat) (q : List Nat) :
    List (Option (Int × Int)) :=
  let run := v / 64
  let n := w.present run j
  let ea := x.scales.getD (v * 8 + j) 0
  let vs := (q.drop (32 * j)).take n
  let rs := (rows.drop (32 * j)).take n
  let ts := (List.zip vs rs).foldl (fun acc y =>
    List.zipWith (fun (s u : Int) => s + (if y.1 = 1 then u else -u)) acc y.2) (List.replicate 64 0)
  (List.range 64).map (fun c =>
    let ew := w.wscale x.wsc run c j
    if ea = 0xFF ∨ ew = 0xFF ∨ n = 0 then none else some (ts.getD c 0, (ea : Int) + ew - 254))

/-- The terms of a vector's extension planes: plane by plane from P upward, block by block, each plane a term of its own with
the bit that it feeds at the plane's weight (R196, R210). -/
def Window.extTerms (w : Window) (x : TileIn) (rows : List (List Int)) (v p : Nat) (f : Fed) : List (Nat × List (Option (Int × Int))) :=
  (List.range f.extPlanes).flatMap (fun j => (List.range 2).map (fun b =>
    (v % 64, w.blockTerms x rows v b (f.ext.map (fun c => c / 2 ^ (p + j) % 2 * 2 ^ (p + j))) false)))

/-! ### Timing of the clusters (R197 to R199) -/

/-- Cycles of each cluster for a vector, with the planes it runs: with skipping, the planes with a set bit in its 8 rows. -/
def clusterPlanes (p : Nat) (skip : Bool) (planes : List Nat) : List Nat :=
  (chunks 8 planes).map (fun c =>
    if skip then popCount p (c.foldl (· ||| ·) 0) else p)

/-- The clusters' finish times after one more vector: a cluster may not start a vector before every cluster has pushed the
vector 16 earlier; the cycle after that push is the first in which it may (DESIGN CHOICE, log entry 193). `hist` holds the times at which all clusters had pushed each earlier vector, newest first. Answers the
start time, the new finish times and the stall cycles. -/
def clusterStep (fin hist : List Nat) (ns : List Nat) : List Nat × Nat :=
  let gate := hist.getD 15 0
  let starts := fin.map (fun f => max f gate)
  (List.zipWith (· + ·) starts ns, sumNat (List.zipWith (· - ·) starts fin))

/-- Run the vectors of a window through the clusters: finish time of the slowest and stall cycles. -/
def clusterTime (order : List (List Nat)) : Nat × Nat :=
  let r := order.foldl (fun (acc : (List Nat × List Nat) × Nat) ns =>
    let x := clusterStep acc.1.1 acc.1.2 ns
    ((x.1, maxNat x.1 :: acc.1.2), acc.2 + x.2)) ((List.replicate 8 0, []), 0)
  (maxNat r.1.1, r.2)

/-! ### A window's planes on one tile -/

/-- Running state of a window on a tile. -/
structure TileRun where
  acc : List AccRow
  outliers : Nat
  /-- Reserve spent on extensions. -/
  spent : Nat := 0
  /-- First declined vector (R209). -/
  declineAt : Option Nat := none
  count : FwdCount := {}
  pass : List Nat := List.replicate 8 0
  /-- Extension terms in vector order, newest first: entry and terms. -/
  exts : List (Nat × List (Option (Int × Int))) := []
  /-- Cycles per cluster of each vector, newest first. -/
  times : List (List Nat) := []
  nonfin : Nat := 0

/-- Whether an extension of a vector is accepted: by the decision word of a replay (R212), or by the unspent reserve and the
vectors declined so far (R208, R209). -/
def TileRun.accepts (r : TileRun) (w : Window) (decision reserve v cost : Nat) : Bool :=
  if w.d.replay then decide (v < (decisionWord decision).1)
  else r.declineAt.isNone && decide (r.spent + cost ≤ reserve)

/-- One integer vector. Where a saturating entry makes the order of a vector's two block terms matter, block 0's enters first (DESIGN CHOICE,
log entry 193). -/
def TileRun.vector (r : TileRun) (w : Window) (x : TileIn) (p reserve : Nat) (pext skip : Bool) (g : Int)
    (rows : List (List Int)) (v : Nat) (q : List Nat) : TileRun :=
  let f := feed p w.layer.outlier w.passes r.outliers (pext || w.d.replay) (r.accepts w x.decision reserve v) q
  let e := v % 64
  let row := r.acc.getD e []
  let t0 := addRow row (w.blockTerms x rows v 0 f.base true) g
  let t1 := addRow t0.1 (w.blockTerms x rows v 1 f.base true) g
  let ran := clusterPlanes p skip f.planes
  let bad := ((List.range 2).filter (fun b => x.scales.getD (v * 2 + b) 0 = 0xFF)).length
  { r with
    acc := r.acc.set e t1.1
    outliers := f.outliers
    spent := r.spent + f.cost
    declineAt := if f.declined ∧ r.declineAt.isNone then some v else r.declineAt
    count := { r.count with
      planes := r.count.planes + w.passes * sumNat ran
      skipped := r.count.skipped + w.passes * sumNat (ran.map (p - ·))
      extend := r.count.extend + f.cost
      outlier := r.count.outlier + (f.outliers - r.outliers)
      decline := r.count.decline + f.clipped
      accSat := r.count.accSat + t0.2 + t1.2 }
    pass := (List.range 8).map (fun k => r.pass.getD k 0 + (q.filter (fun c => decide (2 ^ (k + 1) - 1 < c))).length)
    exts := (w.extTerms x rows v p f).reverse ++ r.exts
    times := ran.map (max 1) :: r.times
    nonfin := r.nonfin + 32 * bad }

/-- One binary vector (R189, R190). -/
def TileRun.binaryVector (r : TileRun) (w : Window) (x : TileIn) (g : Int) (rows : List (List Int)) (v : Nat)
    (q : List Nat) : TileRun :=
  let e := v % 64
  let t := (List.range 8).foldl (fun (acc : AccRow × Nat) j =>
    let y := addRow acc.1 (w.binaryTerms x rows v j q) g
    (y.1, acc.2 + y.2)) (r.acc.getD e [], 0)
  let bad := sumNat ((List.range 8).map (fun b => if x.scales.getD (v * 8 + b) 0 = 0xFF then w.present (v / 64) b else 0))
  { r with
    acc := r.acc.set e t.1
    count := { r.count with planes := r.count.planes + 8, accSat := r.count.accSat + t.2 }
    times := List.replicate 8 1 :: r.times
    nonfin := r.nonfin + bad }

/-- All vectors of a window, then its extension planes in vector order (R196, R210). -/
def Window.planes (w : Window) (x : TileIn) (r0 : TileRun) (p reserve : Nat) (pext skip : Bool) (g : Int) : TileRun :=
  let vecs := chunks w.elems x.codes
  let r1 := (List.range w.d.runs).foldl (fun r run =>
    let rows := w.weights run x.wgt
    (List.range 64).foldl (fun r k =>
      let v := 64 * run + k
      let q := vecs.getD v []
      if w.binary then r.binaryVector w x g rows v q else r.vector w x p reserve pext skip g rows v q) r) r0
  r1.exts.reverse.foldl (fun r t =>
    let y := addRow (r.acc.getD t.1 []) t.2 g
    { r with acc := r.acc.set t.1 y.1, count := { r.count with accSat := r.count.accSat + y.2 } }) r1

/-- Order in which vectors pass the clusters: an S8 run passes twice (R188), and each pass of a vector counts for the lead of 16 (DESIGN CHOICE, log
entry 193). -/
def Window.order (w : Window) (times : List (List Nat)) : List (List Nat) :=
  if w.passes = 1 then times else (chunks 64 times).flatMap (fun c => c ++ c)

/-- Weights in blocks whose scale byte reads 0xFF (R138); the missing positions of a partial block count nowhere (R135). -/
def Window.badWeights (w : Window) (x : TileIn) : Nat :=
  sumNat ((List.range w.d.runs).map (fun run => sumNat ((List.range 64).map (fun c =>
    sumNat ((List.range w.nb).map (fun b => if w.wscale x.wsc run c b = 0xFF then w.present run b else 0))))))

/-- Output anchor from the window's own scales, in a warm-up step (R258). Bytes 0xFF are no scale. -/
def Window.warmAnchor (w : Window) (x : TileIn) : Int :=
  let ea := maxNat (x.scales.filter (· ≠ 0xFF))
  let ew := maxNat ((List.range w.d.runs).flatMap (fun run => (List.range 64).flatMap (fun c =>
    ((List.range w.nb).map (fun b => w.wscale x.wsc run c b)).filter (· ≠ 0xFF))))
  clampInt (-512) 511 ((ea : Int) + ew - 254 + 31)

/-! ### The column finisher (R214 to R217) -/

/-- A finished value and whether its F32 result saturated (R215). -/
structure Finished where
  y : Val
  sat : Bool := false

/-- RNE_F32(x × s + b) with one rounding; a non-finite operand gives the canonical NaN. -/
def fused (x s b : Val) : Finished :=
  if x.nonfin || s.nonfin || b.nonfin then { y := .nan }
  else
    let e := encodeFloat layF32 ((x.mul s).add b)
    { y := f32Val e.code, sat := e.sat }

/-- floor((y + 2^e) / 2^(e − 7)). -/
def segment (y : Val) (e : Int) : Nat :=
  match y.add (.fin 1 e) with
  | .fin m x => if m < 0 then 0 else min 255 (floorShift m.natAbs (x - (e - 7)))
  | _ => 0

/-- y2 of an accumulator value in a column (R215, R216). -/
def FinDesc.value (f : FinDesc) (x : TileIn) (a : Val) (c : Nat) : Finished :=
  let word := fun (b : List Byte) (i : Nat) => f32Val (leNat ((b.drop (4 * i)).take 4))
  let y1 := fused a (word x.scb (2 * c)) (word x.scb (2 * c + 1))
  match y1.y with
  | .nan => { y := .nan, sat := y1.sat }
  | v =>
    if f.func = 1 then { y := if Val.le v .zero then .zero else v, sat := y1.sat }
    else if f.func = 2 then
      let i := segment v f.tabE
      let y2 := fused v (word x.tab (2 * i)) (word x.tab (2 * i + 1))
      { y := y2.y, sat := !y2.y.nonfin && (y1.sat || y2.sat) }
    else y1

/-- One encoded block of an entry row: its scale, zero point, codes, tally and stored values. -/
structure FinBlock where
  E : Nat
  z : Nat
  codes : List Nat
  tally : Tally
  stored : List Val

/-- Encode 32 finished values at a scale. -/
def finBlock (f : Fmt) (ys : List Finished) (E z : Nat) : FinBlock :=
  let es := ys.map (fun y =>
    let e := encodeElem f y.y E z
    if y.sat then { e with sat := true, zeroed := false, nonfin := false } else e)
  { E := E, z := z, codes := es.map Enc.code, tally := es.foldl Tally.add {}
    stored := es.map (fun e => decodeElem f e.code E z) }

/-- What the finisher leaves. -/
structure FinOut where
  bytes : List Byte := []
  records : List Byte := []
  hist : Hist := {}
  rows : Nat := 0
  declined : Bool := false

/-- Drain a file: scale, encode, re-encode where a rerun is taken, and write codes, companion and records (R214 to R217,
R244 to R248, R252). `mlo` gives the tracker m_lo of each block; `unspent` is the reserve left. -/
def Window.finish (w : Window) (x : TileIn) (acc : List AccRow) (g : Int) (exact : Bool) (h : Nat) (mlo : Nat → Nat)
    (unspent : Nat) : FinOut :=
  let f := (finFmt w.fin.ofmt).getD .f32
  let osc := fun (b : Nat) =>
    (min 254 (x.osc.getD (2 * b) 0).toNat, f.zeroBits (x.osc.getD (2 * b + 1) 0).toNat)
  let ys := acc.map (fun row => (List.zip (List.range 64) row).map (fun c => w.fin.value x (.fin c.2.1 (g - 62)) c.1))
  let first := ys.map (fun row => (List.range 2).map (fun b =>
    let part := (row.drop (32 * b)).take 32
    let sc := if !f.scaled then (127, 0) else if exact then exactScale f h (part.map Finished.y) else osc b
    (part, finBlock f part sc.1 sc.2)))
  let rows := (first.filter (fun r => r.any (fun p => decide (0 < p.2.tally.sat)))).length
  let word := rerunWord x.rerun
  let cost := if w.rerun then rows else 0
  let go : Bool := if w.d.replay then decide (word.1 ≠ 0) && !word.2.1 else decide (0 < cost) && decide (cost ≤ unspent)
  let final := first.map (fun r => (List.zip (List.range 2) r).map (fun p =>
    if go && decide (0 < p.2.2.tally.sat) && f.scaled then
      let E := min 254 (p.2.2.E + 1)
      (finBlock f p.2.1 E (zeroPoint f (mlo p.1) h E), true)
    else (p.2.2, false)))
  let cw := f.container
  let codes := final.flatMap (fun r => packCodes cw (r.flatMap (fun p => p.1.codes)))
  let comp := final.flatMap (fun r => r.flatMap (fun p => leBytes 1 p.1.E ++ leBytes 1 p.1.z))
  let recs := (List.range 2).flatMap (fun b =>
    let vals := ys.flatMap (fun row => ((row.drop (32 * b)).take 32).map Finished.y)
    let blks := final.map (fun r => r.getD b ({ E := 0, z := 0, codes := [], tally := {}, stored := [] }, false))
    let t : Tally := blks.foldl (fun (a : Tally) p =>
      { sat := a.sat + p.1.tally.sat, zero := a.zero + p.1.tally.zero, nonfin := a.nonfin + p.1.tally.nonfin }) {}
    statRecord (maxNat (vals.map (statHi f))) (maxNat (vals.map statLo)) t ((blks.filter (fun p => p.2)).length)
      (decide (0 < t.sat)) w.d.replay)
  { bytes := codes ++ comp, records := recs
    hist := final.foldl (fun hh r => r.foldl (fun hh p => p.1.stored.foldl Hist.add hh) hh) {}
    rows := cost, declined := !w.d.replay && decide (0 < cost) && !go }

/-! ### A window on one tile, whole -/

/-- The outcome of a window on one tile. -/
structure TileOut where
  run : TileRun
  acc : List AccRow
  /-- Bytes to write, by offset in the tile's SRAM. -/
  writes : List (Nat × List Byte)
  hist : Hist
  wnonfin : Nat
  rerunDeclined : Bool
  /-- Cycles from the window's start to the retire barrier (R60, R200). -/
  barrier : Nat
  g : Int

/-- Dense form of an accumulator file. -/
def accRows (acc : List (Nat × (Int × Bool))) : List AccRow :=
  (List.range 64).map (fun e => (List.range 64).map (fun c => tgetD acc (64 * c + e) (0, false)))

/-- Sparse form of an accumulator file. -/
def accTable (rows : List AccRow) : List (Nat × (Int × Bool)) :=
  (List.range 4096).filterMap (fun k =>
    let x := (rows.getD (k % 64) []).getD (k / 64) (0, false)
    if x.1 = 0 ∧ x.2 = false then none else some (k, x))

/-- The decision word that a tile writes (R211). -/
def decisionOut (w : Window) (declineAt : Option Nat) (pext : Bool) (outliers : Nat) : Nat :=
  (if pext then declineAt.getD w.v else 0) + 2 ^ 17 * outliers + 2 ^ 32

/-- Run a window on one tile from an accumulator file and an outlier count, with a reserve. What a REPLAY window stores adds to no histogram
(DESIGN CHOICE, log entry 192). -/
def Window.onTile (w : Window) (x : TileIn) (acc0 : List AccRow) (outl0 : Nat) (p reserve : Nat) (pext skip : Bool)
    (g : Int) (exact : Bool) (h : Nat) (mlo : Nat → Nat) : TileOut :=
  let start := if w.d.replay then (decisionWord x.decision).2.1 else outl0
  let r := w.planes x { acc := acc0, outliers := start } p reserve pext skip g
  let ct := if w.binary then (w.v, 0) else clusterTime (w.order r.times.reverse)
  let f := if w.d.last then w.finish x r.acc g exact h mlo (reserve - r.spent) else {}
  let log := if w.d.replay then []
    else [(w.d.logOff, leBytes 8 (decisionOut w r.declineAt pext start)),
      (w.d.logOff + 8, leBytes 8 (f.rows + 2 ^ 7 * b2n f.declined + 2 ^ 32))]
  let out := if w.d.last then [(w.fin.outOff, f.bytes), (w.fin.oscOff + 4, f.records)] else []
  let reran := if w.d.replay then (if (rerunWord x.rerun).2.1 then 0 else (rerunWord x.rerun).1)
    else if f.declined then 0 else f.rows
  { run := { r with count := { r.count with stall := r.count.stall + ct.2 } }
    acc := if w.d.last then [] else r.acc
    writes := log ++ out, hist := if w.d.replay then {} else f.hist, wnonfin := w.badWeights x, rerunDeclined := f.declined
    barrier := ct.1 + r.spent + (if w.d.last then 16 + reran else 0)
    g := g }

/-- P of a layer for the step; P_max before a step has chosen (R203). -/
def Dev.planesOf (d : Dev) (i : Nat) : Nat := match d.fwd.psel.find? (fun x => x.1 = i) with
  | some x => x.2.1
  | none => (d.layer i).pmax

/-- The output tensor is tracked and the step warms up: block-exact scales (R258). -/
def Dev.exactOut (d : Dev) (t : Nat) : Bool := d.mnt.warmup && t ≠ 0xFFF && (d.tensor t).tracked

/-- m_lo of block `b` of member `m`: tracker 2m + b of the output tensor (DESIGN CHOICE, log entry 25). -/
def State.blockMlo (s : State) (t m b : Nat) : Nat :=
  if s.dev.mnt.warmup then 0
  else match s.trkDir t with
    | none => 0
    | some e => if e.size ≤ 2 * m + b then 0 else (s.trkEntry s.dev.mnt.bank (e.first + 2 * m + b)).mlo

/-- A window on member `m`, tile `t`, of group `g`, before its effects; `fresh` for a fill item, which starts from the empty
file of its shadow slot, counts its outliers from 0 (DESIGN CHOICE, log entry 194) and takes its weights from the SRAM, so that the latches
of the program's windows stay as they are. -/
def State.tileWindow (s : State) (w : Window) (g m t : Nat) (fresh : Bool) (reserve : Nat) : TileOut × State :=
  let xi := s.tileIn w g t (if fresh then [] else ((s.dev.fwdTile t).spare.map Prod.snd).getD [])
  let x := xi.1
  let d := xi.2.dev
  let tile := d.fwdTile t
  let ps := tgetD tile.passes w.d.layer {}
  let acc0 := if w.d.first ∨ fresh then accRows [] else accRows tile.acc
  let outl := if w.d.first ∨ fresh then 0 else ps.outliers
  let a : Int := if d.mnt.warmup then
      (if w.d.first ∨ fresh then w.warmAnchor x else ps.warmG.getD (w.warmAnchor x))
    else tgetD d.fwd.anchors w.d.layer 31
  let ot := w.layer.otensor
  (w.onTile x acc0 outl (if w.binary then 1 else d.planesOf w.d.layer) reserve d.modePext d.modeSkip a
    (d.exactOut ot) (d.headroom ot) (s.blockMlo ot m), xi.2)

/-- Count non-finite input elements into the tensors of a layer (R138, Table 5.4). -/
def Dev.countInputs (d : Dev) (l : LayerEntry) (a b : Nat) : Dev :=
  (d.countPlain l.itensor { nonfin := a }).countPlain l.wtensor { nonfin := b }

/-- Add the counts of a tile to its die's FWD counters (R226). -/
def Dev.countFwd (d : Dev) (die : Nat) (c : FwdCount) : Dev :=
  { d with fwd := { d.fwd with counts := tmod d.fwd.counts die {} (fun x =>
      { planes := satAdd 64 x.planes c.planes, skipped := satAdd 64 x.skipped c.skipped
        extend := satAdd 32 x.extend c.extend, outlier := satAdd 32 x.outlier c.outlier
        decline := satAdd 32 x.decline c.decline, accSat := satAdd 32 x.accSat c.accSat
        stall := satAdd 32 x.stall c.stall }) } }

/-- What the spare latches hold of the window at an operand-table index once they are loaded from a tile's SRAM, and the
state after the codewords' checks (R180, R184). -/
def State.latchLoad (s : State) (g t arg : Nat) : Option (Nat × List Byte) × State :=
  let w := s.window arg
  let r := s.load (t / 128) g (fwdAddr t w.d.wgtOff) w.latchBytes
  (some (arg, r.1.1), r.2)

/-- The spare latches after a window with this NEXT field: loaded with that window's first tile, or empty for 0xFFFF. -/
def State.latchNext (s : State) (g t next : Nat) : Option (Nat × List Byte) × State :=
  if next = 0xFFFF then (none, s) else s.latchLoad g t next

/-- A window of the program on one member tile: what it leaves (R182, R200, R201, R211). The next window's first weight tile
is read before the window's own results are written (DEDUCED, log entry 146). -/
def State.windowOnTile (s : State) (w : Window) (g tag span m t : Nat) : TileOut × State :=
  let r := s.tileWindow w g m t false w.reserve
  let o := r.1
  let n := r.2.latchNext g t w.d.next
  let d1 := n.2.dev.modFwdTile t (fun x =>
    let ps := tgetD x.passes w.d.layer {}
    let base := if w.d.first then List.replicate 8 0 else ps.counts
    { x with
      acc := if w.d.last then [] else accTable o.acc
      undrained := if w.d.last then none else some tag
      spare := n.1
      passes := tput x.passes w.d.layer
        { outliers := o.run.outliers
          counts := if w.d.replay then base else List.zipWith (· + ·) base o.run.pass
          warmG := some o.g }
      slack := span - o.barrier })
  let ps := tgetD (d1.fwdTile t).passes w.d.layer {}
  let d2 := if w.d.replay ∨ w.binary then d1
    else d1.modLayer w.d.layer (fun l => { l with census := List.zipWith (fun a b => min 65535 (max a b)) l.census ps.counts })
  let d3 := d2.countFwd (t / 128) o.run.count
  let d4 := if w.d.replay then d3
    else (d3.countInputs w.layer o.run.nonfin o.wnonfin).modLayer w.d.layer
      (fun l => { l with clip := satAdd 32 l.clip o.run.count.decline })
  let d5 := if w.d.replay ∨ o.run.count.decline = 0 then d4
    else { d4 with mnt := { d4.mnt with flags := { d4.mnt.flags with clip := true } } }
  let d6 := d5.addHist (if w.d.last then w.layer.otensor else 0xFFF) o.hist
  (o, o.writes.foldl (fun (u : State) x => u.storeTile true t x.1 x.2) { n.2 with dev := d6 })

/-- Run `f` with the cycle counter `n` cycles later: what a unit does inside a span. -/
def Dev.later (d : Dev) (n : Nat) (f : Dev → Dev) : Dev :=
  let d1 := f { d with frm := { d.frm with cycle := d.frm.cycle + n } }
  { d1 with frm := { d1.frm with cycle := d.frm.cycle } }

/-- The notices of a window that has run: saturated additions (R195), a declined extension with PEXT on (R224) and a declined
rerun (R245), each once for the window. -/
def Dev.windowNotices (d : Dev) (unit g : Nat) (sat ext rerun : Bool) : Dev :=
  let d1 := if sat then d.raise 0x2011 unit g 0 else d
  let d2 := if d.modePext && ext then d1.raise 0x2010 unit g 0 else d1
  if rerun then { d2 with mnt := { d2.mnt with flags := { d2.mnt.flags with rdecl := true } } }.raise 0x4012 unit g 0 else d2

/-- FWD_WINDOW on a group (R183 to R213): a hold of undrained sums of another tag spends the whole reserve and ends in overrun
0x1012 (R78, R44); otherwise every member runs it. FENCE_HOLD counts the reserve and the one held cycle more that finds it
spent, and 0x1012 is raised in that cycle (DESIGN CHOICE, log entry 142). -/
def State.fwdWindow (s : State) (g arg span : Nat) : State :=
  let w := s.window arg
  let ms := s.dev.fwdMembers g
  let tag := (s.dev.fwdGroup g).tag
  let unit := ms.headD 0 / 128
  if ms.any (fun t => match (s.dev.fwdTile t).undrained with
      | some u => decide (u ≠ tag)
      | none => false) then
    let d1 := s.dev.raise 0x1030 unit g 0
    let d2 := { d1 with fwd := { d1.fwd with bnd := { d1.fwd.bnd with
      hold := satAdd 32 d1.fwd.bnd.hold (w.reserve + 1) } } }
    let d3 := ms.foldl (fun (d : Dev) t => d.modFwdTile t (fun x => { x with slack := 0 })) d2
    { s with dev := d3.later w.reserve (fun d =>
        (d.raise 0x1012 unit g 0).trace 3 unit g (g + 2 ^ 8 * tag + 2 ^ 16 * min 65535 (w.reserve + 1))) }
  else
    let r := (List.zip (List.range ms.length) ms).foldl (fun (acc : List TileOut × State) mt =>
      let o := acc.2.windowOnTile w g tag span mt.1 mt.2
      (acc.1 ++ [o.1], o.2)) ([], s)
    let sat := r.1.any (fun o => decide (0 < o.run.count.accSat))
    let ext := r.1.any (fun o => o.run.declineAt.isSome)
    { r.2 with dev := r.2.dev.windowNotices unit g sat ext (r.1.any TileOut.rerunDeclined) }

/-- FWD_WLOAD: every member's spare latches are loaded with that window's first weight tile (R180, R184). -/
def State.fwdWload (s : State) (g arg : Nat) : State :=
  (s.dev.fwdMembers g).foldl (fun (u : State) t =>
    let n := u.latchLoad g t arg
    { n.2 with dev := n.2.dev.modFwdTile t (fun x => { x with spare := n.1 }) }) s

/-- FWD_CLEAR: the accumulator file and its tag are discarded without finishing. -/
def Dev.fwdClear (d : Dev) (g : Nat) : Dev :=
  (d.fwdMembers g).foldl (fun (d : Dev) t => d.modFwdTile t (fun x => { x with acc := [], undrained := none })) d

/-! ### Fill work (R61 to R75, R219 to R222) -/

/-- Shadow result of a window run for a fill item. A REPLAY item counts no non-finite input (DESIGN CHOICE, log entry 192). -/
def TileOut.shadow (o : TileOut) (w : Window) : Shadow :=
  { writes := o.writes, tensor := if w.d.last then w.layer.otensor else 0xFFF, hist := o.hist
    nonfin := if w.d.replay then 0 else o.run.nonfin, wnonfin := if w.d.replay then 0 else o.wnonfin
    layer := w.d.layer, clip := if w.d.replay then 0 else o.run.count.decline
    accSat := o.run.count.accSat, clipped := o.run.count.decline
    declined := o.rerunDeclined, extDeclined := o.run.declineAt.isSome }

/-- Reserve of a fill item's window: COST − W − 16 (R221). -/
def fillReserve (i : FillItem) (w : Window) : Nat := i.cost - w.work - 16

/-- Replace an item of a group's queue. -/
def Dev.modItem (d : Dev) (g item : Nat) (f : FillItem → FillItem) : Dev :=
  d.modGroup g (fun q => { q with fill := q.fill.map (fun i => if i.item = item then f i else i) })

/-- The item is complete on a tile. -/
def FillItem.doneOn (i : FillItem) (t : Nat) : Bool := match tget i.progress t with
  | some p => p.shadow.isSome
  | none => false

/-- The item is complete on every tile of its group. -/
def Dev.itemDone (d : Dev) (g : Nat) (i : FillItem) : Bool := (d.fwdMembers g).all (fun t => i.doneOn t)

/-- Items of the queue other than `item` that hold a shadow slot: a started item holds one on every tile of the group
(R67). -/
def GroupState.holders (q : GroupState) (item : Nat) : List FillItem :=
  q.fill.filter (fun i => i.started && i.item ≠ item)

/-- A shadow slot is free for an item, or is its own already. -/
def GroupState.slotFree (q : GroupState) (item : Nat) : Bool := decide ((q.holders item).length < 4)

/-- Item `i` comes before item `j`: an earlier deadline frame, then the lower ITEM (R68). -/
def FillItem.sooner (i j : FillItem) : Bool :=
  frameBefore i.deadline j.deadline || (!frameBefore j.deadline i.deadline && decide (i.item < j.item))

/-- The soonest of a list of items. -/
def soonest (l : List FillItem) : Option FillItem :=
  l.foldl (fun (b : Option FillItem) i => match b with
    | none => some i
    | some j => if i.sooner j then some i else b) none

/-- The last of a list of items: the latest deadline frame, then the higher ITEM (R74). -/
def latest (l : List FillItem) : Option FillItem :=
  l.foldl (fun (b : Option FillItem) i => match b with
    | none => some i
    | some j => if j.sooner i then some i else b) none

/-- Run an item on a tile for at most `n` cycles of slack: the cycles used. Its results are formed when it completes. -/
def State.fillAdvance (s : State) (g m t n : Nat) (i : FillItem) : Nat × State :=
  let w := s.window i.action
  let r := s.tileWindow w g m t true (fillReserve i w)
  let have_ := (tgetD i.progress t {}).cycles
  let need := r.1.barrier - have_
  let used := min n need
  let p : FillProg := if need ≤ n then { cycles := r.1.barrier, shadow := some (r.1.shadow w) } else { cycles := have_ + n }
  let s1 := if need ≤ n then r.2 else s
  (used, { s1 with dev := s1.dev.modItem g i.item (fun j => { j with progress := tput j.progress t p }) })

/-- Make room for an item that has not started, where four others hold the shadow slots: the started item with the latest
deadline frame, then the higher ITEM, is discarded on every tile of the group (R72, R73, R74). -/
def Dev.evictFor (d : Dev) (g item : Nat) : Dev :=
  let q := d.fwdGroup g
  if q.slotFree item then d
  else match latest (q.holders item) with
    | none => d
    | some v =>
      let d1 := d.modItem g v.item FillItem.discard
      { d1 with fwd := { d1.fwd with bnd := { d1.fwd.bnd with
          discard := satAdd 32 d1.fwd.bnd.discard v.progress.length } } }

/-- FILL_WINDOW on one tile: a complete item leaves the window as slack; an incomplete one runs in full (R74). -/
def State.fillWindowOn (s : State) (g item span m t : Nat) : State :=
  match (s.dev.fwdGroup g).fill.find? (fun i => i.item = item) with
  | none => s
  | some i =>
    if i.doneOn t then { s with dev := s.dev.modFwdTile t (fun x => { x with slack := span }) }
    else
      let w := s.window i.action
      let r := s.tileWindow w g m t true (fillReserve i w)
      let d2 := r.2.dev.modItem g item (fun (j : FillItem) =>
        { j with progress := tput j.progress t { cycles := r.1.barrier, shadow := some (r.1.shadow w) } })
      { r.2 with dev := d2.modFwdTile t (fun (x : FwdTile) => { x with slack := 0 }) }

/-- FILL_WINDOW: the item's rigid window on every tile of the group (R65, R74). -/
def State.fillWindow (s : State) (g item span : Nat) : State :=
  let ms := s.dev.fwdMembers g
  let started := match (s.dev.fwdGroup g).fill.find? (fun i => i.item = item) with
    | none => true
    | some i => i.started
  let full := match (s.dev.fwdGroup g).fill.find? (fun i => i.item = item) with
    | none => false
    | some i => ms.any (fun t => !i.doneOn t)
  let s0 := if started then s else { s with dev := s.dev.evictFor g item }
  let s1 := (List.zip (List.range ms.length) ms).foldl (fun (u : State) mt => u.fillWindowOn g item span mt.1 mt.2) s0
  let d := (s1.dev.cntLeave (73 + g)).cntEnter (137 + g)
  { s1 with dev := { d with fwd := { d.fwd with bnd := { d.fwd.bnd with
    promote := satAdd 32 d.fwd.bnd.promote (b2n full) } } } }

/-- Apply a shadow slot's results on a tile (R71, R219). A fill item's planes, outliers, extensions and stalls do not count in
the FWD registers (R222); its saturated additions and clipped elements do, here (DEDUCED, log entry 147). -/
def State.applyShadow (s : State) (t : Nat) (x : Shadow) : State :=
  let l := s.dev.layer x.layer
  let d1 := ((s.dev.addHist x.tensor x.hist).countInputs l x.nonfin x.wnonfin).modLayer x.layer
    (fun r => { r with clip := satAdd 32 r.clip x.clip })
  let d2 := if x.clip = 0 then d1 else { d1 with mnt := { d1.mnt with flags := { d1.mnt.flags with clip := true } } }
  let d3 := d2.countFwd (t / 128) { accSat := x.accSat, decline := x.clipped }
  x.writes.foldl (fun (u : State) p => u.storeTile true t p.1 p.2) { s with dev := d3 }

/-- FILL_RETIRE: the results become visible and the item leaves the queue (R63, R71). What its window declined or saturated is
told here, once for the window (DEDUCED, log entry 147). -/
def State.fillRetire (s : State) (g item : Nat) : State :=
  match (s.dev.fwdGroup g).fill.find? (fun i => i.item = item) with
  | none => s
  | some i =>
    let xs := i.progress.filterMap (fun p => p.2.shadow.map (fun x => (p.1, x)))
    let d := (s.dev.modGroup g (fun q => { q with fill := q.fill.filter (fun j => j.item ≠ item) })).cntLeave (137 + g)
    let s1 := xs.foldl (fun (u : State) p => u.applyShadow p.1 p.2) { s with dev := d }
    let unit := (s.dev.fwdMembers g).headD 0 / 128
    let sat := xs.any (fun p => decide (0 < p.2.accSat))
    let ext := xs.any (fun p => p.2.extDeclined)
    { s1 with dev := s1.dev.windowNotices unit g sat ext (xs.any (fun p => p.2.declined)) }

/-- The item that FILL_QUEUE adds in a frame. -/
def State.fillItem (s : State) (arg : Nat) : FillItem :=
  let f := fillDesc (BitVec.ofNat 128 (s.opnd arg 16))
  { item := f.item, deadline := frameAfter s.dev.frm.frame f.deadline, cost := f.cost, inputs := f.inputs, action := f.action, tag := f.tag }

/-- FILL_QUEUE (R61). -/
def State.fillQueue (s : State) (g arg : Nat) : State :=
  let i := s.fillItem arg
  { s with dev := (s.dev.modGroup g (fun q => { q with fill := q.fill ++ [i] })).cntEnter (73 + g) }

/-- The fault with which a FILL_QUEUE does not issue: R62, R63, R220, then the admission of R61 and R64 (R614). `left` is the
number of frames of the step after this one. R62 makes the checks of R183 on the group; where R183 names the group's format
tag, the item's own TAG stands, in which it computes (R80; DESIGN CHOICE, log entry 141). -/
def State.fillQueueFault (s : State) (g arg left : Nat) : Option Nat :=
  let f := fillDesc (BitVec.ofNat 128 (s.opnd arg 16))
  let q := (s.dev.fwdGroup g).fill
  let w := s.window f.action
  if !s.dev.windowOk w g f.tag then some 0x2001
  else if q.any (fun j => j.item = f.item) then some 0x1033
  else if 16384 < w.outBytes then some 0x2003
  else if 32 ≤ q.length || decide (left < f.deadline) then some 0x1004
  else none

/-- The fault with which a FILL_WINDOW does not issue: the item is held (R63), a window no shorter than COST (R65, 0x1005:
DEDUCED, log entry 37), and the checks of its action's window on the tiles where it has yet to run (R212, R246, R218, R380;
DEDUCED, log entry 148). A FILL_WINDOW outside the item's deadline frame issues like any other (DESIGN CHOICE, log
entry 149). -/
def State.fillWindowFault (s : State) (g arg span : Nat) : Option Nat :=
  match (s.dev.fwdGroup g).fill.find? (fun i => i.item = arg) with
  | none => some 0x1033
  | some i =>
    let ms := (s.dev.fwdMembers g).filter (fun t => !i.doneOn t)
    if span < i.cost then some 0x1005
    else if ms.isEmpty then none
    else s.windowFault (s.window i.action) ms

/-- The fault with which a FILL_RETIRE does not issue: the item is held (R63) and complete (R75). An item that ran ahead to
its end may retire before its rigid window (DESIGN CHOICE, log entry 149). -/
def Dev.fillRetireFault (d : Dev) (g arg : Nat) : Option Nat :=
  match (d.fwdGroup g).fill.find? (fun i => i.item = arg) with
  | none => some 0x1033
  | some i => if d.itemDone g i then none else some 0x1031

/-- SET_TAG (R76). -/
def Dev.setTag (d : Dev) (g arg : Nat) : Dev := d.modGroup g (fun q => { q with tag := arg % 64 })

/-! ### Step start (R193, R203, R204) -/

/-- Census of a layer in the current bank. -/
def State.storedCensus (s : State) (i : Nat) : List Nat :=
  (List.range 8).map (fun k => s.trk (s.trkLayerOff s.dev.mnt.bank i + 2 * k) 2)

/-- P_lo and P of a layer from its largest zero point and its census. -/
def choosePlanes (l : LayerEntry) (zmax : Nat) (census : Option (List Nat)) : Nat × Nat :=
  let lo := min l.pmax (max 1 (bitLen zmax))
  match census with
  | none => (l.pmax, lo)
  | some c =>
    (((List.range (l.pmax + 1 - lo)).map (· + lo)).find? (fun p => decide (c.getD (p - 1) 0 ≤ l.outlier)) |>.getD l.pmax, lo)

/-- Choose P and G of every layer for the step (R193, R203 to R205). -/
def State.forwardBegin (s : State) : State :=
  let d := s.dev
  let ls := List.range d.layerCount
  let cold := d.mnt.warmup
  let psel := ls.map (fun i =>
    let l := d.layer i
    let f := (fmtOf (d.tensor l.itensor).fmt).getD .f32
    let r := choosePlanes l (maxNat ((s.trkScales l.itensor).map (fun x => f.zeroBits x.2))) (if cold then none else some (s.storedCensus i))
    (i, r.1, r.2))
  let mx := fun (t : Nat) =>
    let es := (s.trkScales t).map Prod.fst
    if es.isEmpty then (0 : Int) else (maxNat es : Int) - 127
  let anchors := ls.map (fun i =>
    let l := d.layer i
    (i, clampInt (-512) 511 (mx l.itensor + mx l.wtensor + 31)))
  { s with dev := { d with fwd := { d.fwd with
      psel := psel, anchors := anchors, coldCensus := cold, stepped := true, counts := [], bnd := {} } } }

end Sys2Proof.Machine
end

