-- ==== Sys2Proof/Machine/Copies.lean ====
section
/-! DEFINITION. The stack DMAs and the layout engines (R394 to R399): which tuples an engine moves, what a copy costs, its
data movement, fold mode, and copies of different engines that write the same bytes. -/

namespace Sys2Proof.Machine

/-! ### Engines: committed ends and jobs (R33 to R35) -/

/-- Engine numbers of Table 14.1. -/
def mintEngine (k : Nat) : Nat := k
def layEngine (k : Nat) : Nat := 12 + k
def dmaEngine (k : Nat) : Nat := 24 + k
def hostEngine : Nat := 36

/-- An engine's admission state. -/
def Dev.engine (d : Dev) (e : Nat) : Engine := tgetD d.engines e {}

/-- End of a copy of this cost that issues at cycle `t`: max(t, committed end) + cost (R34). -/
def Dev.copyEnd (d : Dev) (e t cost : Nat) : Nat := max t (d.engine e).committed + cost

/-- Admit a copy of engine `e` that is charged to the committed end of engine `c` (R34, R35, R242). -/
def Dev.admitCopy (d : Dev) (c e stop : Nat) (cost : Nat := 0) : Dev :=
  let d1 := { d with engines := tmod d.engines c {} (fun x => { x with committed := stop }) }
  ({ d1 with engines := tmod d1.engines e {} (fun x => { x with jobs := x.jobs ++ [({ stop := stop, begins := stop + 32 - cost } : Job)] }) }).cntEnter e

/-- Note what the engine's newest copy wrote. -/
def Dev.noteRanges (d : Dev) (e : Nat) (rs : List (Nat × Nat)) : Dev :=
  { d with engines := tmod d.engines e {} (fun x =>
    { x with jobs := lmod x.jobs (x.jobs.length - 1) (fun j => { j with ranges := j.ranges ++ rs }) }) }

/-- The engine's newest copy has failed: it writes nothing further. -/
def Dev.noteHalted (d : Dev) (e : Nat) (halted : Bool) : Dev :=
  if halted then { d with engines := tmod d.engines e {} (fun x =>
    { x with jobs := lmod x.jobs (x.jobs.length - 1) (fun j => { j with halted := true }) }) }
  else d

/-- COPY_COMPLETE: the engine's oldest copy ends (R35). -/
def Dev.copyComplete (d : Dev) (e : Nat) : Dev :=
  if (d.engine e).jobs.isEmpty then d
  else
    let d1 := ({ d with engines := tmod d.engines e {} (fun x => { x with jobs := x.jobs.drop 1 }) }).cntLeave e
    if 12 ≤ e ∧ e < 24 then
      { d1 with lay := tmod d1.lay (e - 12) {} (fun (x : LayCount) => { x with copies := satAdd 32 x.copies 1 }) }
    else d1

/-- The mint unit and the stack DMA of one stack execute in issue order (R242): one engine to the other copies. -/
def engineClass (e : Nat) : Nat := if e = 36 then 36 else e % 24

/-- A byte of the ranges lies at `a`. -/
def inRanges (rs : List (Nat × Nat)) (a : Nat) : Bool := rs.any (fun r => decide (r.1 ≤ a ∧ a < r.1 + r.2))

/-- Bytes of `rs` that copies of other engines in progress have written too. -/
def Dev.contested (d : Dev) (e : Nat) (rs : List (Nat × Nat)) : List Nat :=
  let others := d.engines.flatMap (fun x => if engineClass x.1 = engineClass e then [] else x.2.jobs.flatMap Job.ranges)
  if others.isEmpty then []
  else rs.flatMap (fun r => ((List.range r.2).map (· + r.1)).filter (inRanges others))

/-- Where the spans of two engines' copies overlap, the H1 does not define which value a byte keeps: Config.laterCopyWins
does (log entry 6). `s0` is the state before the later copy, `s1` the state after it. -/
def State.settleRace (s0 s1 : State) (e : Nat) (rs : List (Nat × Nat)) : State :=
  let d := s1.dev
  let cs := d.contested e rs
  let s2 := if cs.isEmpty then s1
    else cs.foldl (fun (s : State) a =>
      if Config.laterCopyWins d.free a then s else s.storeRaw a [s0.byte a]) { s1 with dev := { d with free := d.free + 1 } }
  { s2 with dev := s2.dev.noteRanges e rs }

/-! ### Which tuples an engine moves (R397, R398) -/

/-- The place whose stack carries tuple `i` of a stack DMA's or a mint unit's copy: the destination's stack, else the
source's, else the stack paired with the stash side (R361, R397). -/
def Dev.sideStack (d : Dev) (src dst : Layout) (i : Nat) : Nat :=
  let t := dst.tuple i
  let a := (d.alloc src.alloc).loc
  let b := (d.alloc dst.alloc).loc
  if b = 0 then d.elemPlace dst (dst.elem t)
  else if a = 0 then d.elemPlace src (src.elem t)
  else if b = 1 then 3 * d.elemPlace dst (dst.elem t)
  else 3 * d.elemPlace src (src.elem t)

/-- Tuples that a DMA_COPY on stack `k` moves. -/
def Dev.dmaMine (d : Dev) (k : Nat) (src dst : Layout) (i : Nat) : Bool := decide (d.sideStack src dst i = k)

/-- Tuples that a LAY_COPY on stack `k` moves: destination on M_k. -/
def Dev.layMine (d : Dev) (k : Nat) (dst : Layout) (i : Nat) : Bool := decide (d.elemPlace dst (dst.elem (dst.tuple i)) = k)

/-- A pad tuple yields: its row and column lie in a valid box that another descriptor of the running command registered
(R393). -/
def Dev.yields (d : Dev) (idx : Nat) (l : Layout) (e : Nat) : Bool :=
  l.padyield && (match d.seq.run with
    | none => false
    | some r =>
      let row : Int := (e / max 1 l.rowlen : Nat)
      let col : Int := (e % max 1 l.rowlen : Nat)
      r.boxes.any (fun (x : Nat × Nat × Box) => decide (x.1 ≠ idx) && decide (x.2.1 = l.alloc) &&
        decide (x.2.2.r0 ≤ row ∧ row ≤ x.2.2.r1 ∧ x.2.2.c0 ≤ col ∧ col ≤ x.2.2.c1)))

/-! ### Costs (R33, Table 1.4) -/

/-- Layouts of a copy descriptor: source, destination. -/
def State.copyPair (s : State) (c : CopyDesc) : Layout × Layout := (s.layoutAt c.src, s.layoutAt c.dst)

/-- Granules per cycle of a stack DMA's path. -/
def Dev.dmaRate (d : Dev) (src dst : Layout) : Nat :=
  let a := (d.alloc src.alloc).loc
  let b := (d.alloc dst.alloc).loc
  if (a = 1 ∧ 2 ≤ b) ∨ (2 ≤ a ∧ b = 1) then 32 else 16

/-- Cost of a DMA_COPY on stack `k`. -/
def State.dmaCost (s : State) (k arg : Nat) : Nat :=
  let c := copyDesc (BitVec.ofNat 128 (s.opnd arg 16))
  let l := s.copyPair c
  32 + ceilDiv (l.2.granules (s.dev.dmaMine k l.1 l.2)) (s.dev.dmaRate l.1 l.2)

/-- Cost of a LAY_COPY on stack `k`. -/
def State.layCost (s : State) (k arg : Nat) : Nat :=
  let c := copyDesc (BitVec.ofNat 128 (s.opnd arg 16))
  let l := s.copyPair c
  32 + ceilDiv ((List.range l.2.count).filter (s.dev.layMine k l.2)).length 64

/-! ### Moving elements -/

/-- A copy under way. -/
structure CopyRun where
  s : State
  /-- Elements moved from the source. -/
  moved : Nat := 0
  /-- Pad tuples that yielded. -/
  skipped : Nat := 0
  ranges : List (Nat × Nat) := []
  /-- An access failed, or a source lies on another stack: nothing further is written. -/
  halted : Bool := false

/-- Model addresses of element `e`. -/
def Dev.elemRange (d : Dev) (l : Layout) (e : Nat) : Nat × Nat :=
  let p := l.bitPos e
  (d.translate (d.alloc l.alloc) (p / 8), (p % 8 + l.bits + 7) / 8)

/-- Write an element of the destination. -/
def CopyRun.put (r : CopyRun) (w : Who) (dst : Layout) (e code : Nat) (poison : Bool) : CopyRun :=
  let x := r.s.setElem w dst e code poison
  if x.1 then { r with s := x.2, ranges := r.s.dev.elemRange dst e :: r.ranges } else { r with s := x.2, halted := true }

/-- One tuple of a copy that keeps the bits of its elements (R385, R393, R399). `idx` is the destination descriptor's index. -/
def CopyRun.tuple (r : CopyRun) (w : Who) (idx : Nat) (src dst : Layout) (padval : Nat) (i : Nat) : CopyRun :=
  if r.halted then r
  else
    let t := dst.tuple i
    let e := dst.elem t
    if dst.isValid t then
      let x := r.s.elem w src (src.elem t)
      match x.1 with
      | none => { r with s := x.2, halted := true }
      | some c => { r with s := x.2, moved := r.moved + 1 }.put w dst e c.1 c.2
    else if r.s.dev.yields idx dst e then { r with skipped := r.skipped + 1 }
    else r.put w dst e padval false

/-- Count a stack's pad tuples that yielded, and its layout engine's work. -/
def Dev.countLay (d : Dev) (k elems folded skipped foldsat : Nat) : Dev :=
  { d with lay := tmod d.lay k {} (fun (x : LayCount) =>
    { x with
      elems := satAdd 64 x.elems elems, folded := satAdd 32 x.folded folded, padskip := satAdd 32 x.padskip skipped
      foldsat := satAdd 32 x.foldsat foldsat }) }

/-- DMA_COPY on stack `k` (R397). -/
def State.dmaCopy (s : State) (k arg : Nat) : State :=
  let c := copyDesc (BitVec.ofNat 128 (s.opnd arg 16))
  let l := s.copyPair c
  let w := Who.stack k 0
  let r := ((List.range l.2.count).filter (s.dev.dmaMine k l.1 l.2)).foldl
    (fun (r : CopyRun) i => r.tuple w c.dst l.1 l.2 c.padval i) { s := s }
  s.settleRace { r.s with dev := r.s.dev.countLay k 0 0 r.skipped 0 } (dmaEngine k) r.ranges

/-! ### Fold mode (R394) -/

/-- A destination element under FOLD: its sum so far as an F32 code, `none` while only pad tuples have reached it. -/
structure FoldCell where
  elem : Nat
  sum : Option Nat := none
  adds : Nat := 0
  sat : Bool := false
  nonfin : Bool := false
  poison : Bool := false

/-- Add a value, given as its F32 code. -/
def FoldCell.add (x : FoldCell) (code : Nat) (poison : Bool) : FoldCell :=
  let v := f32Val code
  match x.sum with
  | none => { x with sum := some code, nonfin := v.nonfin, poison := x.poison || poison }
  | some a =>
    let e := encodeFloat layF32 ((f32Val a).add v)
    let fine := !(x.nonfin || v.nonfin)
    { x with
      sum := some (if fine then e.code else 0x7FC00000)
      adds := x.adds + 1, sat := x.sat || (fine && e.sat), nonfin := !fine, poison := x.poison || poison }

/-- Change the cell of an element, keeping the order in which elements were first reached. -/
def foldCell (cs : List FoldCell) (e : Nat) (f : FoldCell → FoldCell) : List FoldCell :=
  match cs with
  | [] => [f { elem := e }]
  | c :: r => if c.elem = e then f c :: r else c :: foldCell r e f

/-- The sums of a fold. -/
structure FoldRun where
  s : State
  cells : List FoldCell := []
  moved : Nat := 0
  halted : Bool := false

/-- Format of a fold: F32 or BF16. -/
def foldFmt (c : Nat) : Fmt := (fmtOf c).getD .f32

/-- One tuple of a fold. -/
def FoldRun.tuple (r : FoldRun) (k fmt : Nat) (src dst : Layout) (i : Nat) : FoldRun :=
  if r.halted then r
  else
    let t := dst.tuple i
    let e := dst.elem t
    if dst.isValid t then
      if r.s.dev.elemPlace src (src.elem t) ≠ k then
        { r with s := { r.s with dev := r.s.dev.raise 0x6014 (25 + k) src.alloc (src.elem t) }, halted := true }
      else
        let x := r.s.elem (Who.stack k 0) src (src.elem t)
        match x.1 with
        | none => { r with s := x.2, halted := true }
        | some c =>
          { r with
            s := x.2, moved := r.moved + 1
            cells := foldCell r.cells e (fun y => y.add (toF32 (decodeElem (foldFmt fmt) c.1 127 0)) c.2) }
    else { r with cells := foldCell r.cells e id }

/-- Code with which an element of a fold is written, and whether its encoding saturated. -/
def FoldCell.result (x : FoldCell) (fmt padval : Nat) : Nat × Bool :=
  match x.sum with
  | none => (padval, false)
  | some a =>
    let e := encodeElem (foldFmt fmt) (f32Val a) 127 0
    (e.code, e.sat)

/-- A LAY_COPY with FOLD. -/
def State.layFold (s : State) (k : Nat) (c : CopyDesc) (src dst : Layout) : State :=
  let r := ((List.range dst.count).filter (s.dev.layMine k dst)).foldl
    (fun (r : FoldRun) i => r.tuple k c.fmt src dst i) { s := s }
  if r.halted then { r.s with dev := (r.s.dev.countLay k r.moved 0 0 0).noteHalted (layEngine k) true }
  else
    let w := r.cells.foldl (fun (x : CopyRun) cell =>
      if x.halted then x else x.put (Who.stack k 0) dst cell.elem (cell.result c.fmt c.padval).1 cell.poison) { s := r.s }
    let folded := sumNat (r.cells.map FoldCell.adds)
    let sats := (r.cells.filter (fun cell => cell.sat || (cell.result c.fmt c.padval).2)).length
    s.settleRace { w.s with dev := (w.s.dev.countLay k r.moved folded 0 sats).noteHalted (layEngine k) w.halted } (layEngine k) w.ranges

/-- A layout copy on stack `k` of a descriptor and its pair of layouts (R398, R399). -/
def State.layCopyPair (s : State) (k : Nat) (c : CopyDesc) (l : Layout × Layout) : State :=
  if l.2.fold then s.layFold k c l.1 l.2
  else
    let w := Who.stack k 0
    let r := ((List.range l.2.count).filter (s.dev.layMine k l.2)).foldl (fun (r : CopyRun) i =>
      if r.halted then r
      else
        let t := l.2.tuple i
        if l.2.isValid t && decide (r.s.dev.elemPlace l.1 (l.1.elem t) ≠ k) then
          { r with s := { r.s with dev := r.s.dev.raise 0x6014 (25 + k) l.1.alloc (l.1.elem t) }, halted := true }
        else r.tuple w c.dst l.1 l.2 c.padval i) { s := s }
    s.settleRace { r.s with dev := (r.s.dev.countLay k r.moved 0 r.skipped 0).noteHalted (layEngine k) r.halted } (layEngine k) r.ranges

/-- LAY_COPY on stack `k`. -/
def State.layCopy (s : State) (k arg : Nat) : State :=
  let c := copyDesc (BitVec.ofNat 128 (s.opnd arg 16))
  s.layCopyPair k c (s.copyPair c)

end Sys2Proof.Machine
end

