-- ==== Sys2Proof/Machine/Complete.lean ====
section
/-! DEFINITION. The life of a host command beside its own effect: its counter record (R579, R580), its journal entry
(R537, R615), its completion record (R535, R536), and the fault record that goes into it (R499). -/

namespace Sys2Proof.Machine

/-! ### Fault records of commands -/

/-- The record that `d1` holds of a fault raised since `d0`; `none` when the fault has been lost (R498). -/
def Dev.newFault (d0 d1 : Dev) : Option FaultRec :=
  d1.flt.queue.find? (fun (r : FaultRec) => !d0.flt.queue.contains r && !r.preempted)

/-- Raise a fault at a severity and take its record. -/
def Dev.raiseRecAs (d : Dev) (sev : Severity) (code unit wher detail : Nat) : Option FaultRec × Dev :=
  let d1 := d.raiseAs sev code unit wher detail
  (d.newFault d1, d1)

/-- Raise a fault and take its record. -/
def Dev.raiseRec (d : Dev) (code unit wher detail : Nat) : Option FaultRec × Dev :=
  d.raiseRecAs (severityOf code) code unit wher detail

/-! ### Counter records (R579, R580) -/

/-- The 16 bytes of a counter entry (Table 14.2). -/
def Counter.bytes (c : Counter) : List Byte :=
  leBytes 2 (min 65535 c.depth) ++ leBytes 2 (min 65535 c.high) ++ leBytes 4 c.accepted ++ leBytes 8 c.sum

/-- The 202 entries of a half of a counter record. -/
def counterHalf (l : List (Nat × Counter)) : List Byte :=
  (List.range 202).flatMap (fun i => (tgetD l i ({} : Counter)).bytes)

/-- Bytes of a counter record. -/
def recordBytes : Nat := 6528

/-- Slots of the allocation that OBS.CNT_ALLOC names; `none` where records cannot be written (R580). -/
def Dev.recordSlots (d : Dev) : Option Nat :=
  let e := d.alloc (d.regFld .obsCntAlloc 0 12)
  if e.valid && e.purpose = 0 && e.mayWrite 7 && decide (recordBytes ≤ e.size) then some (e.size / recordBytes) else none

/-- The 64-byte header of a counter record (Table 14.3). -/
def CmdRef.recordHeader (c : CmdRef) (q endFrame endCycle status flags : Nat) : List Byte :=
  leBytes 4 0x52544E43 ++ leBytes 2 202 ++ leBytes 1 c.ring ++ leBytes 1 c.opcode ++ leBytes 4 c.index ++ leBytes 8 c.tag ++
  leBytes 8 q ++ leBytes 6 c.admitted ++ leBytes 6 endFrame ++ leBytes 4 endCycle ++ leBytes 1 status ++ leBytes 1 flags ++
  leBytes 18 0

/-- Write into the record of number `q`. -/
def State.writeRecord (s : State) (q o : Nat) (b : List Byte) : State :=
  match s.dev.recordSlots with
  | none => s
  | some n => s.poke (s.dev.regFld .obsCntAlloc 0 12) (q % n * recordBytes + o) b

/-- An admitted command gets its record while counting is enabled. A record that cannot be written takes no number (DESIGN
CHOICE, log entry 40). -/
def State.openRecord (s : State) (c : CmdRef) : CmdRef × State :=
  if !s.dev.obs.counting then (c, s)
  else match s.dev.recordSlots with
    | none => (c, { s with dev := { s.dev with obs := { s.dev.obs with noAlloc := true } } })
    | some _ =>
      let q := s.dev.obs.nextRecord
      let d := { s.dev with obs := { s.dev.obs with nextRecord := q + 1, noAlloc := false } }
      ({ c with record := some q },
        ({ s with dev := d } : State).writeRecord q 0 (c.recordHeader q 0 0 0 1 ++ counterHalf s.dev.entries))

/-- The entries with which record `q` ends: those of the disabling tick where counting has been disabled since. -/
def Obs.endHalf (o : Obs) (q : Nat) : Option (List (Nat × Counter) × Nat) :=
  (o.frozen.find? (fun f => decide (q < f.1))).map (fun f => f.2)

/-- The entries at the end of the current cycle, with its sample: END_CYCLE's is among those that a mean divides by (R580). -/
def Dev.endEntries (d : Dev) : List (Nat × Counter) := (d.cntAdvance 1).entries

/-- The end half and the header with END, in the cycle in which the completion record is written. -/
def State.closeRecord (s : State) (c : CmdRef) (status : Nat) : State :=
  match c.record, s.dev.recordSlots with
  | some q, some n =>
    if q + n < s.dev.obs.nextRecord then s
    else
      let x := match s.dev.obs.endHalf q with
        | some f => (f.1, f.2, 0, 7)
        | none => (s.dev.endEntries, s.dev.frm.frame, s.dev.frm.cycle, 3)
      let s1 := s.writeRecord q 3296 (counterHalf x.1)
      s1.writeRecord q 0 (c.recordHeader q x.2.1 x.2.2.1 status x.2.2.2)
  | some _, none => { s with dev := { s.dev with obs := { s.dev.obs with noAlloc := true } } }
  | none, _ => s

/-! ### Journal entries of commands (R537, Table 13.14) -/

/-- Outcome 1 admitted, 2 refused with the fault. -/
def Dev.journalCmd (d : Dev) (c : CmdRef) (outcome code : Nat) : Dev :=
  d.journal 1 3 false (c.ring + 2 ^ 8 * c.index) 0 (c.opcode + 2 ^ 64 * c.tag) (outcome + 2 ^ 16 * code)

/-! ### Completion (R535, R536) -/

/-- STATUS of Table 12.5. -/
def stCompleted : Nat := 1
def stRefused : Nat := 2
def stAborted : Nat := 3
def stRejected : Nat := 4
def stCancelled : Nat := 5
def stStopped : Nat := 6
def stFailed : Nat := 7
def stStarted : Nat := 8
def stArmed : Nat := 9

/-- A command has finished: its record waits to be written. -/
def Dev.finish (d : Dev) (x : Completion) : Dev := { d with hst := { d.hst with done := d.hst.done ++ [x] } }

/-- A command finishes with a status and the fault behind it. -/
def Dev.complete (d : Dev) (c : CmdRef) (status : Nat) (fault : Option FaultRec) : Dev :=
  d.finish { cmd := c, status := status, fault := fault }

/-- The 64 bytes of a completion record written in frame `frame` (Table 12.5). -/
def Completion.bytes (x : Completion) (frame : Nat) : List Byte :=
  leBytes 1 x.status ++ leBytes 1 (b2n x.cmd.phase + 2 * b2n x.fault.isSome) ++ leBytes 1 x.stepFlags ++ leBytes 1 0 ++
  leBytes 4 x.cmd.index ++ leBytes 8 x.cmd.tag ++ leBytes 8 x.step ++ leBytes 6 frame ++ leBytes 2 0 ++
  (match x.fault with
    | none => leBytes 32 0
    | some r => r.bytes)

def Dev.ring (d : Dev) (i : Nat) : Ring := d.hst.rings.getD i {}

def Dev.modRing (d : Dev) (i : Nat) (f : Ring → Ring) : Dev := { d with hst := { d.hst with rings := lmod d.hst.rings i f } }

/-- The record of a command that has finished is written, its entry is free for the next lap (R529), and its ring's vector is raised when
IRQ is set. -/
def State.writeCompletion (s : State) (x : Completion) : State :=
  let c := x.cmd
  let s1 := { s with host := s.host.write (c.comp + 64 * c.index) (x.bytes s.dev.frm.frame) }
  let s2 := s1.closeRecord c x.status
  let d := s2.dev.modRing c.ring (fun r => { r with open_ := r.open_.filter (· ≠ c.index) })
  { s2 with dev := if c.irq then d.emit (.msix (d.ring c.ring).vector) else d }

/-- The records that the coming tick is the deadline of, or that are later than theirs, are written before it (R535). -/
def State.dueRecords (s : State) : State :=
  let due := fun (x : Completion) => tickDue x.cmd.deadline (frameAfter s.dev.frm.frame 1)
  let s0 : State := { s with dev := { s.dev with hst := { s.dev.hst with done := s.dev.hst.done.filter (fun x => !due x) } } }
  (s.dev.hst.done.filter due).foldl State.writeCompletion s0

/-- COMMAND_COMPLETION: the record of the command that finished first is written. Where the write to host memory fails, the command has
failed with 0xB003, a run's as a step-abort (R536), and its record waits for the next attempt (DEDUCED, log entry 41). -/
def State.commandCompletion (s : State) (writeOk : Bool) : State :=
  match s.dev.hst.done with
  | [] => s
  | x :: rest =>
    let c := x.cmd
    if writeOk then
      ({ s with dev := { s.dev with hst := { s.dev.hst with done := rest } } } : State).writeCompletion x
    else
      let r := s.dev.raiseRecAs (if c.opcode = 1 then .stepAbort else .notice) 0xB003 37 c.ring c.index
      { s with dev := { r.2 with hst := { r.2.hst with done := { x with status := stFailed, fault := r.1 } :: rest } } }

/-- The oldest admitted copy of an engine ends; the host copy engine's ends its command (R35, R535). -/
def Dev.engineDone (d : Dev) (e : Nat) : Dev :=
  let d1 := d.copyComplete e
  if e = hostEngine then
    (match d1.hst.copies with
      | [] => d1
      | x :: rest => ({ d1 with hst := { d1.hst with copies := rest } }).finish x)
  else d1

end Sys2Proof.Machine
end

