-- ==== Sys2Proof/Machine/Mint.lean ====
section
/-! DEFINITION. The stack mint units (R239 to R242), the statistics records they merge (R252), and the updates of the tracker
table when clearing completes (R232, R233, R249 to R259). -/

namespace Sys2Proof.Machine

/-! ### Descriptors and their checks -/

/-- A mint operation with its layouts and formats. -/
structure MintOp where
  d : MintDesc
  src : Layout
  dst : Layout
  sf : Fmt
  df : Fmt

def State.mintDescAt (s : State) (arg : Nat) : MintDesc := mintDesc (BitVec.ofNat 128 (s.opnd arg 16))

def State.mintOp (s : State) (arg : Nat) : MintOp :=
  let d := s.mintDescAt arg
  { d := d, src := s.layoutAt d.src, dst := s.layoutAt d.dst, sf := (fmtOf d.sfmt).getD .f32, df := (fmtOf d.dfmt).getD .f32 }

/-- The companions of a format (R613): COMP 2 for U formats, 1 or 2 for the other scaled ones. -/
def Layout.carries (l : Layout) (f : Fmt) : Bool :=
  if !f.scaled then true else if f.isU then l.comp = 2 else l.comp = 1 || l.comp = 2

/-- The checks of R241; `scales` for MINT_SCALES, which has no source. -/
def State.mintOk (s : State) (arg : Nat) (scales : Bool) : Bool :=
  let d := s.mintDescAt arg
  let o := s.mintOp arg
  (fmtOf d.sfmt).isSome && (fmtOf d.dfmt).isSome && pairMade o.sf o.df && !(d.scale = 0 && d.tensor = 0xFFF) && d.scale ≠ 3 &&
  !(d.scale = 2 && d.fixedE = 0xFF) && (scales || o.src.carries o.sf) && o.dst.carries o.df && !d.reserved

/-- Tracker index, within TENSOR, of tuple `t`: for weights each scale block has its own, else each group of 32 along RDIM
(Trackers, 05_mint_and_scale.md). -/
def MintOp.tracker (o : MintOp) (cls : Nat) (t : List Nat) : Nat :=
  o.d.group + (if cls = 0 then o.dst.blockOf t else t.getD o.dst.rdim 0 / 32)

/-! ### Reading -/

/-- An element as a mint unit has read it. -/
structure MintElem where
  tuple : List Nat
  /-- `none` for a pad tuple. -/
  code : Option Nat := none
  E : Nat := 127
  z : Nat := 0
  poison : Bool := false

/-- The elements of a mint operation, read in ascending linear index. -/
structure MintRead where
  s : State
  elems : List MintElem := []
  /-- Companions read so far, by source block. -/
  comps : List (Nat × Comp) := []
  halted : Bool := false

/-- Companions of a source block, read once. -/
def MintRead.comp (r : MintRead) (w : Who) (o : MintOp) (k : Nat) : Option Comp × MintRead :=
  if !o.sf.scaled then (some {}, r)
  else match tget r.comps k with
    | some c => (some c, r)
    | none =>
      let x := r.s.companion w o.src k
      match x.1 with
      | none => (none, { r with s := x.2, halted := true })
      | some c => (some c, { r with s := x.2, comps := tput r.comps k c })

/-- Read tuple `i`. A pad tuple is not read (R385). Poison of a companion poisons the elements of its block (R367). -/
def MintRead.tuple (r : MintRead) (w : Who) (o : MintOp) (i : Nat) : MintRead :=
  if r.halted then r
  else
    let t := o.dst.tuple i
    let c := r.comp w o (o.src.blockOf t)
    match c.1 with
    | none => c.2
    | some ez =>
      if !o.dst.isValid t then { c.2 with elems := { tuple := t, E := ez.E, z := ez.z, poison := ez.poison } :: c.2.elems }
      else
        let x := c.2.s.elem w o.src (o.src.elem t)
        match x.1 with
        | none => { c.2 with s := x.2, halted := true }
        | some e =>
          { c.2 with
            s := x.2
            elems := { tuple := t, code := some e.1, E := ez.E, z := ez.z, poison := e.2 || ez.poison } :: c.2.elems }

/-- Read the whole source; the elements come in ascending linear index. -/
def State.mintRead (s : State) (w : Who) (o : MintOp) : MintRead :=
  let r := (List.range o.dst.count).foldl (fun (r : MintRead) i => r.tuple w o i) { s := s }
  { r with elems := r.elems.reverse }

/-- Exact value of an element; a forward load decodes a block whose scale byte is 0xFF as 0 (R138). -/
def MintOp.value (o : MintOp) (forward : Bool) (e : MintElem) : Val :=
  match e.code with
  | none => .zero
  | some c => if forward && o.sf.scaled && e.E = 0xFF then .zero else decodeElem o.sf c e.E e.z

/-! ### Scales of the destination -/

/-- The elements by destination scale block, ascending. -/
def MintOp.byBlock (o : MintOp) (es : List MintElem) : List (Nat × List MintElem) :=
  es.foldl (fun t e => tmod t (o.dst.blockOf e.tuple) [] (fun l => l ++ [e])) []

/-- The scale and zero point of a source block, as SCALE 1 takes them: the scale never above 254 (R137), the zero point as the source
format reads its byte (R140). -/
def MintOp.sourceScale (o : MintOp) (e : MintElem) : Nat × Nat :=
  if o.sf.scaled then (min 254 e.E, o.df.zeroBits (o.sf.zeroBits e.z)) else (127, 0)

/-- Scale and zero point of a destination block (SCALE of Table 5.5). In a warm-up step SCALE 0 gives way to block-exact scales,
but for a load of weights, which are used as loaded (R258). -/
def State.mintScale (s : State) (o : MintOp) (isStore forward : Bool) (es : List MintElem) : Nat × Nat :=
  if !o.df.scaled then (127, 0)
  else
    let e0 := es.headD { tuple := [] }
    match o.d.scale with
    | 0 =>
      if s.dev.exactOut o.d.tensor then
        (if !isStore && (s.dev.tensor o.d.tensor).cls = 0 && o.sf.scaled then o.sourceScale e0
        else exactScale o.df (s.dev.headroom o.d.tensor) ((es.filter (fun e => e.code.isSome)).map (o.value forward)))
      else s.trkMint o.df o.d.tensor (o.tracker (s.dev.tensor o.d.tensor).cls e0.tuple)
    | 1 => o.sourceScale e0
    | _ => (o.d.fixedE, 0)

/-- The tracker index that a destination block generates: SCALE 0 into a scaled format reads the tracker, and a store into a
tracked tensor keeps its statistics (R241). -/
def State.mintIndex (s : State) (o : MintOp) (isStore : Bool) (es : List MintElem) : Option Nat :=
  let t := s.dev.tensor o.d.tensor
  if o.d.tensor ≠ 0xFFF && ((o.df.scaled && o.d.scale = 0 && !s.dev.exactOut o.d.tensor) || (isStore && t.tracked)) then
    some (o.tracker t.cls (es.headD { tuple := [] }).tuple)
  else none

/-! ### Encoding and writing -/

/-- An element as it is written. -/
structure MintOut where
  elem : MintElem
  code : Nat
  tally : Tally := {}
  value : Val
  stored : Val

/-- The bits of an element are copied: class C of Table 3.10 under equal scale and zero point, E taken as 127 for an unscaled
format and z in its low bits (R140, R173). A block whose scale byte is 0xFF has no scale to be equal to (R137, R138). -/
def MintOp.copies (o : MintOp) (E z : Nat) (e : MintElem) : Bool :=
  decide (o.sf.base = o.df.base) && decide (e.E = (if o.df.scaled then E else 127)) && decide (o.sf.zeroBits e.z = o.df.zeroBits z)

/-- Codes that a finisher has minted, and its store path counted: a MINT_STORE from forward tile SRAM with SFMT equal to DFMT and SCALE 1
(R217; DEDUCED, log entry 188). -/
def State.finished (s : State) (o : MintOp) : Bool :=
  decide (o.sf = o.df) && decide (o.d.scale = 1) && decide ((s.dev.alloc o.src.alloc).loc = 2)

/-- Encode an element. A copy keeps the code's bits and counts nothing. -/
def MintOp.encode (o : MintOp) (forward : Bool) (E z : Nat) (e : MintElem) : MintOut :=
  let v := o.value forward e
  match e.code with
  | none => { elem := e, code := (encodeElem o.df .zero E z).code, value := v, stored := .zero }
  | some c =>
    if o.copies E z e then { elem := e, code := o.df.codeBits c, value := v, stored := decodeElem o.df c E z }
    else
      let x := encodeElem o.df v E z
      let bad := forward && o.sf.scaled && e.E = 0xFF
      { elem := e, code := x.code, value := v, stored := decodeElem o.df x.code E z
        tally := if bad then { nonfin := 1 } else ({} : Tally).add x }

/-- An encoded destination block. -/
structure MintBlock where
  block : Nat
  E : Nat
  z : Nat
  outs : List MintOut
  deriving Inhabited

/-- Sum of tallies. -/
def sumTally (l : List Tally) : Tally :=
  l.foldl (fun a t => { sat := a.sat + t.sat, zero := a.zero + t.zero, nonfin := a.nonfin + t.nonfin }) {}

/-- Weight sum S_cb of a block: the sum of its decoded weights (R191). -/
def MintBlock.weightSum (b : MintBlock) (f : Fmt) : Int :=
  b.outs.foldl (fun acc x => acc + (match f with
    | .s w => weightInt w x.code
    | _ => if x.code % 2 = 1 then 1 else -1)) 0

/-- MINT_LOAD of S8 weights into the SRAM of forward tiles forms nibble tiles (R144, Table 4.3). -/
def State.mintTiles (s : State) (o : MintOp) (isStore : Bool) : Bool :=
  !isStore && o.df = .s 8 && (s.dev.alloc o.dst.alloc).loc = 2

/-- Byte offsets of the high and the low nibble of S8 element `e`, and the nibble within the byte: from the layout's ORIGIN
each 4,096 elements are a weight tile, 2,048 bytes of high nibbles and then 2,048 of low ones (DESIGN CHOICE, log
entry 153). -/
def Layout.nibbleAt (l : Layout) (e : Nat) : Nat × Nat × Nat :=
  let base : Nat := if l.blocked then 0 else l.origin
  let k : Int := (l.bitPos e / 8 : Nat) - (base : Int)
  let r := (k % 4096).toNat
  let o := ((base : Int) + k / 4096 * 4096).toNat + r / 2
  (o, o + 2048, r % 2)

/-- Write nibble `x` at half `h` of byte `o` of an allocation. -/
def CopyRun.nibble (r : CopyRun) (w : Who) (a o h x : Nat) (poison : Bool) : CopyRun :=
  if r.halted then r
  else
    let y := r.s.storeAlloc w a o (leBytes 1 (putFld (r.s.peek a o 1) (4 * h) 4 x)) poison
    if y.1 then { r with s := y.2, ranges := (r.s.dev.translate (r.s.dev.alloc a) o, 1) :: r.ranges }
    else { r with s := y.2, halted := true }

/-- Write an S8 weight as its two nibbles; a void code is replaced by 0x00 (R144). -/
def CopyRun.putS8 (r : CopyRun) (w : Who) (l : Layout) (e code : Nat) (poison : Bool) : CopyRun :=
  let c := if code = 0x80 then 0 else code
  let p := l.nibbleAt e
  (r.nibble w l.alloc p.1 p.2.2 (c / 16) poison).nibble w l.alloc p.2.1 p.2.2 (c % 16) poison

/-- Write an element of an encoded block, and note it as written. A pad element that yields is left out (R393). -/
def CopyRun.mintElem (r : CopyRun × List MintOut) (w : Who) (o : MintOp) (tiles : Bool) (x : MintOut) : CopyRun × List MintOut :=
  if r.1.halted then r
  else
    let e := o.dst.elem x.elem.tuple
    if x.elem.code.isNone && r.1.s.dev.yields o.d.dst o.dst e then ({ r.1 with skipped := r.1.skipped + 1 }, r.2)
    else
      let y := if tiles then r.1.putS8 w o.dst e x.code x.elem.poison else r.1.put w o.dst e x.code x.elem.poison
      if y.halted then (y, r.2) else ({ y with moved := y.moved + 1 }, r.2 ++ [x])

/-- Write an encoded block: elements, then its companions, or under WSUM the scale byte with its weight sum (R191; three bytes
a block from CBASE, DESIGN CHOICE, log entry 26). Answers the elements written too. -/
def CopyRun.block (r : CopyRun) (w : Who) (o : MintOp) (tiles : Bool) (b : MintBlock) : CopyRun × List MintOut :=
  let r1 := b.outs.foldl (fun r x => CopyRun.mintElem r w o tiles x) ({ r with moved := 0 }, [])
  if r1.1.halted || r1.1.moved = 0 || o.dst.comp = 0 || !o.df.scaled then r1
  else
    let bad := b.outs.any (fun x => x.elem.poison)
    let x := if o.d.wsum then
        r1.1.s.storeAlloc w o.dst.calloc (o.dst.cbase + 3 * b.block) (leBytes 1 b.E ++ leBytes 2 (wrap 16 (b.weightSum o.df))) bad
      else r1.1.s.setCompanion w o.dst b.block b.E b.z bad
    (if x.1 then { r1.1 with s := x.2 } else { r1.1 with s := x.2, halted := true }, r1.2)

/-- Count the conversions of a stored block into its tracked block or tensor (Table 5.4, R231), and its elements, as written,
into the tensor's histogram (R174). What a finisher has minted and is copied adds to neither (R217). -/
def State.countStored (s : State) (k : Nat) (o : MintOp) (b : MintBlock) : State :=
  let n := sumTally (b.outs.map MintOut.tally)
  let d1 := s.dev.countMint k n 0 0
  if o.d.tensor = 0xFFF then { s with dev := d1 }
  else
    let t := s.dev.tensor o.d.tensor
    let made := b.outs.filter (fun x => !(s.finished o && o.copies b.E b.z x.elem))
    let d2 := d1.addHist o.d.tensor (made.foldl (fun (h : Hist) x => h.add x.stored) {})
    let vs := (made.filter (fun x => x.elem.code.isSome)).map MintOut.value
    if t.tracked then
      (if made.isEmpty then { s with dev := d2 }
      else
        let i := o.tracker t.cls ((b.outs.map (fun x => x.elem.tuple)).headD [])
        ({ s with dev := d2 } : State).countBlock (Who.stack k 0) o.d.tensor i t.cls n (maxNat (vs.map (statHi o.df)))
          (if o.df.isU then maxNat (vs.map statLo) else 0))
    else { s with dev := d2.countPlain o.d.tensor n }

/-- Count what a MINT_LOAD met: its conversions in MNT only (R237), void weight codes in the tensor as well (R143). -/
def Dev.countLoaded (d : Dev) (k : Nat) (o : MintOp) (bs : List MintBlock) : Dev :=
  let n := sumTally (bs.flatMap (fun b => b.outs.map MintOut.tally))
  let void := sumNat (bs.map (fun b => (b.outs.filter (fun x => match x.elem.code with
    | none => false
    | some c => isVoid o.sf c && decide (x.elem.E ≠ 0xFF))).length))
  (d.countMint k n void 0).tallyTensor o.d.tensor {} void 0

/-- A mint operation under way: the copy, and the blocks written so far with their elements. -/
structure MintRun where
  c : CopyRun
  done : List MintBlock := []

/-- One destination block: its tracker is read by the mint unit (R616), and a tracker index beyond the tensor's directory entry
raises 0x4031 and ends the operation (R241). -/
def MintRun.block (r : MintRun) (k : Nat) (o : MintOp) (isStore forward tiles : Bool) (p : Nat × List MintElem) : MintRun :=
  if r.c.halted then r
  else
    let w := Who.stack k 0
    let t := o.d.tensor
    let write := fun (s : State) =>
      let ez := s.mintScale o isStore forward p.2
      let x := CopyRun.block { r.c with s := s } w o tiles { block := p.1, E := ez.1, z := ez.2, outs := p.2.map (o.encode forward ez.1 ez.2) }
      ({ c := x.1, done := r.done ++ [{ block := p.1, E := ez.1, z := ez.2, outs := x.2 }] } : MintRun)
    match r.c.s.mintIndex o isStore p.2 with
    | none => write r.c.s
    | some i =>
      if r.c.s.trkBeyond t i then
        { r with c := { r.c with s := { r.c.s with dev := r.c.s.dev.raise 0x4031 w.unit t i }, halted := true } }
      else write (r.c.s.trkRead w t i)

/-- A copy of a mint unit, without records. `isStore` for MINT_STORE. -/
def State.mintCopy (s : State) (k : Nat) (o : MintOp) (isStore : Bool) : State :=
  let r := s.mintRead (Who.stack k 0) o
  if r.halted then r.s
  else
    let forward := !isStore && (s.dev.alloc o.dst.alloc).loc = 2
    let x := (o.byBlock r.elems).foldl (fun (m : MintRun) p => m.block k o isStore forward (s.mintTiles o isStore) p) { c := { s := r.s } }
    let s1 := { x.c.s with dev := x.c.s.dev.countLay k 0 0 x.c.skipped 0 }
    let s2 := if isStore then x.done.foldl (fun (u : State) b => u.countStored k o b) s1
      else { s1 with dev := s1.dev.countLoaded k o x.done }
    s.settleRace s2 (mintEngine k) x.c.ranges

/-- MINT_LOAD (R239). -/
def State.mintLoad (s : State) (k arg : Nat) : State := s.mintCopy k (s.mintOp arg) false

/-! ### Statistics records (R252) -/

/-- A record of Table 5.9. -/
structure StatRec where
  hi : Nat
  lo : Nat
  sat : Nat
  zero : Nat
  nonfin : Nat
  rerun : Nat
  flags : Nat

def statRec (b : List Byte) : StatRec :=
  let n := fun (o k : Nat) => leNat ((b.drop o).take k)
  { hi := n 0 4, lo := n 4 4, sat := n 8 2, zero := n 10 2, nonfin := n 12 2, rerun := n 14 1, flags := n 15 1 }

/-- Merge a record into tracker `i` of a tensor (R234 to R236, R616). -/
def State.mergeRecord (s : State) (w : Who) (t i : Nat) (r : StatRec) : State :=
  if t = 0xFFF then s
  else
    let n : Tally := { sat := r.sat, zero := r.zero, nonfin := r.nonfin }
    let e := s.dev.tensor t
    let s1 := { s with dev := (s.dev.tallyTensor t n 0 r.rerun).flagNonfin r.nonfin }
    if e.tracked then
      let ovf := r.flags.testBit 0
      let lo := match fmtOf e.fmt with
        | some f => if f.isU then r.lo else 0
        | none => 0
      let s2 := s1.mergeTracked w t i { hi := r.hi, lo := lo, sat := r.sat, zero := r.zero, ovf := ovf, rerun := decide (0 < r.rerun) }
      if ovf then { s2 with dev := s2.dev.flagBlock e.cls w.unit t } else s2
    else s1

/-- Offset in CALLOC of the source's record `j`: the records follow the companions (DEDUCED, log entry 27). -/
def Layout.recordOff (l : Layout) (j : Nat) : Nat := l.cbase + l.comp * l.blocks + 16 * j

/-- Merge record `j`, valid and not of a replay, into tracker GROUP + j, and clear its VALID; `false` when an access is refused
or the tracker index lies beyond the directory entry, which ends the operation. -/
def State.mintRecord (s : State) (k : Nat) (o : MintOp) (j : Nat) : Bool × State :=
  let w := Who.stack k 0
  let off := o.src.recordOff j
  let x := s.loadAlloc w o.src.calloc off 16
  match x.1 with
  | none => (false, x.2)
  | some b =>
    let r := statRec b.1
    if !r.flags.testBit 7 || r.flags.testBit 1 then (true, x.2)
    else
      let i := o.d.group + j
      if o.d.tensor ≠ 0xFFF && x.2.trkBeyond o.d.tensor i then
        (false, { x.2 with dev := x.2.dev.raise 0x4031 w.unit o.d.tensor i })
      else (x.2.mergeRecord w o.d.tensor i r).storeAlloc w o.src.calloc (off + 15) (leBytes 1 (r.flags % 128))

/-- MINT_STORE (R239): the copy, then its records under STATS. -/
def State.mintStore (s : State) (k arg : Nat) : State :=
  let o := s.mintOp arg
  let s1 := s.mintCopy k o true
  if o.d.stats && decide (o.src.comp ≠ 0) then
    ((List.range (ceilDiv (o.src.ext.getD o.src.rdim 1) 32)).foldl (fun (t : Bool × State) j =>
      if t.1 then t.2.mintRecord k o j else t) (true, s1)).2
  else s1

/-- Trackers that a MINT_SCALES delivers. -/
def MintOp.scaleCount (o : MintOp) : Nat := if o.dst.comp = 0 then o.dst.count / 2 else o.dst.blocks

/-- MINT_SCALES (R239): current E and z of the trackers GROUP, GROUP + 1, … to the destination's companions, or as bytes E, z
in turn to its elements where it has none, as its unscaled DFMT then allows (R613; DEDUCED, log entry 28). -/
def State.mintScales (s : State) (k arg : Nat) : State :=
  let o := s.mintOp arg
  let w := Who.stack k 0
  let f := (fmtOf (s.dev.tensor o.d.tensor).fmt).getD .f32
  let r := (List.range o.scaleCount).foldl (fun (r : CopyRun) j =>
    if r.halted then r
    else
      let i := o.d.group + j
      if r.s.trkBeyond o.d.tensor i then
        { r with s := { r.s with dev := r.s.dev.raise 0x4031 (25 + k) o.d.tensor i }, halted := true }
      else
        let ez := r.s.trkMint f o.d.tensor i
        let r := { r with s := r.s.trkRead w o.d.tensor i }
        if o.dst.comp = 0 then
          let r1 := r.put w o.dst (o.dst.elem (o.dst.tuple (2 * j))) ez.1 false
          if r1.halted then r1 else r1.put w o.dst (o.dst.elem (o.dst.tuple (2 * j + 1))) ez.2 false
        else
          let x := r.s.setCompanion w o.dst j ez.1 ez.2
          { r with s := x.2, halted := !x.1 }) { s := s }
  s.settleRace r.s (mintEngine k) r.ranges

/-- Granules of the tracker entries that a MINT_SCALES reads, 32 bytes each. -/
def State.scaleGranules (s : State) (o : MintOp) : Nat :=
  let first := match s.trkDir o.d.tensor with
    | some e => e.first
    | none => 0
  (granulesOf (s.trkEntryOff s.dev.mnt.bank (first + o.d.group)) (32 * o.scaleCount)).length

/-- Granules of `n` bytes from an offset. -/
def granuleCount (o n : Nat) : Nat := (granulesOf o n).length

/-- Tracker entries that a load or store of a mint unit meets: one for each destination block of weights, else one for each group of 32
along RDIM. -/
def State.mintTrackers (s : State) (o : MintOp) : Nat :=
  if (s.dev.tensor o.d.tensor).cls = 0 then o.dst.blocks else ceilDiv (o.dst.ext.getD o.dst.rdim 1) 32

/-- Granules of those tracker entries. -/
def State.trackerGranules (s : State) (o : MintOp) : Nat := match s.trkDir o.d.tensor with
  | none => 0
  | some e => granuleCount (s.trkEntryOff s.dev.mnt.bank (e.first + o.d.group)) (32 * s.mintTrackers o)

/-- Granules of the statistics records that a MINT_STORE with STATS merges. -/
def MintOp.recordGranules (o : MintOp) : Nat :=
  if o.d.stats && decide (o.src.comp ≠ 0) then granuleCount (o.src.recordOff 0) (16 * ceilDiv (o.src.ext.getD o.src.rdim 1) 32) else 0

/-- Granules that a load or store reads: elements, companions, records, and the trackers of SCALE 0. -/
def State.mintReads (s : State) (o : MintOp) (isStore : Bool) : Nat :=
  o.src.granules (fun i => o.dst.isValid (o.dst.tuple i)) +
  (if o.sf.scaled then granuleCount o.src.cbase (o.src.comp * o.src.blocks) else 0) +
  (if isStore then o.recordGranules else 0) +
  (if o.df.scaled && decide (o.d.scale = 0) && !s.dev.exactOut o.d.tensor then s.trackerGranules o else 0)

/-- Granules that it writes: elements, companions or scale bytes with weight sums, and for a store the records' VALID bits and the
statistics of its trackers. -/
def State.mintWrites (s : State) (o : MintOp) (isStore : Bool) : Nat :=
  o.dst.granules (fun _ => true) +
  (if o.df.scaled && decide (o.dst.comp ≠ 0) then granuleCount o.dst.cbase ((if o.d.wsum then 3 else o.dst.comp) * o.dst.blocks) else 0) +
  (if isStore then o.recordGranules + s.trackerGranules o else 0)

/-- Cost of a mint operation: the larger of the granules read and written (R242), of everything that it moves. MINT_SCALES reads tracker
entries and writes elements or companions. -/
def State.mintCost (s : State) (arg op : Nat) : Nat :=
  let o := s.mintOp arg
  let g := if op = 4 then max (s.scaleGranules o)
      (if o.dst.comp = 0 then o.dst.granules (fun _ => true) else granuleCount o.dst.cbase (o.dst.comp * o.dst.blocks))
    else max (s.mintReads o (op = 3)) (s.mintWrites o (op = 3))
  32 + ceilDiv g (if op = 4 then 16 else s.dev.dmaRate o.src o.dst)

/-! ### Step start (R256 to R258) -/

/-- Take the table's state for the step that begins: cold trackers make it a warm-up step. What settlement has counted since
the last capture waits for the next one (DEDUCED, log entry 79). -/
def State.mintBegin (s : State) : State :=
  let cold := s.trkCold
  let bank := if s.trkListed then s.trkHdr.bank else 0
  let s0 := s.trkAudit
  let d1 := { s0.dev with mnt := { s0.dev.mnt with
    bank := bank, warmup := cold, tensors := [], blocks := [], layers := [], flags := { cold := cold }, counts := []
    raised4010 := false, raised4011 := false } }
  let d2 := d1.setReg .mntStatus (b2n cold + 2 * b2n cold + 2 ^ 8 * bank)
  { s0 with dev := if cold then d2.raise 0x4001 24 0 0 else d2 }

/-! ### Updates when clearing completes (R232, R233, R250 to R255, R259) -/

/-- RNE_F32(m + (b − m) × 2^−k) on F32 codes (R232). -/
def emaF32 (m b k : Nat) : Nat :=
  let vm := f32Val m
  toF32 (vm.add (((f32Val b).add vm.neg).scale (-(k : Int))))

/-- 2 × m, saturating (R233). -/
def doubleF32 (m : Nat) : Nat := toF32 ((f32Val m).scale 1)

/-- The tracker entry after an update with the block's statistics (R232, R233). -/
def TrkEntry.update (e : TrkEntry) (f : Fmt) (k h : Nat) (b : BlockStats) (stamp : Nat) : TrkEntry :=
  let stats := { e with bhi := b.hi, blo := b.lo, ovf := false, rerun := b.rerun, stamp := stamp % 256, sat := b.sat, zero := b.zero }
  if b.ovf then
    let E := min 254 (e.E + 1)
    let lo := doubleF32 e.mlo
    { stats with mhi := doubleF32 e.mhi, mlo := lo, E := E, z := if f.isU && decide (0 < lo) then zeroPoint f lo h E else 0 }
  else
    let hi := emaF32 e.mhi b.hi k
    let lo := emaF32 e.mlo b.lo k
    let ez := scaleRule f hi lo h (min 254 e.E)
    { stats with mhi := hi, mlo := lo, E := ez.1, z := ez.2 }

/-- The seed of a tracker in a warm-up step (R259); `emax` is the tensor's EMAX, when it wrote a finite non-zero value. -/
def seedEntry (f : Fmt) (h : Nat) (b : BlockStats) (emax : Option Int) (stamp : Nat) : TrkEntry :=
  let mh : Nat × Nat := if 0 < b.hi then (b.hi, b.lo) else match emax with
    | some e => (toF32 (.fin 1 (e + 1)), 0)
    | none => (0, 0)
  let ez := scaleRule f mh.1 mh.2 h 127
  { mhi := mh.1, mlo := mh.2, bhi := b.hi, blo := b.lo, E := ez.1, z := ez.2, stamp := stamp % 256, sat := b.sat, zero := b.zero }

/-- EMAX of a tensor's histogram of the step. -/
def Dev.tensorEmax (d : Dev) (t : Nat) : Option Int :=
  let h := (tgetD d.mnt.tensors t {}).hist
  if h.emax = -32768 then none else some h.emax

/-- Write a tracker entry into a bank. -/
def State.putTrk (s : State) (w : Who) (bank i : Nat) (e : TrkEntry) : State := s.trkPut w (s.trkEntryOff bank i) e.bytes

/-- Entry `i` of tensor `t` in the next bank, as clearing leaves it: updated for classes 1 and 2; for class 0 carried over, with the
statistics of the step (R234), until the settlement mint updates it. -/
def State.nextEntry (s : State) (t : Nat) (e : TrkDir) (i stamp : Nat) : TrkEntry :=
  let old := s.trkEntry s.dev.mnt.bank (e.first + i)
  let x := s.dev.tensor t
  let f := (fmtOf x.fmt).getD .f32
  let b := tgetD s.dev.mnt.blocks (blockKey t i) {}
  if x.cls = 0 then
    { old with E := min 254 old.E, bhi := b.hi, blo := b.lo, ovf := b.ovf, rerun := b.rerun, stamp := stamp % 256, sat := b.sat, zero := b.zero }
  else if s.dev.mnt.warmup then seedEntry f x.head b (s.dev.tensorEmax t) stamp
  else old.update f x.trackK x.head b stamp

/-- Update the trackers of every tracked tensor into the next bank (R250, R251). -/
def State.updateTrackers (s : State) (stamp : Nat) : State :=
  let nb := 1 - s.dev.mnt.bank
  s.dev.trackedTensors.foldl (fun (u : State) t => match s.trkDir t with
    | none => u
    | some e => (List.range e.size).foldl (fun (v : State) i => v.putTrk .control nb (e.first + i) (s.nextEntry t e i stamp)) u) s

/-- SILENT of a layer after the step (R254). -/
def Dev.silentNext (d : Dev) (i old : Nat) : Nat :=
  let l := tgetD d.mnt.layers i {}
  if !(d.layer i).nobwd && decide (0 < l.gzero) && decide (l.glive = 0) then satAdd 16 old 1 else 0

/-- Layer records of the next bank (Table 5.13). -/
def State.updateLayers (s : State) : State :=
  let nb := 1 - s.dev.mnt.bank
  (List.range s.trkLayers).foldl (fun (u : State) i =>
    let l := tgetD s.dev.mnt.layers i {}
    let old := s.trk (s.trkLayerOff s.dev.mnt.bank i + 16) 2
    u.trkPut .control (s.trkLayerOff nb i)
      (l.census.flatMap (leBytes 2) ++ leBytes 2 (s.dev.silentNext i old) ++ leBytes 2 0 ++ leBytes 4 l.clip ++
        leBytes 4 l.gzero ++ leBytes 4 l.glive)) s

/-- Layers whose alarm is raised (R255). -/
def State.silentAlarms (s : State) : List Nat :=
  (List.range s.trkLayers).filter (fun i =>
    let old := s.trk (s.trkLayerOff s.dev.mnt.bank i + 16) 2
    let thr := (s.dev.layer i).silent
    decide (old < thr) && decide (thr ≤ s.dev.silentNext i old))

/-- The 304-byte tally record of a tensor (R253). -/
def TensorStats.bytes (t : TensorStats) : List Byte :=
  leBytes 4 t.sat ++ leBytes 4 t.zero ++ leBytes 4 t.nonfin ++ leBytes 4 t.void ++ leBytes 4 t.rerun ++ leBytes 12 0 ++
  t.hist.bytes

/-- Offset of the tally record of a tensor. -/
def State.tallyOff (s : State) (t : Nat) : Nat := s.trkHdr.tallyOff + 304 * t

/-- Combine two summaries and histograms (R249). -/
def TensorStats.merge (a b : TensorStats) : TensorStats :=
  { sat := satAdd 32 a.sat b.sat, zero := satAdd 32 a.zero b.zero, nonfin := satAdd 32 a.nonfin b.nonfin
    void := satAdd 32 a.void b.void, rerun := satAdd 32 a.rerun b.rerun, hist := a.hist.merge b.hist }

/-- The record of a tensor for the step whose clearing completes: the step's own counts, and what settlement has counted since
the last record (DEDUCED, log entry 79). -/
def Dev.tallyRecord (d : Dev) (t : Nat) : TensorStats := (tgetD d.mnt.tensors t {}).merge (tgetD d.mnt.carryTensors t {})

/-- Write the tally area (R253). -/
def State.writeTallies (s : State) : State :=
  (List.range s.dev.tensorCount).foldl (fun (u : State) t =>
    u.trkPut .control (s.tallyOff t) (s.dev.tallyRecord t).bytes) s

/-- MNT.FLAGS[7:0]. -/
def StepFlags.byte (f : StepFlags) : Nat :=
  b2n f.cold + 2 * b2n f.nonfin + 4 * b2n f.ovf + 8 * b2n f.gsat + 16 * b2n f.clip + 32 * b2n f.rdecl + 64 * b2n f.silent +
  128 * b2n f.ssat

/-- Sum of two counts of a stack's mint units. -/
def MintCount.add (a b : MintCount) : MintCount :=
  { sat := satAdd 32 a.sat b.sat, zero := satAdd 32 a.zero b.zero, nonfin := satAdd 32 a.nonfin b.nonfin
    void := satAdd 32 a.void b.void, rerun := satAdd 32 a.rerun b.rerun }

/-- Capture the MNT counters of every stack and the flags (R263). -/
def Dev.captureMnt (d : Dev) : Dev :=
  let d1 := (List.range 12).foldl (fun (x : Dev) k =>
    let c := (tgetD d.mnt.counts k {} : MintCount).add (tgetD d.mnt.carry k {})
    ((((x.setReg .mntSat c.sat k).setReg .mntZero c.zero k).setReg .mntNonfin c.nonfin k).setReg .mntVoid c.void k).setReg
      .mntRerun c.rerun k) d
  { d1 with mnt := { d1.mnt with carry := [], carryTensors := [] } }.setReg .mntFlags d.mnt.flags.byte

/-- Settlement counts conversions into a tensor's summary and histogram, and into the counters of its stack (R176, R235, R263):
they join the next record. -/
def Dev.tallySettled (d : Dev) (t k : Nat) (n : Tally) (rerun : Nat) (stored : List Val) : Dev :=
  let c : MintCount := { sat := n.sat, zero := n.zero, nonfin := n.nonfin, rerun := rerun }
  let d1 := { d with mnt := { d.mnt with carry := tmod d.mnt.carry k {} (fun x => x.add c) } }
  if t = 0xFFF then d1
  else
    let x : TensorStats := { sat := n.sat, zero := n.zero, nonfin := n.nonfin, rerun := rerun, hist := stored.foldl Hist.add {} }
    { d1 with mnt := { d1.mnt with carryTensors := tmod d1.mnt.carryTensors t {} (fun y => y.merge x) } }

/-- A flag of the step that settles: FLAGS shows the last step whose clearing completed, and settlement is that step's (R263). -/
def Dev.lateFlag (d : Dev) (bit : Nat) : Dev := d.setFld .mntFlags bit 1 1

/-- What completed clearing does to the tracker table and the MNT registers. -/
def State.mintClear (s : State) (stamp : Nat) : State :=
  let alarms := if s.trkListed then s.silentAlarms else []
  let d1 := match alarms with
    | [] => s.dev.setReg .mntSilent 0
    | i :: _ =>
      { s.dev with mnt := { s.dev.mnt with flags := { s.dev.mnt.flags with silent := true } } }.setReg .mntSilent
        (2 ^ 16 * alarms.length + i)
  let d2 := alarms.foldl (fun (d : Dev) i => d.raise 0x4020 24 i (d.layer i).silent) d1
  let s1 := ({ s with dev := d2 } : State).trkAudit
  let s2 := if s1.trkListed then ((s1.updateTrackers stamp).updateLayers).writeTallies else s1
  { s2 with dev := s2.dev.captureMnt }

/-- Make the next bank current for a committed or skipped step (R251, R259). -/
def State.flipBank (s : State) (step : Nat) : State :=
  if s.trkListed then
    let nb := 1 - s.trkHdr.bank
    let s1 := (s.trkPut .control 6 (leBytes 1 (2 * nb))).trkPut .control 8 (leBytes 8 step)
    { s1 with dev := { s1.dev with mnt := { s1.dev.mnt with bank := nb } }.setFld .mntStatus 8 1 nb }
  else s

/-- A skipped step leaves SILENT unchanged (R254): the next bank takes the counts of the current one. -/
def State.keepSilent (s : State) : State :=
  if s.trkListed then
    let b := s.trkHdr.bank
    (List.range s.trkLayers).foldl (fun (u : State) i =>
      u.trkPut .control (s.trkLayerOff (1 - b) i + 16) (leBytes 2 (s.trk (s.trkLayerOff b i + 16) 2))) s
  else s

end Sys2Proof.Machine
end

