-- ==== Sys2Proof/Machine/Streams.lean ====
section
/-! DEFINITION. Sending on streams: links and partners as senders see them, admission of messages (R37, R413, R420), flits and
the replay buffer (R407 to R416), and messages that have arrived for the engines. -/

namespace Sys2Proof.Machine

/-! ### Tables -/

/-- Entry of the partner table. -/
def Dev.partner (d : Dev) (i : Nat) : Partner := tgetD d.lnk.partners i {}

/-- State of a stream. -/
def Dev.streamState (d : Dev) (i : Nat) : StreamState := tgetD d.lnk.streams i {}

/-- Change a stream's state. -/
def Dev.modStream (d : Dev) (i : Nat) (f : StreamState → StreamState) : Dev :=
  { d with lnk := { d.lnk with streams := tmod d.lnk.streams i {} f } }

/-- Flits of a stream in its port's landing buffer (R441). -/
def StreamState.waiting (s : StreamState) : Nat :=
  sumNat (s.held.map Incoming.waiting) + (match s.partial_ with
    | some m => m.waiting
    | none => 0)

/-- The flits of the streams that satisfy `p` leave the landing buffers (Table 14.1). -/
def Dev.leaveLanding (d : Dev) (p : Nat → Bool) : Dev :=
  (d.lnk.streams.filter (fun (s : Nat × StreamState) => p s.1 && decide (0 < s.2.waiting))).foldl
    (fun (x : Dev) s => x.cntLeave (49 + (d.stream s.1).port) s.2.waiting) d

/-- Identity of a link. -/
def Link.is (l : Link) (port fp farPort : Nat) : Bool := decide (l.port = port ∧ l.fp = fp ∧ l.farPort = farPort)

/-- Change the link with an identity. -/
def Dev.modLink (d : Dev) (l : Link) (f : Link → Link) : Dev :=
  { d with lnk := { d.lnk with links := d.lnk.links.map (fun (x : Link) => if x.is l.port l.fp l.farPort then f x else x) } }

/-- The link that carries a partner's streams on a port: up, not foreign, the lowest far port (R419). -/
def Dev.linkOf (d : Dev) (port partner : Nat) : Option Link :=
  let p := d.partner partner
  if p.state = .present then
    d.lnk.links.find? (fun l => decide (l.port = port ∧ l.fp = p.fp) && l.up && !l.second && !l.foreign)
  else none

/-- The link of a stream. -/
def Dev.streamLink (d : Dev) (i : Nat) : Option Link := let e := d.stream i; d.linkOf e.port e.partner

/-- Endpoint number of the exchange die of a port. -/
def linkUnit (port : Nat) : Nat := 20 + port / 3

/-- WHERE of a link fault. -/
def linkWhere (port lane : Nat) : Nat := 16 * port + lane % 8

/-- A link among those that notices are counted by: its port, far port and partner. -/
def Link.key (l : Link) : Nat := 256 + l.port + 16 * (l.farPort % 16) + 1024 * l.fp

/-- Raise a notice of the link block, at most once per link and frame (R445); `on` is the link that it concerns, where there is one. -/
def Dev.linkNotice (d : Dev) (code port lane detail : Nat) (on : Option Link := none) : Dev :=
  let key := (code, match on with
    | some l => l.key
    | none => linkWhere port lane)
  if d.lnk.raised.contains key then d
  else { d with lnk := { d.lnk with raised := key :: d.lnk.raised } }.raise code (linkUnit port) (linkWhere port lane) detail

/-! ### Capacity (R410 to R412) -/

/-- K: codewords per lane in a frame. -/
def codewords (frameLen : Nat) : Nat := frameLen * 7 / 204

/-- Link reserve of a link of `k` lanes, in flit slots. -/
def linkReserve (k frameLen : Nat) : Nat := ceilDiv (k * (codewords frameLen - 1)) 16

/-- Payload capacity of a link of `k` lanes in a frame. -/
def linkCapacity (k frameLen : Nat) : Nat := 624 * k * (codewords frameLen - 1)

/-- Flits of a message (R411). -/
def msgFlits (n : Nat) : Nat := ceilDiv n 624

/-- Cycles that `f` flits take on a link of `k` lanes (R413). -/
def linkCost (f k : Nat) : Nat := ceilDiv (f * 204) (7 * max 1 k)

/-- The limit of R413. -/
def Dev.sendLimit (d : Dev) (i : Nat) : Nat := if (d.stream i).d = 1 then d.plannable - 1536 else d.plannable

/-! ### Admission -/

/-- The link block's own checks of a message of `n` bytes on stream `i` at cycle `t`: the link (R420, 0x7015) and its committed end (R413,
0x7014). Class 3 is not charged against the committed end. -/
def Dev.sendLinkFault (d : Dev) (i n t : Nat) : Option Nat :=
  match d.streamLink i with
  | none => some 0x7015
  | some l =>
    if (d.stream i).cls ≠ 3 ∧ d.sendLimit i < max t l.committed + linkCost (msgFlits n) l.lanes.length then some 0x7014 else none

/-- The admission of Table 1.2: alignment (R82, 0x1007) and the budget (R37, 0x1003). -/
def Dev.sendAdmFault (d : Dev) (i n : Nat) : Option Nat :=
  if !d.frm.aligned then some 0x1007
  else if (d.stream i).budget < (d.streamState i).charged + 624 * msgFlits n then some 0x1003
  else none

/-- The fault with which a message is refused: the link block's checks, then the admission of Table 1.2 (R614; DEDUCED, log entry 29). -/
def Dev.sendFault (d : Dev) (i n t : Nat) : Option Nat := (d.sendLinkFault i n t).orElse fun _ => d.sendAdmFault i n

/-- Charge an admitted message. -/
def Dev.chargeSend (d : Dev) (i n t : Nat) : Dev :=
  let f := msgFlits n
  let d1 := d.modStream i (fun s => { s with charged := s.charged + 624 * f })
  if (d.stream i).cls = 3 then d1
  else match d.streamLink i with
    | none => d1
    | some l => d1.modLink l (fun x => { x with committed := max t x.committed + linkCost f x.lanes.length })

/-! ### Flits -/

/-- A data flit's header (Table 9.3), without ACK fields. -/
def dataHeader (stream fseq frame mseq index len : Nat) (last : Bool) : Nat :=
  1 + 2 ^ 4 * (stream % 4096) + 2 ^ 16 * (fseq % 65536) + 2 ^ 48 * (frame % 256) + 2 ^ 56 * (mseq % 256) +
    2 ^ 64 * (index % 65536) + 2 ^ 80 * (len % 1024) + 2 ^ 90 * b2n last

/-- The 640 bytes of a flit (R407): header, payload with what the spec leaves open behind it, and CRC-32C. -/
def wireFlit (hdr : Nat) (payload : List Byte) : List Byte :=
  let body := leBytes 12 hdr ++ payload ++ (List.range (624 - payload.length)).map (Config.flitPad hdr)
  body ++ leBytes 4 (crc32c body)

/-- ACK and NACK of the flits that a link sends (R408, R414). -/
def Link.ackBits (l : Link) : Nat := 2 ^ 32 * l.rxSeq + 2 ^ 91 * b2n l.nack

/-- An idle flit that carries the link's ACK. -/
def Link.idle (l : Link) : Out := .ack l.port (wireFlit l.ackBits [])

/-- The flits of a message in order, from sequence number `seq`. -/
def messageFlits (remote seq frame mseq : Nat) (bytes : List Byte) (ofRun : Bool) (cls deadline : Nat) : List (Nat × Flit) :=
  let cs := chunks 624 bytes
  (List.zip (List.range cs.length) cs).map (fun (p : Nat × List Byte) =>
    ((seq + p.1) % 65536,
      { hdr := dataHeader remote (seq + p.1) frame mseq p.1 p.2.length (decide (p.1 + 1 = cs.length))
        payload := p.2, sends := 0, ofRun := ofRun, cls := cls, deadline := deadline }))

/-- Flit slots of a frame that first sends on a link may take outside its reserve: 15/16 of its capacity (R412). -/
def firstSlots (k frameLen : Nat) : Nat := k * (codewords frameLen - 1) - linkReserve k frameLen

/-- The first send of a flit in frame `n`: the link charged with it, or `none` where it is not sent. An admitted message is sent in its
admission frame (R38); what lies beyond the link's slots there, and what is left over from an earlier frame before its deadline, travels
as retries within the reserve (R420; DEDUCED, log entry 178). Class 3 traffic has its own charge (R40). -/
def Link.chargeFirst (l : Link) (f : Flit) (n len : Nat) : Option Link :=
  let k := l.lanes.length
  let now := decide (nfld f.hdr 48 8 = n % 256)
  if f.cls = 3 then
    (if now then some l
    else if !tickDue f.deadline n && decide (l.retries + l.snap < linkReserve k len) then some { l with snap := l.snap + 1 } else none)
  else if now && decide (l.sent < firstSlots k len) then some { l with sent := l.sent + 1 }
  else if !tickDue f.deadline n && decide (l.retries < linkReserve k len) then some { l with retries := l.retries + 1 }
  else none

/-- A link as it launches: what goes out, the replay buffer's flits that it has passed, and the first flit that its reserve cannot carry. -/
structure Launching where
  link : Link
  out : List Out := []
  passed : List (Nat × Flit) := []
  spent : Option Flit := none

/-- Pass one flit of the replay buffer. -/
def Launching.pass (x : Launching) (f : Nat × Flit) (n len : Nat) : Launching :=
  if f.2.sends ≠ 0 then { x with passed := x.passed ++ [f] }
  else match x.link.chargeFirst f.2 n len with
    | some l => { x with
        link := l, out := x.out ++ [Out.flit l.port (wireFlit (f.2.hdr + l.ackBits) f.2.payload)]
        passed := x.passed ++ [(f.1, { f.2 with sends := 1 })] }
    | none => { x with
        passed := x.passed ++ [f]
        spent := if x.spent.isNone && decide (f.2.cls ≠ 3) && !tickDue f.2.deadline n then some f.2 else x.spent }

/-- Launch what has not been sent and lies within the first 1,024 flits of the replay buffer (R415, R416). -/
def Link.launch (l : Link) (n len : Nat) : Launching :=
  let x := (l.replay.take 1024).foldl (fun (x : Launching) f => x.pass f n len) { link := l }
  { x with link := { x.link with replay := x.passed ++ l.replay.drop 1024 } }

/-- A message is cancelled: its flits leave the replay buffer (R46), and their sequence numbers are not used again (DESIGN CHOICE, log
entry 163). -/
def Dev.cancelMessage (d : Dev) (l : Link) (hdr : Nat) : Dev :=
  let mine := fun (f : Nat × Flit) => decide (nfld f.2.hdr 4 12 = nfld hdr 4 12 ∧ nfld f.2.hdr 48 16 = nfld hdr 48 16)
  match d.lnk.links.find? (fun (x : Link) => x.is l.port l.fp l.farPort) with
  | none => d
  | some x =>
    (d.modLink x (fun y => { y with replay := y.replay.filter (fun f => !mine f) })).cntLeave (37 + x.port)
      (x.replay.filter (fun f => mine f && decide (f.2.sends = 0))).length

/-- A retry that its link's reserve cannot carry: an overrun (R39), but none for snapshot traffic, which waits (R40). Outside a run the
message is cancelled (R46). -/
def Dev.reserveSpent (d : Dev) (l : Link) (f : Flit) : Dev :=
  if f.cls = 3 then d
  else
    let d1 := d.raise 0x1010 (linkUnit l.port) (linkWhere l.port 0) 0
    if d.seq.run.isSome then d1 else d1.cancelMessage l f.hdr

/-- Launch on a link, keeping the send queue's count; a flit that the reserve cannot carry is an overrun (R39, R420). -/
def Dev.launch (d : Dev) (l : Link) : Dev :=
  match d.lnk.links.find? (fun (x : Link) => x.is l.port l.fp l.farPort) with
  | none => d
  | some x =>
    let r := x.launch d.frm.frame d.frameLen
    let d1 := (d.modLink x (fun _ => r.link)).cntLeave (37 + x.port) r.out.length
    let d2 : Dev := { d1 with out := r.out.reverse ++ d1.out }
    match r.spent with
    | none => d2
    | some f => d2.reserveSpent x f

/-- Send an admitted message on stream `i` in the current frame (R38, R439). Of what is sent while a run is active, classes 0 to 2 belong
to the run (DEDUCED, log entry 170). -/
def Dev.sendMessage (d : Dev) (i : Nat) (bytes : List Byte) : Dev :=
  match d.streamLink i with
  | none => d
  | some l =>
    let s := d.streamState i
    let fs := messageFlits (d.stream i).remote l.txSeq d.frm.frame s.send bytes (d.seq.run.isSome && decide ((d.stream i).cls ≤ 2)) (d.stream i).cls
      (frameAfter d.frm.frame (d.stream i).d)
    let d1 := (d.modStream i (fun x => { x with send := (x.send + 1) % 256 })).modLink l (fun x =>
      { x with txSeq := (x.txSeq + fs.length) % 65536, replay := x.replay ++ fs })
    ((d1.cntEnter (37 + l.port) fs.length).launch l).trace 5 (linkUnit l.port) i
      (i % 65536 + 2 ^ 16 + 2 ^ 24 * s.send + 2 ^ 32 * bytes.length + 2 ^ 64 * (d.frm.frame % 2 ^ 48))

/-- Trace a stream event (KIND 5 of Table 14.5). -/
def Dev.traceStream (d : Dev) (i event mseq bytes tag : Nat) : Dev :=
  d.trace 5 (linkUnit (d.stream i).port) i
    (i % 65536 + 2 ^ 16 * event + 2 ^ 24 * (mseq % 256) + 2 ^ 32 * (bytes % 2 ^ 32) + 2 ^ 64 * (tag % 2 ^ 48))

/-- Trace the admission of an item (KIND 4 of Table 14.5): 1 bundle copy, 2 host command, 3 stream message, 4 fill item; `fault` 0
when it is granted. -/
def Dev.traceAdmit (d : Dev) (unit wher item fault cost stop deadline : Nat) : Dev :=
  d.trace 4 unit wher (item + 2 ^ 8 * b2n (decide (fault ≠ 0)) + 2 ^ 16 * (fault % 65536) + 2 ^ 32 * (cost % 2 ^ 32) +
    2 ^ 64 * (stop % 2 ^ 32) + 2 ^ 96 * (deadline % 2 ^ 32))

/-- Cycles that a message of `n` bytes on stream `i` costs on its link, 0 without one (R413). -/
def Dev.sendCost (d : Dev) (i n : Nat) : Nat := match d.streamLink i with
  | none => 0
  | some l => linkCost (msgFlits n) l.lanes.length

/-- Committed end of the link of stream `i`, 0 without one. -/
def Dev.sendEnd (d : Dev) (i : Nat) : Nat := match d.streamLink i with
  | none => 0
  | some l => l.committed

/-- Trace the grant of a message of `n` bytes on stream `i`, once it has been charged. -/
def Dev.traceMessage (d : Dev) (i n fault : Nat) : Dev :=
  d.traceAdmit (linkUnit (d.stream i).port) i 3 fault (d.sendCost i n) (d.sendEnd i) (frameAfter d.frm.frame (d.stream i).d)

/-- Try to send a message now: admitted, charged and sent, or left (`false`). -/
def Dev.trySend (d : Dev) (i t : Nat) (bytes : List Byte) : Bool × Dev :=
  match d.sendFault i bytes.length t with
  | some _ => (false, d)
  | none => (true, ((d.chargeSend i bytes.length t).traceMessage i bytes.length 0).sendMessage i bytes)

/-! ### Streams by class -/

/-- Valid streams of a class and direction, ascending. -/
def Dev.streamsOf (d : Dev) (cls : Nat) (recv : Bool) : List Nat :=
  d.validStreams.filter (fun i => decide ((d.stream i).cls = cls) && decide ((d.stream i).recv = recv))

/-- The oldest complete message of an engine's receive stream, and the state without it. -/
def Dev.takeMessage (d : Dev) (i : Nat) : Option (Nat × List Byte) × Dev :=
  match (d.streamState i).inbox with
  | [] => (none, d)
  | m :: r => (some m, d.modStream i (fun s => { s with inbox := r }))

end Sys2Proof.Machine
end

