-- ==== Sys2Proof/Machine/Ledger.lean ====
section
/-! DEFINITION. The gradient ledger (R308 to R319, R329): entries and contributions, the directory, the anchors of a step, and
the loss sum. -/

namespace Sys2Proof.Machine

/-! ### Tensors and entries (R308) -/

/-- Class 3 tensors, ascending. -/
def Dev.gradTensors (d : Dev) : List Nat := (List.range d.tensorCount).filter (fun t => (d.tensor t).cls = 3)

/-- E of a class 3 tensor. -/
def Dev.gradEntries (d : Dev) (t : Nat) : Nat := (d.alloc (d.tensor t).alloc).size / 16

/-- Offset of entry `i` in half `h`. -/
def Dev.gradOff (d : Dev) (t h i : Nat) : Nat := 8 * (h * d.gradEntries t + i)

/-- The stack that holds entry `i` of a half. -/
def Dev.gradStack (d : Dev) (t h i : Nat) : Nat := d.placeOf (d.alloc (d.tensor t).alloc) (d.gradOff t h i)

/-- The code that no ledger engine writes: an entry read with it counts as saturated (R151). -/
def l64Void (code : Nat) : Bool := decide (code = 2 ^ 63)

/-- Value of an L64 code (R151). -/
def l64Value (code : Nat) : Int := if l64Void code then -l64Max else toSigned 64 code

/-- Entry `i` of half `h` of a tensor. -/
def State.grad (s : State) (t h i : Nat) : Int := l64Value (s.peek (s.dev.tensor t).alloc (s.dev.gradOff t h i) 8)

/-- The half of the step in progress (R308). -/
def Dev.half (d : Dev) : Nat := d.ldg.step % 2

/-- Write an entry. -/
def State.putGrad (s : State) (t h i : Nat) (v : Int) : State :=
  s.poke (s.dev.tensor t).alloc (s.dev.gradOff t h i) (leBytes 8 (wrap 64 v))

/-! ### Contributions (R286, R302, R312) -/

/-- A contribution at ledger resolution, with what is counted for it. -/
structure Contribution where
  v : Int
  live : Bool
  zeroed : Bool := false
  nonfin : Bool := false
  sat : Bool := false
  deriving DecidableEq, Repr

/-- An F32 value as a contribution at anchor `A` (Table 3.9). -/
def f32Contribution (v : Val) (A : Int) : Contribution :=
  let x := encodeL64 v A
  match x.1 with
  | none => { v := 0, live := false, nonfin := true }
  | some c => { v := c, live := decide (c ≠ 0), zeroed := x.2.zeroed, sat := x.2.sat }

/-- Set LOVF: a saturated entry (R316, R317, R329; for a saturated contribution DEDUCED, log entry 30). -/
def Dev.setLovf (d : Dev) : Dev := { d with ldg := { d.ldg with lovf := true } }

/-- Count a contribution to tensor `t` (R286, Table 5.4); a non-finite one leaves the entry unchanged and counts in bin 63. -/
def Dev.countContribution (d : Dev) (t : Nat) (c : Contribution) (sat : Bool) : Dev :=
  let l := (d.tensor t).layer
  let d1 := if l = 0xFFFF then d else d.modLayer l (fun x =>
    { x with glive := satAdd 32 x.glive (b2n c.live), gzero := satAdd 32 x.gzero (b2n c.zeroed) })
  let d2 := if c.nonfin then (d1.countPlain t { nonfin := 1 }).addHist t (({} : Hist).add .nan) else d1
  if sat then (d2.tallyTensor t { sat := 1 } 0 0).setLovf else d2

/-- Add `v` into the L64 entry at offset `o` of allocation `a` inside the stack logic die: whether the addition saturated, whether
the old code counts as saturated (R151), and the state after it. The read is part of the accumulating write: it asks for no permission (R376), it
meets the codeword as every read does, and what it finds poisoned stays poisoned (R364, R367). -/
def State.addEntry (s : State) (unit a o : Nat) (v : Int) : (Bool × Bool) × State :=
  let r := s.loadPieces unit a o 8
  let code := leNat r.1.1
  let x := sat64 (l64Value code + v)
  ((x.2, l64Void code), r.2.poke a o (leBytes 8 (wrap 64 x.1)) r.1.2)

/-- Add a contribution into entry `i` of the step's half, with the checks of R376 (class 3, write permission). -/
def State.contribute (s : State) (t i : Nat) (c : Contribution) : State :=
  let d := s.dev
  let h := d.half
  let k := d.gradStack t h i
  let a := (d.tensor t).alloc
  match d.accessKind 3 a (d.gradOff t h i) 8 true with
  | some x => { s with dev := d.accessFault k 3 a x true (25 + k) (d.gradOff t h i) }
  | none =>
    if c.nonfin then { s with dev := d.countContribution t c false }
    else
      let x := s.addEntry (25 + k) a (d.gradOff t h i) c.v
      { x.2 with dev := x.2.dev.countContribution t c (x.1.1 || x.1.2 || c.sat) }

/-- Add the L64 value `v` that the host writes into the ledger entry at offset `o` of allocation `a` (R312). -/
def State.hostAdd (s : State) (a o : Nat) (v : Int) : State :=
  let x := s.addEntry (25 + s.dev.placeOf (s.dev.alloc a) o) a o v
  match s.dev.gradTensors.find? (fun t => decide ((s.dev.tensor t).alloc = a)) with
  | none => x.2
  | some t => { x.2 with dev := x.2.dev.countContribution t { v := v, live := decide (v ≠ 0) } (x.1.1 || x.1.2) }

/-! ### The directory (Tables 7.1 to 7.4) -/

/-- Read `n` bytes of the directory. -/
def State.dir (s : State) (o n : Nat) : Nat := s.peekIn s.dev.ldg.dir o n

/-- What a read of `n` bytes of the directory by a unit does to the state: the checks of R376 under its class and those of the
codewords (R364, R616). The value itself is `State.dir`. -/
def State.dirTouch (s : State) (o n : Nat) (w : Who := .control) : State := (s.loadAlloc w s.dev.ldg.dir o n).2

/-- The control die writes bytes of the directory (R616). -/
def State.putDir (s : State) (o : Nat) (b : List Byte) : State := (s.storeAlloc .control s.dev.ldg.dir o b).2

/-- The control die reads the header, the gradient entries and the layer entries (R318, R616). -/
def State.dirAudit (s : State) : State :=
  let s1 := s.dirTouch 0 64
  (s1.dirTouch (s1.dir 48 4) (32 * s1.dir 16 4)).dirTouch (s1.dir 52 4) (8 * s1.dir 20 4)

def State.dirBank (s : State) : Nat := s.dir 6 1 % 2
def State.dirStep (s : State) : Nat := s.dir 8 8
def State.dirLossScale (s : State) : Nat := s.dir 24 4
def State.dirLossA (s : State) : Int := toSigned 16 (s.dir 28 2)

/-- Offset of the gradient entry of a class 3 tensor. -/
def State.gradOffDir (s : State) (t : Nat) : Nat :=
  s.dir 48 4 + 32 * (s.dev.gradTensors.findIdx (fun x => x = t))

/-- Offset of the layer entry that serves a TENSORS LAYER value (R318). -/
def State.layerOffDir (s : State) (l : Nat) : Nat := s.dir 52 4 + 8 * (if l = 0xFFFF then s.dev.layerCount else l)

/-- A gradient entry's anchor for a step (R313). A stored value outside −512 to 511, which R150 does not judge here, is used as it stands
(DESIGN CHOICE, log entry 186). -/
def State.gradAnchor (s : State) (t : Nat) (warmup : Bool) : Int :=
  let o := s.gradOffDir t
  let b := s.dirBank
  let hist := (s.dir (o + 8) 1).testBit b
  toSigned 16 (if warmup || !hist then s.dir (o + 2) 2 else s.dir (o + 4 + 2 * b) 2)

/-- P1 and P2 of a gradient entry, 1.0 without history (Table 7.2). -/
def State.gradP (s : State) (t : Nat) : Nat × Nat :=
  let o := s.gradOffDir t
  let b := s.dirBank
  if (s.dir (o + 8) 1).testBit b then (s.dir (o + 12 + 4 * b) 4, s.dir (o + 20 + 4 * b) 4) else (0x3F800000, 0x3F800000)

/-- Update exponent λ of a layer entry (R345). -/
def State.lambda (s : State) (l : Nat) : Int :=
  let o := s.layerOffDir l
  let b := s.dirBank
  toSigned 16 (if (s.dir (o + 6) 1).testBit b then s.dir (o + 2 + 2 * b) 2 else s.dir o 2)

/-- The directory in `a` passes R319. -/
def State.dirValid (s : State) (a : Nat) : Bool :=
  let d := s.dev
  let e := d.alloc a
  let g := fun (o n : Nat) => s.peek a o n
  let ts := d.gradTensors
  e.valid && e.purpose = 0 && e.mayRead 4 && e.mayRead 7 && e.mayWrite 7 &&
  g 0 4 = 0x5244474C && g 4 2 = 1 && g 16 4 = ts.length &&
  decide (g 48 4 + 32 * ts.length ≤ e.size) && (List.range ts.length).all (fun j => g (g 48 4 + 32 * j) 2 = ts.getD j 0) &&
  g 20 4 = d.layerCount + 1 &&
  decide (-512 ≤ toSigned 16 (g 28 2)) && decide (toSigned 16 (g 28 2) ≤ 511) &&
  decide (g 56 4 + 4096 ≤ e.size)

/-! ### Step start (R309, R311, R313) -/

/-- Set the zero mark of a ledger block (R310). A frozen block is copied first (R460). -/
def State.zeroBlock (s : State) (b : Nat) : State :=
  let s1 := s.cow b
  { s1 with dev := { s1.dev with stk := { s1.dev.stk with
      zero := sinsert s1.dev.stk.zero b
      poison := s1.dev.stk.poison.filter (fun g => g / 64 ≠ b)
      upsets := s1.dev.stk.upsets.filter (fun (u : Nat × Nat) => u.1 / 64 ≠ b) } } }

/-- Clear half `h` of a tensor: zero marks for whole blocks, zeros written in part blocks by the stack logic die that holds
them, a unit of class 3 (R311, R376). -/
def State.zeroHalf (s : State) (t h : Nat) : State :=
  let d := s.dev
  let a := (d.tensor t).alloc
  let e := d.alloc a
  let lo := d.gradOff t h 0
  let hi := d.gradOff t h (d.gradEntries t)
  let s1 := ((List.range (ceilDiv e.size 4096)).filter (fun k => decide (lo ≤ 4096 * k) && decide (4096 * (k + 1) ≤ hi))).foldl
    (fun (u : State) k => u.zeroBlock (d.translate e (4096 * k) / 4096)) s
  let part := ((List.range (ceilDiv e.size 4096)).filter (fun k =>
    let x := max lo (4096 * k)
    let y := min hi (4096 * (k + 1))
    decide (x < y) && decide (y - x < 4096)))
  let s2 := part.foldl (fun (u : State) k =>
    let x := max lo (4096 * k)
    let y := min hi (4096 * (k + 1))
    (u.storeAlloc (Who.stack (d.placeOf e x) 3) a x (List.replicate (y - x) 0)).2) s1
  { s2 with dev := s2.dev.noteStore a lo (hi - lo) }

/-- The ledger at the tick that starts a step: its number, anchors, and the cleared half (R309). -/
def State.ledgerBegin (s0 : State) : State :=
  let s := s0.dirAudit
  let st := s.dirStep
  let ts := s.dev.gradTensors
  let anchors := ts.map (fun t => (t, s.gradAnchor t s.dev.mnt.warmup))
  let d := { s.dev with ldg := { s.dev.ldg with
    step := st, anchors := anchors, lossSum := 0, lossNonfin := 0, lovf := false, overs := 0, raised5010 := false
    checked := [], colds := 0, rounds := [], last := none } }
  ts.foldl (fun (u : State) t => u.zeroHalf t (st % 2)) { s with dev := d }

/-- Anchor of a class 3 tensor for the step. -/
def Dev.anchor (d : Dev) (t : Nat) : Int := tgetD d.ldg.anchors t 0

/-! ### The loss sum (R329) -/

/-- LOSS_ADD's descriptor. -/
structure LossDesc where
  layout : Nat
  rows : Nat
  reserved : Bool

def State.lossDesc (s : State) (arg : Nat) : LossDesc :=
  let x := s.opnd arg 8
  { layout := nfld x 0 16, rows := nfld x 16 16 + 1, reserved := nfld x 32 32 ≠ 0 }

/-- A malformed LOSS_ADD or too short a span raises 0x1023 (DEDUCED, log entry 31). -/
def State.lossFault (s : State) (arg span : Nat) : Option Nat :=
  let x := s.lossDesc arg
  let l := s.layoutAt x.layout
  if x.reserved || l.econt ≠ 5 || decide (l.count < x.rows) || decide (span < 32 + ceilDiv x.rows 64) then some 0x1023 else none

/-- Add one row loss. -/
def Dev.addLoss (d : Dev) (code : Nat) (A : Int) : Dev :=
  let c := f32Contribution (f32Val code) A
  if c.nonfin then
    { d with
      ldg := { d.ldg with lossNonfin := satAdd 32 d.ldg.lossNonfin 1 }
      mnt := { d.mnt with flags := { d.mnt.flags with nonfin := true } } }
  else
    let x := sat64 (d.ldg.lossSum + c.v)
    { d with ldg := { d.ldg with lossSum := x.1, lovf := d.ldg.lovf || x.2 || c.sat } }

/-- LOSS_ADD: the tally unit (class 1) adds R row losses. -/
def State.lossAdd (s : State) (arg : Nat) : State :=
  let x := s.lossDesc arg
  let l := s.layoutAt x.layout
  let A := s.dirLossA
  ((List.range x.rows).foldl (fun (acc : Bool × State) i =>
    if acc.1 then acc
    else
      let r := acc.2.elem { inst := 0, cls := 1, unit := 24 } l (l.elem (l.tuple i))
      match r.1 with
      | none => (true, r.2)
      | some c => (false, { r.2 with dev := r.2.dev.addLoss c.1 A })) (false, s)).2

end Sys2Proof.Machine
end

