-- ==== Sys2Proof/Machine/Backward.lean ====
section
/-! DEFINITION. The backward arrays (R264 to R292): window checks, group sums into the accumulator file, output products,
weight gradients and deposits. -/

namespace Sys2Proof.Machine

/-! ### Descriptors (Tables 6.3 and 6.6) -/

structure BwdDesc where
  layer : Nat
  first : Bool
  last : Bool
  mode : Nat
  ascAxis : Nat
  bscAxis : Nat
  csrc : Nat
  runs : Nat
  afmt : Nat
  bfmt : Nat
  aOff : Nat
  ascOff : Nat
  bOff : Nat
  bscOff : Nat
  outOff : Nat
  oscOff : Nat
  ofmt : Nat
  fixedC : Int
  tensor : Nat
  next : Nat
  reserved : Bool
  deriving DecidableEq, Repr

def bwdDesc (b : BitVec 256) : BwdDesc :=
  { layer := fld b 0 10, first := bitOf b 10, last := bitOf b 11, mode := fld b 12 1, ascAxis := fld b 13 1
    bscAxis := fld b 14 1, csrc := fld b 15 1, runs := fld b 16 10 + 1, afmt := fld b 32 8, bfmt := fld b 40 8
    aOff := fld b 48 20, ascOff := fld b 68 20, bOff := fld b 88 20, bscOff := fld b 108 20, outOff := fld b 128 20
    oscOff := fld b 148 20, ofmt := fld b 168 8, fixedC := sfld b 176 10, tensor := fld b 186 12, next := fld b 198 16
    reserved := fld b 26 6 ≠ 0 ∨ fld b 214 42 ≠ 0 }

structure DepDesc where
  tensor : Nat
  base : Nat
  estride : Int
  cstride : Int
  mstride : Nat
  reserved : Bool
  deriving DecidableEq, Repr

def depDesc (b : BitVec 128) : DepDesc :=
  { tensor := fld b 0 12, base := fld b 16 36, estride := sfld b 52 32, cstride := sfld b 84 16, mstride := fld b 100 28
    reserved := fld b 12 4 ≠ 0 }

def State.bwdDescAt (s : State) (arg : Nat) : BwdDesc := bwdDesc (BitVec.ofNat 256 (s.opnd arg 32))

def State.depDescAt (s : State) (arg : Nat) : DepDesc := depDesc (BitVec.ofNat 128 (s.opnd arg 16))

/-! ### Tiles -/

def Dev.bwdTile (d : Dev) (t : Nat) : BwdTile := tgetD d.bwd.tiles t {}

def Dev.modBwdTile (d : Dev) (t : Nat) (f : BwdTile → BwdTile) : Dev :=
  { d with bwd := { d.bwd with tiles := tmod d.bwd.tiles t {} f } }

/-- Members of a backward group. -/
def Dev.bwdMembers (d : Dev) (g : Nat) : List Nat := (d.group g).bwdMembers

/-- Change a die's counters. -/
def Dev.modBwdCount (d : Dev) (die : Nat) (f : BwdCount → BwdCount) : Dev :=
  { d with bwd := { d.bwd with counts := tmod d.bwd.counts die {} f } }

/-- Notices 0x3010 and 0x3011, once per step on each die (R305). -/
def Dev.bwdNotice (d : Dev) (die : Nat) (sat nonfin : Bool) : Dev :=
  let c := tgetD d.bwd.counts die {}
  let d1 := if sat && !c.raised3010 then (d.modBwdCount die (fun x => { x with raised3010 := true })).raise 0x3010 (8 + die) 0 0 else d
  if nonfin && !c.raised3011 then (d1.modBwdCount die (fun x => { x with raised3011 := true })).raise 0x3011 (8 + die) 0 0 else d1

/-! ### Checks -/

/-- W_b (R273). -/
def Dev.bwdWork (dv : Dev) (d : BwdDesc) : Nat := 128 * d.runs * (dv.layer d.layer).pass

/-- Minimum span of a window (R273). -/
def Dev.bwdSpan (dv : Dev) (d : BwdDesc) : Nat := dv.bwdWork d + (if d.last then 40 else 24)

/-- Format of a backward operand or output. -/
def bwdFmt (c : Nat) : Fmt := (fmtOf c).getD .f32

/-- R271. -/
def Dev.bwdDescOk (dv : Dev) (g : Nat) (d : BwdDesc) (span : Nat) : Bool :=
  let l := dv.layer d.layer
  decide (d.layer < dv.layerCount) &&
  decide (0x20 ≤ d.afmt ∧ d.afmt ≤ 0x25) && decide (0x20 ≤ d.bfmt ∧ d.bfmt ≤ 0x24) &&
  !(d.mode = 0 && !(decide (0x20 ≤ d.ofmt ∧ d.ofmt ≤ 0x25))) &&
  !l.nobwd && l.bgroup = g && !(d.mode = 1 && (dv.tensor d.tensor).cls ≠ 3) &&
  (d.first || (dv.bwdMembers g).all (fun t => match (dv.bwdTile t).file with
    | none => false
    | some f => f.layer = d.layer && f.mode = d.mode)) &&
  decide (dv.bwdSpan d ≤ span) &&
  [d.aOff, d.ascOff, d.bOff, d.bscOff, d.outOff, d.oscOff].all (fun o => o % 64 = 0) && !d.reserved

/-- First byte past everything a window reads or writes (R380). -/
def BwdDesc.extent (d : BwdDesc) : Nat :=
  let v := 128 * d.runs
  let aw := (bwdFmt d.afmt).container / 8
  let bw := (bwdFmt d.bfmt).container / 8
  let own := [d.aOff + v * 128 * aw, if (bwdFmt d.afmt).scaled then d.ascOff + 4 * v else 0, d.bOff + d.runs * 16384 * bw,
    if (bwdFmt d.bfmt).scaled then d.bscOff + d.runs * 512 else 0]
  let out := if d.mode = 0 then
      (if d.last then [d.outOff + 16384 * ((bwdFmt d.ofmt).container / 8) + 512, d.oscOff + 128] else []) ++
      (if d.first && d.csrc = 0 then [d.oscOff + 4] else [])
    else []
  maxNat (own ++ out)

/-- Backward slots are refused in a gated frame and in the first 1,024 cycles after waking (R290, R291). -/
def Dev.bwdAsleep (d : Dev) (t : Nat) : Bool := d.bwd.gated || (d.bwd.waking && decide (t < 1024))

/-- The fault with which a BWD_WINDOW issued at cycle `t` does not issue: R271, R272, R282, R290 with R291, R380. -/
def State.bwdWindowFault (s : State) (g arg span t : Nat) : Option Nat :=
  let d := s.bwdDescAt arg
  let ms := s.dev.bwdMembers g
  if !s.dev.bwdDescOk g d span then some 0x3001
  else if ms.any (fun x => (s.dev.bwdTile x).spare.map BwdLatch.arg ≠ some arg) then some 0x3003
  else if d.mode = 1 && d.last && ms.any (fun x =>
      (s.dev.bwdTile x).deposit.isSome || decide (t + span - 16 < (s.dev.bwdTile x).busyUntil)) then some 0x3005
  else if s.dev.bwdAsleep t then some 0x3002
  else if 0x400000 < d.extent then some 0x6013
  else none

/-- BWD_BLOAD and BWD_CLEAR: a span below the minimum of Table 6.2, or an ARG of BWD_CLEAR that is not 0, is taken as 0x3001
(DESIGN CHOICE, log entry 32). -/
def Dev.bwdPlainFault (d : Dev) (t span least : Nat) (argOk : Bool) : Option Nat :=
  if span < least || !argOk then some 0x3001 else if d.bwdAsleep t then some 0x3002 else none

/-! ### Operands -/

/-- What a tile reads for a window. -/
structure BwdIn where
  a : List Byte
  asc : List Byte
  b : List Byte
  bsc : List Byte
  osc : List Byte

/-- Bytes of one B tile. -/
def BwdDesc.bTile (d : BwdDesc) : Nat := 16384 * ((bwdFmt d.bfmt).container / 8)

/-- Scale bytes of one B tile. -/
def BwdDesc.bScales (d : BwdDesc) : Nat := if (bwdFmt d.bfmt).scaled then 512 else 0

/-- Read a tile's operands. All of them are read when the window issues, but the first B tile, or what of it the latches hold
(R267; DEDUCED, log entry 146). -/
def State.bwdIn (s : State) (d : BwdDesc) (g t : Nat) (latch : BwdLatch) : BwdIn × State :=
  let unit := 8 + t / 16
  let v := 128 * d.runs
  let k := latch.codes.length
  let j := latch.scales.length
  let rd := fun (s : State) (o n : Nat) => s.load unit g (bwdAddr t o) n
  let a := rd s d.aOff (v * 128 * ((bwdFmt d.afmt).container / 8))
  let b := rd a.2 d.ascOff (if (bwdFmt d.afmt).scaled then 4 * v else 0)
  let c := rd b.2 (d.bOff + k) (d.runs * d.bTile - k)
  let e := rd c.2 (d.bscOff + j) (d.runs * d.bScales - j)
  let f := rd e.2 d.oscOff (if d.mode = 0 then 4 else 0)
  ({ a := a.1.1, asc := b.1.1, b := latch.codes ++ c.1.1, bsc := latch.scales ++ e.1.1, osc := f.1.1 }, f.2)

/-- Load the first B tile of the window at `arg` into the spare latches of a tile (R267, R272). -/
def State.bwdLatch (s : State) (g t arg : Nat) : BwdLatch × State :=
  let d := s.bwdDescAt arg
  let a := s.load (8 + t / 16) g (bwdAddr t d.bOff) d.bTile
  let b := a.2.load (8 + t / 16) g (bwdAddr t d.bscOff) d.bScales
  ({ arg := arg, codes := a.1.1, scales := b.1.1 }, b.2)

/-- The spare latches after a window with this NEXT field: loaded with that window's first B tile, or empty for 0xFFFF. -/
def State.bwdLatchNext (s : State) (g t next : Nat) : Option BwdLatch × State :=
  if next = 0xFFFF then (none, s)
  else
    let r := s.bwdLatch g t next
    (some r.1, r.2)

/-- A code of `w` bytes at index `i`. -/
def codeAt (b : List Byte) (w i : Nat) : Nat := leNat ((b.drop (w * i)).take w)

/-- Element `r` of vector `v` of operand A: code and scale byte. Scale bytes stand in vector order, four a vector, or for
ASC_AXIS 1 in groups of 32 vectors, 128 a group (DEDUCED, log entry 33). -/
def BwdIn.aElem (x : BwdIn) (d : BwdDesc) (v r : Nat) : Nat × Nat :=
  let k := if d.ascAxis = 0 then 4 * v + r / 32 else 128 * (v / 32) + r
  (codeAt x.a ((bwdFmt d.afmt).container / 8) (128 * v + r), if (bwdFmt d.afmt).scaled then (x.asc.getD k 0).toNat else 127)

/-- Piece `j` of an element of operand A (R163, R164). -/
def BwdIn.aPiece (x : BwdIn) (d : BwdDesc) (pass v r j : Nat) : IOp :=
  let c := x.aElem d v r
  if d.afmt = 0x25 then f32Piece c.1 pass j
  else if j = 0 then toIOp (decodeElem (bwdFmt d.afmt) c.1 c.2 0) else {}

/-- Element (r, c) of run `k`'s B tile in the internal form (R267). -/
def BwdIn.bOp (x : BwdIn) (d : BwdDesc) (k r c : Nat) : IOp :=
  let i := if d.bscAxis = 0 then 512 * k + 128 * (r / 32) + c else 512 * k + 4 * r + c / 32
  let E := if (bwdFmt d.bfmt).scaled then (x.bsc.getD i 0).toNat else 127
  toIOp (decodeElem (bwdFmt d.bfmt) (codeAt x.b ((bwdFmt d.bfmt).container / 8) (16384 * k + 128 * r + c)) E 0)

/-- Non-finite operands of a window, each counted once however many groups and passes it enters (R138, R160). -/
def BwdIn.nonfin (x : BwdIn) (d : BwdDesc) : Nat :=
  let a := (List.range (128 * d.runs)).foldl (fun (n : Nat) v => (List.range 128).foldl (fun (n : Nat) r =>
    let c := x.aElem d v r
    n + b2n (decodeElem (bwdFmt d.afmt) c.1 c.2 0).nonfin) n) 0
  (List.range d.runs).foldl (fun (n : Nat) k => (List.range 128).foldl (fun (n : Nat) r => (List.range 128).foldl (fun (n : Nat) c =>
    let o := x.bOp d k r c
    n + b2n (o.nan || o.inf)) n) n) a

/-! ### Accumulation (R275 to R277) -/

/-- Running state of a window on a tile. -/
structure BwdRun where
  acc : List (Nat × BwdEntry)
  accSat : Nat := 0
  trunc : Nat := 0
  zeroed : Nat := 0
  /-- A non-finite group entered an entry (R162). -/
  bad : Bool := false

/-- Add a group sum into an entry at anchor `C` (R152, R160 to R162, R277). An entry that is marked non-finite goes on adding,
but its saturation is neither counted nor flagged. -/
def BwdRun.group (x : BwdRun) (key : Nat) (C : Int) (g : GroupSum) : BwdRun :=
  match g with
  | .empty => x
  | .bad => { x with acc := tmod x.acc key {} (fun e => { e with nonfin := true }), bad := true }
  | .sum s q lost =>
    let a := groupAdd s q C
    let e := tgetD x.acc key {}
    let y := sat64 (e.v + a)
    let lost2 := y.2 && !e.nonfin
    let none_ := decide (a = 0) && decide (s ≠ 0)
    { x with
      acc := tput x.acc key { e with v := y.1, sat := e.sat || lost2, zeroed := e.zeroed || none_ }
      accSat := x.accSat + b2n lost2, trunc := x.trunc + b2n lost, zeroed := x.zeroed + b2n none_ }

/-- One vector in one pass: four groups in each column. -/
def BwdRun.vector (x : BwdRun) (i : BwdIn) (d : BwdDesc) (pass : Nat) (C : Int) (v j : Nat) : BwdRun :=
  (List.range 4).foldl (fun (x : BwdRun) b =>
    let rows := (List.range 32).map (· + 32 * b)
    let as := rows.map (fun r => i.aPiece d pass v r j)
    (List.range 128).foldl (fun (x : BwdRun) c =>
      x.group (128 * (v % 128) + c) C (groupSum (List.zip as (rows.map (fun r => i.bOp d (v / 128) r c))))) x) x

/-- All vectors, passes within a vector. -/
def BwdRun.all (x : BwdRun) (i : BwdIn) (d : BwdDesc) (pass : Nat) (C : Int) : BwdRun :=
  (List.range (128 * d.runs)).foldl (fun (x : BwdRun) v =>
    (List.range pass).foldl (fun (x : BwdRun) j => x.vector i d pass C v j) x) x

/-- The anchor that an opening window fixes (R274). -/
def Dev.bwdAnchor (dv : Dev) (d : BwdDesc) (i : BwdIn) : Int :=
  let c := if d.mode = 1 then dv.anchor d.tensor
    else if d.csrc = 1 ∨ dv.mnt.warmup then d.fixedC
    else (maxNat (i.osc.map BitVec.toNat) : Int) - 127 + 24
  clampInt (-512) 511 c

/-! ### The output mint (R279, R280) -/

/-- Exact value of an entry. -/
def BwdEntry.val (e : BwdEntry) (C : Int) : Val := if e.nonfin then .nan else .fin e.v (C - 62)

/-- The drained output: bytes at OUT_OFF, records at OSC_OFF + 64, and its histogram. -/
structure BwdOut where
  bytes : List Byte
  records : List Byte
  hist : Hist

/-- Drain a file into OFMT. -/
def bwdDrain (acc : List (Nat × BwdEntry)) (C : Int) (f : Fmt) (osc : List Byte) (exact : Bool) (h : Nat) : BwdOut :=
  let vals := (List.range 128).map (fun e => (List.range 128).map (fun c => (tgetD acc (128 * e + c) {}).val C))
  let rows := vals.map (fun row => (List.range 4).map (fun j =>
    let part := (row.drop (32 * j)).take 32
    let E := if !f.scaled then 127 else if exact then (exactScale f h part).1 else min 254 (osc.getD j 0).toNat
    (E, part.map (fun v => (encodeElem f v E 0, v)))))
  let codes := rows.flatMap (fun r => packCodes f.container (r.flatMap (fun p => p.2.map (fun e => e.1.code))))
  let comp := rows.flatMap (fun r => r.flatMap (fun p => leBytes 1 p.1))
  let recs := (List.range 4).flatMap (fun j =>
    let es := rows.flatMap (fun r => (r.getD j (127, [])).2)
    let t := es.foldl (fun (t : Tally) e => t.add e.1) {}
    statRecord (maxNat (es.map (fun e => statHi f e.2))) (maxNat (es.map (fun e => statLo e.2))) t 0 (decide (0 < t.sat)) false)
  { bytes := codes ++ comp, records := recs
    hist := rows.foldl (fun h r => r.foldl (fun h p => p.2.foldl (fun (h : Hist) e => h.add (decodeElem f e.1.code p.1 0)) h) h) {} }

/-- A window on member tile `t`, which moves its file, if it does, at cycle `move` (R281). The next window's first B tile is
read before the window's own results are written (DEDUCED, log entry 146). -/
def State.bwdWindowOn (s : State) (d : BwdDesc) (g move t : Nat) : State :=
  let die := t / 16
  let r := s.bwdIn d g t ((s.dev.bwdTile t).spare.getD ⟨0, [], []⟩)
  let n := r.2.bwdLatchNext g t d.next
  let i := r.1
  let dv := n.2.dev
  let l := dv.layer d.layer
  let tile := dv.bwdTile t
  let file : BwdFile := if d.first then { layer := d.layer, mode := d.mode, pass := l.pass, c := dv.bwdAnchor d i }
    else tile.file.getD { layer := d.layer, mode := d.mode, pass := l.pass, c := dv.bwdAnchor d i }
  let x := BwdRun.all { acc := if d.first then [] else tile.acc } i d file.pass file.c
  let bads := (x.acc.filter (fun (e : Nat × BwdEntry) => e.2.nonfin)).length
  let d1 := dv.modBwdTile t (fun y =>
    { y with
      acc := if d.last then [] else x.acc
      file := if d.last then none else some file
      spare := n.1
      moveAt := if d.last && d.mode = 1 then move else y.moveAt
      deposit := if d.last && d.mode = 1 then some x.acc else y.deposit })
  let d2 := d1.modBwdCount die (fun c =>
    { c with
      cycles := satAdd 64 c.cycles (dv.bwdSpan d), accSat := satAdd 32 c.accSat x.accSat
      trunc := satAdd 32 c.trunc x.trunc, zeroed := satAdd 32 c.zeroed x.zeroed
      nonfin := satAdd 32 c.nonfin (if d.last then bads else 0) })
  let d3 := (d2.countPlain d.tensor { nonfin := i.nonfin d }).bwdNotice die (decide (0 < x.accSat)) x.bad
  if d.last && d.mode = 0 then
    let o := bwdDrain x.acc file.c (bwdFmt d.ofmt) i.osc (dv.exactOut d.tensor) (dv.headroom d.tensor)
    let s1 : State := { n.2 with dev := d3.addHist d.tensor o.hist }
    (s1.storeTile false t d.outOff o.bytes).storeTile false t (d.oscOff + 64) o.records
  else { n.2 with dev := d3 }

/-- BWD_WINDOW on a group, issued at cycle `t` with this span. -/
def State.bwdWindow (s : State) (g arg span t : Nat) : State :=
  let d := s.bwdDescAt arg
  (s.dev.bwdMembers g).foldl (fun (u : State) x => u.bwdWindowOn d g (t + span - 16) x) s

/-- BWD_BLOAD: the spare latches are loaded with that window's first B tile. -/
def State.bwdBload (s : State) (g arg : Nat) : State :=
  (s.dev.bwdMembers g).foldl (fun (u : State) t =>
    let n := u.bwdLatch g t arg
    { n.2 with dev := n.2.dev.modBwdTile t (fun x => { x with spare := some n.1 }) }) s

/-- BWD_CLEAR: the file and its marks are discarded. -/
def Dev.bwdClear (d : Dev) (g : Nat) : Dev :=
  (d.bwdMembers g).foldl (fun (d : Dev) t => d.modBwdTile t (fun x => { x with acc := [], file := none })) d

/-! ### Deposits (R283 to R287) -/

/-- Ledger entry of (entry, column) of member `m` (R283). -/
def DepDesc.entry (d : DepDesc) (m e c : Nat) : Int := (d.base : Int) + m * d.mstride + e * d.estride + c * d.cstride

/-- Every generated entry lies inside the tensor. -/
def DepDesc.inside (d : DepDesc) (members E : Nat) : Bool :=
  let lo := (d.base : Int) + min 0 (127 * d.estride) + min 0 (127 * d.cstride)
  let hi := (d.base : Int) + ((members - 1) * d.mstride : Nat) + max 0 (127 * d.estride) + max 0 (127 * d.cstride)
  decide (0 ≤ lo) && decide (hi < (E : Int))

/-- R284, R290 with R291, and the minimum span of 1. -/
def State.bwdDepositFault (s : State) (g arg t : Nat) : Option Nat :=
  let x := s.depDescAt arg
  let d := s.dev
  let ms := d.bwdMembers g
  if (d.tensor x.tensor).cls ≠ 3 || x.reserved || !x.inside ms.length (d.gradEntries x.tensor) ||
      ms.any (fun y => (d.bwdTile y).deposit.isNone || decide (t < (d.bwdTile y).moveAt)) then some 0x3006
  else if d.bwdAsleep t then some 0x3002
  else none

/-- The ledger entries of a deposit on `n` members. -/
def DepDesc.entries (d : DepDesc) (n : Nat) : List Nat :=
  (List.range n).flatMap (fun m => (List.range 128).flatMap (fun e => (List.range 128).map (fun c => (d.entry m e c).toNat)))

/-- Entries held by each stack, among entries of a half of a tensor. -/
def Dev.perStack (d : Dev) (t h : Nat) (es : List Nat) : List (Nat × Nat) :=
  (List.range 12).filterMap (fun k =>
    let n := (es.filter (fun i => d.gradStack t h i = k)).length
    if n = 0 then none else some (k, n))

/-- Charge of `g` granules on stack `k`'s DMA (R33). -/
def stackCharge (k g : Nat) : Nat × Nat × Nat := (dmaEngine k, dmaEngine k, 32 + ceilDiv g 16)

/-- Charges of a BWD_DEPOSIT on each stack (R285). -/
def State.bwdDepositCharges (s : State) (g arg : Nat) : List (Nat × Nat × Nat) :=
  let x := s.depDescAt arg
  let d := s.dev
  (d.perStack x.tensor d.half (x.entries (d.bwdMembers g).length)).map (fun (p : Nat × Nat) => stackCharge p.1 (ceilDiv (8 * p.2) 64))

/-- BWD_DEPOSIT: every member's buffer is added into the ledger; its buffer stays occupied until the largest committed end
`stop` of the deposit (R282, R286). -/
def State.bwdDeposit (s : State) (g arg stop : Nat) : State :=
  let x := s.depDescAt arg
  let ms := s.dev.bwdMembers g
  (List.zip (List.range ms.length) ms).foldl (fun (u : State) (p : Nat × Nat) =>
    let buf := (u.dev.bwdTile p.2).deposit.getD []
    let u1 := buf.foldl (fun (w : State) (e : Nat × BwdEntry) =>
      w.contribute x.tensor (x.entry p.1 (e.1 / 128) (e.1 % 128)).toNat
        { v := e.2.v, live := decide (e.2.v ≠ 0), zeroed := e.2.zeroed && decide (e.2.v = 0), nonfin := e.2.nonfin, sat := e.2.sat }) u
    let d1 := u1.dev.modBwdTile p.2 (fun (y : BwdTile) => { y with deposit := none, busyUntil := stop })
    { u1 with dev := d1.modBwdCount (p.2 / 16) (fun (c : BwdCount) => { c with deposit := satAdd 32 c.deposit 2048 }) }) s

/-! ### Gating (R290 to R292) -/

/-- A tick gates the backward dies: latches and accumulator files are cleared, and an open file is a fault of its die (R292). -/
def Dev.gateDies (d : Dev) : Dev :=
  let dies := (List.range 8).filter (fun die => d.bwd.tiles.any (fun (t : Nat × BwdTile) => decide (t.1 / 16 = die) && t.2.file.isSome))
  let d1 : Dev := { d with bwd := { d.bwd with
    gated := true, waking := false
    tiles := d.bwd.tiles.map (fun (t : Nat × BwdTile) => (t.1, { t.2 with acc := [], file := none, spare := none })) } }
  dies.foldl (fun (x : Dev) die => x.raise 0x3004 (8 + die) 0 0) d1

/-- The deposits of the frame before have moved. -/
def Bwd.frame (b : Bwd) : Bwd :=
  { b with tiles := b.tiles.map (fun (t : Nat × BwdTile) => (t.1, { t.2 with busyUntil := 0, moveAt := 0 })) }

/-- The tick of a step's frame: BGATE gates or wakes the backward dies. -/
def Dev.bwdTick (d : Dev) (gate : Bool) : Dev :=
  let d0 : Dev := { d with bwd := { d.bwd.frame with waking := d.bwd.lastGated && !gate, gated := gate, lastGated := gate } }
  if gate then d0.gateDies else d0

/-- The tick of a frame outside a step: the dies are gated while no run command is active, and stay as they are before a run's first
step (R548; DEDUCED, log entry 80). -/
def Dev.bwdIdleTick (d : Dev) : Dev :=
  let d0 : Dev := { d with bwd := { d.bwd.frame with waking := false, lastGated := false } }
  if d.seq.run.isNone then d0.gateDies else d0

end Sys2Proof.Machine
end

