-- ==== Sys2Proof/Machine/Clearing.lean ====
section
/-! DEFINITION. Clearing (R316, R317, R320 to R332): members and ranks, round descriptors and the settle list, clearing
messages with the statistics image, their application, and what happens when clearing of a step completes. -/

namespace Sys2Proof.Machine

/-! ### Members (R320, R321) -/

/-- Partners of the valid class 2 receive streams, each once. -/
def Dev.memberPartners (d : Dev) : List Nat := dedup [] ((d.streamsOf 2 true).map (fun i => (d.stream i).partner))

/-- Fingerprints of the members beside the chip itself. -/
def Dev.memberFps (d : Dev) : List Nat := d.memberPartners.map (fun p => (d.partner p).fp)

/-- N. -/
def Dev.memberCount (d : Dev) : Nat := d.memberPartners.length + 1

/-- Rank of a fingerprint. -/
def Dev.rankOf (d : Dev) (fp : Nat) : Nat :=
  ((Config.fingerprint.toNat :: d.memberFps).filter (fun x => decide (x < fp))).length

/-- The chip's own rank. -/
def Dev.rank (d : Dev) : Nat := d.rankOf Config.fingerprint.toNat

/-- Ranks of the other members that are not marked lost (R334). -/
def Dev.liveRanks (d : Dev) : List Nat :=
  (d.memberPartners.filter (fun p => (d.partner p).state ≠ .lost)).map (fun p => d.rankOf (d.partner p).fp)

/-! ### Descriptors (Tables 7.5, 7.11) -/

structure RoundDesc where
  rank : Nat
  n : Nat
  gather : Bool
  stats : Bool
  last : Bool
  topo : Nat
  send : Nat
  recv : Nat
  tensor : Nat
  sfirst : Nat
  sblocks : Nat
  rfirst : Nat
  rblocks : Nat
  slist : Nat
  reserved : Bool
  deriving DecidableEq, Repr

def roundDesc (b : BitVec 256) : RoundDesc :=
  { rank := fld b 0 6, n := fld b 6 6 + 1, gather := bitOf b 12, stats := bitOf b 13, last := bitOf b 14, topo := fld b 15 1
    send := fld b 16 12, recv := fld b 28 12, tensor := fld b 40 12, sfirst := fld b 56 32, sblocks := fld b 88 16
    rfirst := fld b 104 32, rblocks := fld b 136 16, slist := fld b 152 16
    reserved := fld b 52 4 ≠ 0 ∨ fld b 168 88 ≠ 0 }

def State.roundAt (s : State) (arg : Nat) : RoundDesc := roundDesc (BitVec.ofNat 256 (s.opnd arg 32))

/-- A group descriptor (Table 7.11). -/
def groupDesc (x : Nat) : GroupDesc :=
  let b := fun (o n : Nat) => nfld x (8 * o) (8 * n)
  { opt := b 0 1, bias := (b 1 1).testBit 0, grad := b 2 2, master := b 4 2, state1 := b 6 2, state2 := b 8 2, fwd := b 10 2
    escrow := b 12 2, bcopy := b 14 2, eta := b 16 4, beta1 := b 20 4, beta2 := b 24 4, eps := b 28 4, wd := b 32 4
    gscale := b 36 4, seed := b 40 8, reserved := b 1 1 > 1 ∨ b 48 16 ≠ 0 }

/-- Number of states S of a group. -/
def GroupDesc.states (g : GroupDesc) : Nat := if g.opt = 1 then 2 else 1

/-- Groups of the settle list at an operand-table index (R340). -/
def State.settleList (s : State) (i : Nat) : List GroupDesc :=
  (List.range (nfld (s.opnd i 8) 0 8)).map (fun j =>
    groupDesc (s.opnd (nfld (s.num (storeAddr (64 * s.dev.optab + 16 * i + 8 + 2 * j)) 2) 0 16) 64))

/-- Home tensors of a group: master weights and states. -/
def GroupDesc.homes (g : GroupDesc) : List Nat := if g.opt = 1 then [g.master, g.state1, g.state2] else [g.master, g.state1]

/-- A format the forward arrays take as weights (R341). -/
def weightFmt (c : Nat) : Bool := match fmtOf c with
  | some (.s _) => true
  | some .b1 => true
  | _ => false

/-- R341 on one group. -/
def Dev.groupOk (d : Dev) (g : GroupDesc) : Bool :=
  let t := fun (i cls : Nat) => decide (i < d.tensorCount) && decide ((d.tensor i).cls = cls)
  let a := fun (i : Nat) => d.alloc (d.tensor i).alloc
  let e := d.gradEntries g.grad
  let x := a g.grad
  let esc := d.alloc g.escrow
  let same := fun (y : AllocEntry) => decide (y.loc = x.loc) && decide (y.places = x.places) && y.panel == x.panel
  !g.reserved && decide (g.opt ≤ 2) && (g.opt = 1 || g.state2 = 0xFFFF) &&
  t g.grad 3 && t g.master 4 && (g.homes.drop 1).all (fun i => t i 5) && t g.fwd 0 && weightFmt (d.tensor g.fwd).fmt &&
  g.homes.all (fun i => decide ((d.tensor i).fmt = 0x25) && decide ((a i).size / 4 = e) && same (a i)) &&
  esc.valid && esc.purpose = 3 && same esc && decide (4 * (2 + g.states) * e ≤ esc.size)

/-- R341 on a settle list. -/
def State.settleListOk (s : State) (i : Nat) : Bool :=
  let h := s.opnd i 8
  decide (1 ≤ nfld h 0 8) && decide (nfld h 0 8 ≤ 64) && decide (nfld h 8 56 = 0) && (s.settleList i).all s.dev.groupOk

/-- Blocks of 256 entries of a class 3 tensor. -/
def Dev.gradBlocks (d : Dev) (t : Nat) : Nat := ceilDiv (d.gradEntries t) 256

/-- Entries of a range of blocks. -/
def Dev.blockEntries (d : Dev) (t first n : Nat) : List Nat :=
  (List.range (min (256 * (first + n)) (d.gradEntries t) - 256 * first)).map (· + 256 * first)

/-- A stream named by a round is valid, of class 1, in the right direction. -/
def Dev.roundStream (d : Dev) (i : Nat) (recv : Bool) : Bool :=
  let e := d.stream i
  i = 0xFFF || (e.valid && decide (e.cls = 1) && e.recv == recv)

/-- The fault of a CLEAR's descriptor: R321 and R323, then R341 with LAST. -/
def State.clearDescFault (s : State) (arg : Nat) : Option Nat :=
  let r := s.roundAt arg
  let d := s.dev
  let topology := match d.cht.active with
    | some c => c.topology
    | none => 0
  if r.reserved || r.rank ≠ d.rank || r.n ≠ d.memberCount || r.topo ≠ topology || !d.roundStream r.send false ||
      !d.roundStream r.recv true || !(decide (r.tensor < d.tensorCount) && decide ((d.tensor r.tensor).cls = 3)) ||
      decide (d.gradBlocks r.tensor < r.sfirst + r.sblocks) || decide (d.gradBlocks r.tensor < r.rfirst + r.rblocks) ||
      (r.stats && r.send = 0xFFF && r.recv = 0xFFF) then some 0x5001
  else if r.last && !s.settleListOk r.slist then some 0x5002
  else none

/-- Granules of a block range on stack `k`. -/
def Dev.blockGranules (d : Dev) (t first n k : Nat) : Nat :=
  (dedup [] (((d.blockEntries t first n).filter (fun i => d.gradStack t d.half i = k)).map (fun i => d.gradOff t d.half i / 64))).length

/-- Charges of a CLEAR (R324). -/
def State.clearCharges (s : State) (arg : Nat) : List (Nat × Nat × Nat) :=
  let r := s.roundAt arg
  let d := s.dev
  (List.range 12).filterMap (fun k =>
    let g := (if r.send = 0xFFF then 0 else d.blockGranules r.tensor r.sfirst r.sblocks k) +
      2 * (if r.recv = 0xFFF then 0 else d.blockGranules r.tensor r.rfirst r.rblocks k)
    if g = 0 then none else some (stackCharge k g))

/-! ### The statistics image (R249, R328) -/

/-- The values that clearing combines. -/
structure StatsImage where
  /-- COLD states met: bit 0 not cold, bit 1 cold (R260). -/
  colds : Nat
  flags : Nat
  lovf : Bool
  lossNonfin : Nat
  lossSum : Int
  blocks : List (Nat × BlockStats)
  layers : List (Nat × LayerStats)
  tensors : List (Nat × TensorStats)

/-- Keys of the tracked blocks, in the order of the tracker table. -/
def State.blockKeys (s : State) : List Nat :=
  s.dev.trackedTensors.flatMap (fun t => match s.trkDir t with
    | none => []
    | some e => (List.range e.size).map (blockKey t))

/-- COLD states that the chip has met in the step. -/
def Dev.coldSet (d : Dev) : Nat := d.ldg.colds ||| (if d.mnt.flags.cold then 2 else 1)

/-- The chip's image. -/
def State.statsImage (s : State) : StatsImage :=
  let d := s.dev
  { colds := d.coldSet, flags := d.mnt.flags.byte, lovf := d.ldg.lovf, lossNonfin := d.ldg.lossNonfin, lossSum := d.ldg.lossSum
    blocks := s.blockKeys.map (fun k => (k, tgetD d.mnt.blocks k {}))
    layers := (List.range d.layerCount).map (fun i => (i, tgetD d.mnt.layers i {}))
    tensors := (List.range d.tensorCount).map (fun t => (t, tgetD d.mnt.tensors t {})) }

/-- Bytes of a tensor's summary and histogram, as a tally record (R253). -/
def tensorImage (t : TensorStats) : List Byte := t.bytes

/-- The byte form of the image: the fields of the tracker table, then those of the ledger directory, as R328 orders them. Their
widths are those of the tables (DESIGN CHOICE, log entry 35). -/
def StatsImage.bytes (x : StatsImage) : List Byte :=
  x.blocks.flatMap (fun (b : Nat × BlockStats) =>
    leBytes 4 b.2.hi ++ leBytes 4 b.2.lo ++ leBytes 1 (b2n b.2.ovf + 2 * b2n b.2.rerun) ++ leBytes 1 0 ++ leBytes 2 b.2.sat ++
      leBytes 2 b.2.zero ++ leBytes 2 0) ++
  x.layers.flatMap (fun (l : Nat × LayerStats) =>
    l.2.census.flatMap (leBytes 2) ++ leBytes 4 l.2.clip ++ leBytes 4 l.2.gzero ++ leBytes 4 l.2.glive ++ leBytes 4 0) ++
  x.tensors.flatMap (fun (t : Nat × TensorStats) => tensorImage t.2) ++
  leBytes 1 x.colds ++ leBytes 1 x.flags ++ leBytes 1 (b2n x.lovf) ++ leBytes 1 0 ++ leBytes 4 x.lossNonfin ++
  leBytes 8 (wrap 64 x.lossSum)

/-- Length of the image. -/
def State.imageLength (s : State) : Nat :=
  16 * s.blockKeys.length + 32 * s.dev.layerCount + 304 * s.dev.tensorCount + 16

/-- Read an image back, for the chip's own tables. The fields behind the blocks are counted from its end, so that a chip whose table lists
no blocks, or others, still reads the COLD states and the counts (R260). -/
def State.readImage (s : State) (b : List Byte) : StatsImage :=
  let ks := s.blockKeys
  let nb := ks.length
  let nl := s.dev.layerCount
  let nt := s.dev.tensorCount
  let n := fun (o k : Nat) => leNat ((b.drop o).take k)
  let f0 := b.length - 16
  let t0 := f0 - 304 * nt
  let l0 := t0 - 32 * nl
  { blocks := (List.zip (List.range nb) ks).map (fun (p : Nat × Nat) =>
      let o := 16 * p.1
      (p.2, { hi := n o 4, lo := n (o + 4) 4, sat := n (o + 10) 2, zero := n (o + 12) 2, ovf := (n (o + 8) 1).testBit 0
              rerun := (n (o + 8) 1).testBit 1 }))
    layers := (List.range nl).map (fun i =>
      let o := l0 + 32 * i
      (i, { census := (List.range 8).map (fun p => n (o + 2 * p) 2), clip := n (o + 16) 4, gzero := n (o + 20) 4
            glive := n (o + 24) 4 }))
    tensors := (List.range nt).map (fun t =>
      let o := t0 + 304 * t
      (t, { sat := n o 4, zero := n (o + 4) 4, nonfin := n (o + 8) 4, void := n (o + 12) 4, rerun := n (o + 16) 4
            hist := Hist.ofBytes ((b.drop (o + 32)).take 272) }))
    colds := n f0 1, flags := n (f0 + 1) 1, lovf := (n (f0 + 2) 1).testBit 0, lossNonfin := n (f0 + 4) 4
    lossSum := l64Value (n (f0 + 8) 8) }

/-- R249 on a block, a layer and a tensor. -/
def BlockStats.merge (a b : BlockStats) : BlockStats :=
  { hi := max a.hi b.hi, lo := max a.lo b.lo, sat := satAdd 16 a.sat b.sat, zero := satAdd 16 a.zero b.zero
    ovf := a.ovf || b.ovf, rerun := a.rerun || b.rerun }

/-- The plane census combines by maximum (R202). -/
def LayerStats.merge (a b : LayerStats) : LayerStats :=
  { census := List.zipWith max a.census b.census, clip := satAdd 32 a.clip b.clip, gzero := satAdd 32 a.gzero b.gzero
    glive := satAdd 32 a.glive b.glive }

/-- The step flags of a byte of MNT.FLAGS. -/
def stepFlags (n : Nat) : StepFlags :=
  { cold := n.testBit 0, nonfin := n.testBit 1, ovf := n.testBit 2, gsat := n.testBit 3, clip := n.testBit 4, rdecl := n.testBit 5
    silent := n.testBit 6, ssat := n.testBit 7 }

/-- Put the values of an image in the chip's place. -/
def Dev.putImage (d : Dev) (x : StatsImage) : Dev :=
  { d with
    mnt := { d.mnt with
      blocks := x.blocks.foldl (fun t (b : Nat × BlockStats) => tput t b.1 b.2) d.mnt.blocks
      layers := x.layers.foldl (fun t (l : Nat × LayerStats) => tput t l.1 l.2) d.mnt.layers
      tensors := x.tensors.foldl (fun t (y : Nat × TensorStats) => tput t y.1 y.2) d.mnt.tensors
      flags := stepFlags x.flags }
    ldg := { d.ldg with colds := x.colds, lovf := x.lovf, lossNonfin := x.lossNonfin, lossSum := x.lossSum } }

/-- Combine a received image into the local one; the loss sums add exactly, saturating beyond L64 with LOVF (R328). -/
def StatsImage.merge (a b : StatsImage) : StatsImage :=
  let x := sat64 (a.lossSum + b.lossSum)
  { colds := a.colds ||| b.colds, flags := a.flags ||| b.flags, lovf := a.lovf || b.lovf || x.2
    lossNonfin := satAdd 32 a.lossNonfin b.lossNonfin, lossSum := x.1
    blocks := List.zipWith (fun (p q : Nat × BlockStats) => (p.1, p.2.merge q.2)) a.blocks b.blocks
    layers := List.zipWith (fun (p q : Nat × LayerStats) => (p.1, p.2.merge q.2)) a.layers b.layers
    tensors := List.zipWith (fun (p q : Nat × TensorStats) => (p.1, p.2.merge q.2)) a.tensors b.tensors }

/-- Apply a received image; COLD states that differ raise 0x4002 (R260). -/
def State.applyImage (s : State) (gather : Bool) (b : List Byte) : State :=
  let y := s.readImage b
  let x := s.statsImage
  let z : StatsImage := if gather then { y with colds := x.colds ||| y.colds } else x.merge y
  let d := s.dev.putImage z
  { s with dev := if z.colds = 3 then d.raise 0x4002 24 0 0 else d }

/-! ### Packing (R327) -/

/-- Least width that represents an entry. -/
def entryWidth (v : Int) : Nat := if v = 0 then 0 else if 0 < v then 1 + bitLen v.toNat else 1 + bitLen (-v - 1).toNat

/-- A packed block of 256 entries; beyond the last entry it holds 0. -/
def packBlock (vs : List Int) : List Byte :=
  let w := maxNat (vs.map entryWidth)
  BitVec.ofNat 8 w :: leBytes (32 * w) (vs.foldr (fun v acc => wrap w v + 2 ^ w * acc) 0)

/-- Unpack the first block of a byte list: its entries, and the rest. -/
def unpackBlock (b : List Byte) : List Int × List Byte :=
  match b with
  | [] => (List.replicate 256 0, [])
  | h :: r =>
    let w := min 64 h.toNat
    let x := leNat (r.take (32 * w))
    ((List.range 256).map (fun i => if w = 0 then 0 else toSigned w (nfld x (w * i) w)), r.drop (32 * w))

/-- Unpack `n` blocks. -/
def unpackBlocks : Nat → List Byte → List (List Int) × List Byte
  | 0, b => ([], b)
  | n + 1, b =>
    let x := unpackBlock b
    let y := unpackBlocks n x.2
    (x.1 :: y.1, y.2)

/-- A clearing message (Table 7.6). -/
def clearingMessage (gather stats : Bool) (tensor step first : Nat) (blocks : List (List Int)) (image : List Byte) : List Byte :=
  let body := blocks.flatMap packBlock ++ (if stats then image else [])
  leBytes 1 (if gather then 2 else 1) ++ leBytes 1 (b2n stats) ++ leBytes 2 tensor ++ leBytes 4 blocks.length ++ leBytes 8 step ++
  leBytes 8 first ++ leBytes 4 body.length ++ leBytes 4 0 ++ body

/-- Unpacked length of a round's message (R327). -/
def State.unpackedLength (s : State) (r : RoundDesc) : Nat :=
  32 + 2049 * r.sblocks + (if r.stats then s.imageLength else 0)

/-! ### The clearing bound (R316) -/

/-- Count an over entry; 0x5010 once per step. -/
def Dev.overEntry (d : Dev) (t : Nat) : Dev :=
  let d1 := (d.tallyTensor t { sat := 1 } 0 0)
  let d2 := { d1 with ldg := { d1.ldg with overs := satAdd 32 d1.ldg.overs 1, lovf := true, raised5010 := true } }
  if d.ldg.raised5010 then d2 else d2.raise 0x5010 24 t 0

/-- The clearing adders read the granules of block `b` of the step's half: what the decoder finds is counted and faults (R364, R367, R401).
The read inside the stack logic die asks for no permission (R376). -/
def State.readBlock (s : State) (t b : Nat) : State :=
  let a := (s.dev.tensor t).alloc
  (granPieces (s.dev.gradOff t s.dev.half (256 * b)) (8 * (s.dev.blockEntries t b 1).length)).foldl (fun (u : State) p =>
    (u.loadPieces (25 + u.dev.placeOf (u.dev.alloc a) p.1) a p.1 p.2).2) s

/-- Check the local entries of blocks that clearing has not read yet. -/
def State.checkBlocks (s0 : State) (t : Nat) (bs : List Nat) : State :=
  let done := tgetD s0.dev.ldg.checked t []
  let new := bs.filter (fun b => !done.contains b)
  let s := new.foldl (fun (u : State) b => u.readBlock t b) s0
  let d := new.foldl (fun (d : Dev) b =>
    (s.dev.blockEntries t b 1).foldl (fun (e : Dev) i =>
      if 2 ^ 57 ≤ (s.grad t s.dev.half i).natAbs then e.overEntry t else e) d) s.dev
  { s with dev := { d with ldg := { d.ldg with checked := tput d.ldg.checked t (new.foldl sinsert done) } } }

/-- Blocks `first` to `first + n − 1`. -/
def blockRange (first n : Nat) : List Nat := (List.range n).map (· + first)

/-- Entries of block `b` of the step's half, 0 beyond the last. -/
def State.blockValues (s : State) (t b : Nat) : List Int :=
  (List.range 256).map (fun j =>
    let i := 256 * b + j
    if i < s.dev.gradEntries t then s.grad t s.dev.half i else 0)

/-! ### CLEAR (R322, R325, R333) -/

/-- The message that a round sends, with its blocks already checked. -/
def State.roundMessage (s : State) (r : RoundDesc) : List Byte :=
  clearingMessage r.gather r.stats r.tensor s.dev.ldg.step r.sfirst ((blockRange r.sfirst r.sblocks).map (s.blockValues r.tensor))
    (if r.stats then s.statsImage.bytes else [])

/-- A CLEAR that issues: the first of a step moves an idle escrow to clearing; its message leaves; its round waits for the
message that it receives. -/
def State.clearRound (s : State) (arg : Nat) : State :=
  let r := s.roundAt arg
  let d := s.dev
  let d1 := { d with ldg := { d.ldg with
    state := if d.ldg.state = .idle then .clearing else d.ldg.state
    rounds := d.ldg.rounds ++ [{ arg := arg, applied := r.recv = 0xFFF, deadline := frameAfter d.frm.frame (d.stream r.recv).d }]
    last := if r.last then some r.slist else d.ldg.last } }
  let s1 := { s with dev := d1 }
  if r.send = 0xFFF then s1
  else
    let s2 := s1.checkBlocks r.tensor (blockRange r.sfirst r.sblocks)
    { s2 with dev := s2.dev.sendMessage r.send (s2.roundMessage r) }

/-! ### Applying a message (R325) -/

/-- A saturation of the clearing adder counts in LDG.OVER (R317). -/
def Dev.countOver (d : Dev) : Dev := { d with ldg := { d.ldg with overs := satAdd 32 d.ldg.overs 1 } }

/-- The clearing adder of stack `k` changes an entry: added in a reduce round, replaced in a gather round, with the checks of
R376 (class 3, write permission). The local entry has been read, and an over or void one counted, when its block was checked
(R316); a received −2^63 is the code that no ledger engine writes: it counts as saturated and enters as −(2^63 − 1) (R151). -/
def State.applyEntry (s : State) (gather : Bool) (t i : Nat) (v : Int) : State :=
  let d := s.dev
  let a := (d.tensor t).alloc
  let o := d.gradOff t d.half i
  let k := d.placeOf (d.alloc a) o
  let x := sat64 v
  match d.accessKind 3 a o 8 true with
  | some e => { s with dev := d.accessFault k 3 a e true (25 + k) o }
  | none =>
    let y := if gather then (x.2, s.poke a o (leBytes 8 (wrap 64 x.1)))
      else
        let r := s.addEntry (25 + k) a o x.1
        (x.2 || r.1.1, r.2)
    if y.1 then { y.2 with dev := y.2.dev.countOver } else y.2

/-- Change the entries of received blocks. -/
def State.applyBlocks (s : State) (r : RoundDesc) (blocks : List (List Int)) : State :=
  (List.zip (blockRange r.rfirst r.rblocks) blocks).foldl (fun (u : State) (p : Nat × List Int) =>
    (u.dev.blockEntries r.tensor p.1 1).foldl (fun (v : State) i =>
      v.applyEntry r.gather r.tensor i (p.2.getD (i % 256) 0)) u) s

/-- Mark the oldest unapplied round that receives on a stream as applied. -/
def markApplied (rs : List Round) (p : Round → Bool) : List Round :=
  match rs with
  | [] => []
  | r :: t => if p r then { r with applied := true } :: t else r :: markApplied t p

/-- CLEARING_MESSAGE_APPLY: the oldest message of the stream meets the oldest round that waits for one on it. With no message,
or no round that waits, nothing happens. -/
def State.clearingMessageApply (s : State) (stream : Nat) : State :=
  let waits := fun (r : Round) => !r.applied && decide ((s.roundAt r.arg).recv = stream)
  match s.dev.ldg.rounds.find? waits with
  | none => s
  | some rd =>
    let m := s.dev.takeMessage stream
    match m.1 with
    | none => s
    | some msg =>
      let r := s.roundAt rd.arg
      let b := msg.2
      let n := fun (o k : Nat) => leNat ((b.drop o).take k)
      let d1 := { m.2 with ldg := { m.2.ldg with rounds := markApplied m.2.ldg.rounds waits } }
      if n 8 8 ≠ s.dev.ldg.step ∨ n 2 2 ≠ r.tensor ∨ n 16 8 ≠ r.rfirst ∨ n 4 4 ≠ r.rblocks then
        { s with dev := m.2.raise 0x5004 24 stream 0 }
      else
        let x := unpackBlocks r.rblocks (b.drop 32)
        let s1 := ({ s with dev := d1 }.checkBlocks r.tensor (blockRange r.rfirst r.rblocks)).applyBlocks r x.1
        if (n 1 1).testBit 0 then s1.applyImage r.gather x.2 else s1

/-- CLEARING_ROUND_DEADLINE: each round whose deadline tick has come unapplied raises 0x5004, once. -/
def State.clearingRoundDeadline (s : State) : State :=
  let due := fun (r : Round) => !r.applied && !r.late && tickDue r.deadline s.dev.frm.frame
  let d := { s.dev with ldg := { s.dev.ldg with
    rounds := s.dev.ldg.rounds.map (fun (r : Round) => if due r then { r with late := true } else r) } }
  { s with dev := (s.dev.ldg.rounds.filter due).foldl (fun (d : Dev) r =>
      let x := s.roundAt r.arg
      d.raise 0x5004 24 x.recv 0) d }

/-! ### Completion (R314 to R316, R326, R330 to R332) -/

/-- Histogram of the cleared entries of a tensor (R315) and their sum. -/
def State.clearedStats (s : State) (t : Nat) : Hist × Int :=
  let A := s.dev.anchor t
  (List.range (s.dev.gradEntries t)).foldl (fun (acc : Hist × Int) i =>
    let v := s.grad t s.dev.half i
    (acc.1.add (.fin v (A - 62)), acc.2 + v)) ({}, 0)

/-- Step loss (R330). -/
def State.stepLoss (s : State) : Nat :=
  toF32 ((Val.fin s.dev.ldg.lossSum (s.dirLossA - 62)).mul (f32Val s.dirLossScale))

/-- The step is a spike (R331). -/
def State.spike (s : State) (loss : Nat) : Bool :=
  let mean := s.dir 32 4
  let msq := s.dir 36 4
  let k := match s.dev.cht.active with
    | some c => c.spikeK
    | none => 0
  let dl := toF32 ((f32Val loss).add (f32Val mean).neg)
  let var := toF32 ((f32Val msq).add ((f32Val mean).mul (f32Val mean)).neg)
  let lhs := toF32 ((f32Val dl).mul (f32Val dl))
  let rhs := toF32 ((Val.fin (k * k : Nat) 0).mul (f32Val var))
  decide (16 ≤ s.dir 40 4) && (f32Val dl).le (f32Val dl) && !(f32Val dl).le .zero && (f32Val rhs).le (f32Val lhs) &&
    !(f32Val lhs).le (f32Val rhs)

/-- VERDICT of Table 7.9. -/
def Escrow.verdict (e : Escrow) : Nat :=
  b2n e.lovf + 2 * b2n e.spike + 4 * b2n e.nonfin + 8 * b2n (e.lovf || e.spike || e.nonfin)

/-- The verdict is held (R332). -/
def Escrow.isHeld (e : Escrow) : Bool := e.lovf || e.spike || e.nonfin

/-- The layout copy of a group's BCOPY, when its descriptor and both layouts are well made. -/
def State.bcopyImage (s : State) (i : Nat) : Option CopyImage :=
  let x : BitVec 128 := BitVec.ofNat 128 (s.opnd i 16)
  let c := copyDesc x
  let src : BitVec 1024 := BitVec.ofNat 1024 (s.opnd c.src 128)
  let dst : BitVec 1024 := BitVec.ofNat 1024 (s.opnd c.dst 128)
  let a := layoutDesc src
  let b := layoutDesc dst
  if c.reserved || (s.dev.createLayout a false).isSome || (s.dev.createLayout b false).isSome || !s.dev.pairOk .lay a b c.fmt then none
  else some { index := i, desc := x, src := src, dst := dst }

/-- Next-bank anchor of a tensor (R314). -/
def Dev.nextAnchor (d : Dev) (t : Nat) : Int := match d.tensorEmax t with
  | none => d.anchor t
  | some e => clampInt (-512) 511 (e + 13)

/-- Forget the reports of the step and of earlier ones. -/
def Dev.pruneReports (d : Dev) (step : Nat) : Dev :=
  { d with ldg := { d.ldg with
      reports := d.ldg.reports.filter (fun (r : Nat × Nat × Nat × Nat × Nat) => decide (step < r.2.2.1)) } }

/-- Drop the cleared step (R337, Table 7.8): nothing of it is escrowed any more, and its reports are forgotten. -/
def Dev.abandonStep (d : Dev) (code step : Nat) : Dev :=
  (({ d with ldg := { d.ldg with record := d.ldg.record.map (fun e => { e with dropped := true }), state := .idle, waitFrom := none, chunks := [], finalIssued := false, outside := false } } : Dev).pruneReports
    step).raise code 24 0 step

/-- The record of the step that the chip holds in escrow (R333). -/
def Dev.escrowed (d : Dev) : Option Escrow := if d.ldg.state = .idle ∨ d.ldg.state = .clearing then none else d.ldg.record

/-- A cleared report of the escrowed step that differs from the chip's own sum or verdict sets DIVERGED and raises 0x5015 (R337).
A cleared step whose CLEAR_SUM differs is abandoned at once (Table 7.8); one whose verdict alone differs waits for its window
to end with the barrier unmet. -/
def Dev.judgeReport (d : Dev) (sum verdict : Nat) : Dev :=
  match d.escrowed with
  | none => d
  | some e =>
    if sum = e.clearSum ∧ verdict = e.verdict then d
    else
      let d1 := { d with ldg := { d.ldg with record := some { e with diverged := true } } }
      if d.ldg.state = .cleared ∧ sum ≠ e.clearSum then d1.abandonStep 0x5015 e.step else d1.raise 0x5015 24 0 0

/-- Judge every cleared report that has arrived for the escrowed step. -/
def Dev.judgeReports (d : Dev) : Dev :=
  match d.ldg.record with
  | none => d
  | some e =>
    (d.ldg.reports.filter (fun (r : Nat × Nat × Nat × Nat × Nat) => decide (r.2.1 = 1) && decide (r.2.2.1 = e.step))).foldl
      (fun (x : Dev) r => x.judgeReport r.2.2.2.1 r.2.2.2.2) d

/-- CLEARING_COMPLETE: when the LAST round has issued and every round has been applied (R326). Otherwise nothing happens. -/
def State.clearingComplete (s : State) : State :=
  match s.dev.ldg.state, s.dev.ldg.last with
  | .clearing, some slist =>
    if s.dev.ldg.rounds.any (fun r => !r.applied) then s
    else
      let ts := s.dev.gradTensors
      let s1 := ts.foldl (fun (u : State) t => u.checkBlocks t (List.range (u.dev.gradBlocks t))) s
      let s1 := s1.dirAudit
      let st := ts.map (fun t => (t, s1.clearedStats t))
      let d1 := st.foldl (fun (d : Dev) (p : Nat × (Hist × Int)) => d.addHist p.1 p.2.1) s1.dev
      let sum := wrap 64 (st.foldl (fun (acc : Int) (p : Nat × (Hist × Int)) => acc + p.2.2) 0)
      let loss := s1.stepLoss
      let spike := s1.spike loss
      let d2 := if spike then d1.raise 0x5017 24 0 0 else d1
      let step := d2.ldg.step
      let s2 := { s1 with dev := d2 }.mintClear step
      let d3 := s2.dev
      let gs := s2.settleList slist
      let e : Escrow :=
        { step := step, rank := d3.rank, members := d3.memberCount, clearSum := sum, lossSum := d3.ldg.lossSum, loss := loss
          lovf := d3.ldg.lovf, spike := spike, nonfin := d3.mnt.flags.nonfin, flags := d3.mnt.flags.byte, groups := gs
          copies := gs.filterMap (fun g => s2.bcopyImage g.bcopy)
          anchors := d3.ldg.anchors, nextAnchors := ts.map (fun t => (t, d3.nextAnchor t))
          lambdas := (List.range (d3.layerCount + 1)).map (fun l => (l, s2.lambda (if l = d3.layerCount then 0xFFFF else l)))
          ps := ts.map (fun t => (t, s2.gradP t)), qs := ts.map (fun t => (t, s2.gradP t)) }
      let d4 := { d3 with
        ldg := { d3.ldg with
          state := .cleared, record := some e, waitFrom := some (frameAfter d3.frm.frame 1), chunks := [], finalIssued := false
          outside := false, issued := [] }
        seq := { d3.seq with run := d3.seq.run.map (fun (r : RunCmd) => { r with cleared := true }) } }
      { s2 with dev := ((d4.setReg .ldgOver d3.ldg.overs).setReg .ldgLoss loss).judgeReports }
  | _, _ => s

end Sys2Proof.Machine
end

