-- ==== Sys2Proof/Machine/Settle.lean ====
section
/-! DEFINITION. Escrow and settlement (R333 to R357): reports, the barrier and the release condition, settlement chunks and the
optimizer computation, the settlement mint, commit, skip, abandonment and revert. -/

namespace Sys2Proof.Machine

/-! ### Reports and conditions (R334, R335, R338) -/

/-- A report of a kind and rank has arrived for a step. -/
def Dev.hasReport (d : Dev) (rank kind step : Nat) : Bool :=
  d.ldg.reports.any (fun (r : Nat × Nat × Nat × Nat × Nat) => decide (r.1 = rank ∧ r.2.1 = kind ∧ r.2.2.1 = step))

/-- The barrier of the escrowed step is met (R334). -/
def Dev.barrierMet (d : Dev) : Bool :=
  match d.ldg.record with
  | none => false
  | some e =>
    (d.ldg.state = .cleared || d.ldg.state = .held) && !e.diverged && d.liveRanks.all (fun k => d.hasReport k 1 e.step) &&
    (d.ldg.reports.filter (fun (r : Nat × Nat × Nat × Nat × Nat) => decide (r.2.1 = 1 ∧ r.2.2.1 = e.step))).all
      (fun (r : Nat × Nat × Nat × Nat × Nat) => decide (r.2.2.2.1 = e.clearSum ∧ r.2.2.2.2 = e.verdict))

/-- The release condition of the escrowed step holds (R335). -/
def Dev.releaseMet (d : Dev) : Bool :=
  match d.ldg.record with
  | none => false
  | some e => d.ldg.state = .settled && d.liveRanks.all (fun k => d.hasReport k 2 e.step)

/-- First 8 bytes of the step digest. -/
def Escrow.digest8 (e : Escrow) : Nat := e.digest % 2 ^ 64

/-- The 32 bytes of a report (Table 7.9). -/
def reportBytes (kind verdict rank step sum digest8 : Nat) : List Byte :=
  leBytes 1 kind ++ leBytes 1 verdict ++ leBytes 1 rank ++ leBytes 1 0 ++ leBytes 8 step ++ leBytes 8 sum ++ leBytes 8 digest8 ++
  leBytes 4 0

/-- A report of the escrowed step. -/
def Escrow.report (e : Escrow) (kind : Nat) (streams : List Nat) : Report :=
  { kind := kind, step := e.step, verdict := e.verdict, rank := e.rank, clearSum := e.clearSum
    digest8 := if kind = 2 ∨ kind = 4 then e.digest8 else 0, streams := streams }

def Report.bytes (r : Report) : List Byte := reportBytes r.kind r.verdict r.rank r.step r.clearSum r.digest8

/-- Queue a report that the H1 sends itself (R338). -/
def Dev.deferReport (d : Dev) (kind : Nat) : Dev :=
  match d.ldg.record with
  | none => d
  | some e => { d with ldg := { d.ldg with
      deferred := d.ldg.deferred ++ [e.report kind (d.streamsOf 2 false)], issued := kind :: d.ldg.issued } }

/-- Reports that a cancelled program did not issue (R338). -/
def Dev.deferOwed (d : Dev) : Dev :=
  let owes := fun (x : Dev) (k : Nat) => !x.ldg.issued.contains k
  let d1 := if d.ldg.state = .cleared ∨ d.ldg.state = .held ∨ d.ldg.state = .settling ∨ d.ldg.state = .settled then
      (if owes d 1 then d.deferReport 1 else d)
    else d
  if d1.ldg.state = .settled ∧ owes d1 2 then d1.deferReport 2 else d1

/-- The fault of a REPORT at issue (R338, R339), before the admission of its copies: its kind, which is ARG[2:0], and the step it
speaks of, whose record must be that of the attempt in progress. -/
def Dev.reportFault (d : Dev) (arg : Nat) : Option Nat :=
  let kind := arg % 8
  match d.ldg.record with
  | none => some 0x5002
  | some e =>
    if (kind ≠ 1 ∧ kind ≠ 2) ∨ e.step ≠ d.ldg.step ∨ e.dropped then some 0x5002
    else if kind = 2 ∧ !e.settled then some 0x5002
    else none

/-- REPORT. -/
def Dev.report (d : Dev) (arg : Nat) : Dev :=
  match d.ldg.record with
  | none => d
  | some e =>
    let b := (e.report (arg % 8) []).bytes
    let d1 := (d.streamsOf 2 false).foldl (fun (x : Dev) i => x.sendMessage i b) d
    { d1 with ldg := { d1.ldg with issued := arg % 8 :: d1.ldg.issued } }

/-- DEFERRED_REPORT_SEND: the oldest report that the H1 sends itself goes out on each class 2 stream that has room in this
frame; it stays for the others. -/
def Dev.deferredReportSend (d : Dev) : Dev :=
  match d.ldg.deferred with
  | [] => d
  | r :: rest =>
    let x := r.streams.foldl (fun (acc : Dev × List Nat) i =>
      let y := acc.1.trySend i acc.1.frm.cycle r.bytes
      if y.1 then (y.2, acc.2) else (acc.1, acc.2 ++ [i])) (d, [])
    { x.1 with ldg := { x.1.ldg with deferred := if x.2.isEmpty then rest else { r with streams := x.2 } :: rest } }

/-- Partners whose reverted report of a released step has arrived are out of date (R354, R481). -/
def Dev.staleReverters (d : Dev) (step : Nat) : Dev :=
  let ps := d.memberPartners.filter (fun p => d.hasReport (d.rankOf (d.partner p).fp) 3 step)
  if ps.isEmpty then d else { d with prt := { d.prt with stale := ps.foldl sinsert d.prt.stale } }

/-- REPORT_RECEIVED on a class 2 receive stream (R321, R334, R337, R354), which an unaligned chip does not accept (R82). -/
def Dev.reportReceived (d : Dev) (stream : Nat) (msg : BitVec 256) : Dev :=
  let e := d.stream stream
  if !d.frm.aligned ∨ !e.valid ∨ e.cls ≠ 2 ∨ !e.recv then d
  else
    let kind := fld msg 0 8
    let step := fld msg 32 64
    let sum := fld msg 96 64
    let verdict := fld msg 8 8
    let rank := d.rankOf (d.partner e.partner).fp
    if fld msg 16 8 ≠ rank then d.raise 0x501C 24 stream 0
    else
      let old := d.ldg.reports.filter (fun (r : Nat × Nat × Nat × Nat × Nat) => !decide (r.1 = rank ∧ r.2.1 = kind ∧ r.2.2.1 = step))
      let d1 := { d with ldg := { d.ldg with reports := (rank, kind, step, sum, verdict) :: old } }
      if kind = 1 then
        (match d1.ldg.record with
          | none => d1
          | some x => if x.step = step then d1.judgeReport sum verdict else d1)
      else if kind = 4 then
        let d2 := ({ d1 with ldg := { d1.ldg with releasedSeen := sinsert d1.ldg.releasedSeen step } } : Dev).staleReverters step
        if d1.ldg.reverted.contains step then
          { d2 with ldg := { d2.ldg with outOfDate := true } }.raise 0x5018 24 0 0
        else d2
      else if kind = 3 && d1.ldg.releasedSeen.contains step then
        { d1 with prt := { d1.prt with stale := sinsert d1.prt.stale e.partner } }
      else d1

/-! ### The optimizer computation (R344 to R346, Table 7.12) -/

/-- Encode a value in F32 with one RNE: what the settlement mint writes, and the one tally in which it counts (R168 to R171). A
non-finite value is the canonical NaN (R348). -/
def encF32 (v : Val) : Enc := if v.nonfin then { code := 0x7FC00000, nonfin := true } else encodeFloat layF32 v

/-- F32 of an exact value with one RNE, and its encoding. -/
def rnF32 (v : Val) : Val × Enc :=
  let e := encF32 v
  (f32Val e.code, e)

/-- Parameters of a group in a step. -/
structure OptParams where
  opt : Nat
  bias : Bool
  beta1 : Val
  beta2 : Val
  b1 : Val
  b2 : Val
  q1 : Val
  q2 : Val
  eta : Val
  eps : Val
  wd : Val
  gscale : Val
  A : Int
  lam : Int

/-- Parameters of a group (b1, b2, q1, q2 once per group and step). -/
def groupParams (g : GroupDesc) (p : Nat × Nat) (A lam : Int) : OptParams :=
  let one : Val := .fin 1 0
  let x := fun (c : Nat) => f32Val c
  let sub := fun (v : Val) => (rnF32 (one.add v.neg)).1
  { opt := g.opt, bias := g.bias, beta1 := x g.beta1, beta2 := x g.beta2, b1 := sub (x g.beta1), b2 := sub (x g.beta2)
    q1 := (rnF32 ((x p.1).mul (x g.beta1))).1, q2 := (rnF32 ((x p.2).mul (x g.beta2))).1, eta := x g.eta, eps := x g.eps
    wd := x g.wd, gscale := x g.gscale, A := A, lam := lam }

/-- m′ and u2′ as they are encoded, d, and whether the rounding of an intermediate value saturated. -/
structure OptState where
  m : Enc
  u2 : Enc
  d : Val
  sat : Bool

/-- The sign of a value as a value. -/
def Val.sign : Val → Val
  | .fin m _ => .fin (if 0 < m then 1 else if m < 0 then -1 else 0) 0
  | _ => .nan

/-- The rows m′, u2′ and d of Table 7.12. -/
def optState (p : OptParams) (v : Int) (m u2 : Val) : OptState :=
  let g := rnF32 ((Val.fin v (p.A - 62)).mul p.gscale)
  match p.opt with
  | 0 =>
    let m1 := rnF32 ((p.beta1.mul m).add g.1)
    { m := m1.2, u2 := encF32 u2, d := m1.1, sat := g.2.sat }
  | 1 =>
    let m1 := rnF32 ((p.beta1.mul m).add (p.b1.mul g.1))
    let u1 := rnF32 ((p.beta2.mul u2).add ((p.b2.mul g.1).mul g.1))
    let one : Val := .fin 1 0
    let mh := if p.bias then rnF32 (m1.1.div (rnF32 (one.add p.q1.neg)).1) else m1
    let uh := if p.bias then rnF32 (u1.1.div (rnF32 (one.add p.q2.neg)).1) else u1
    let den := rnF32 (uh.1.sqrt.add p.eps)
    let d := rnF32 (mh.1.div den.1)
    { m := m1.2, u2 := u1.2, d := d.1, sat := g.2.sat || (p.bias && (mh.2.sat || uh.2.sat)) || den.2.sat || d.2.sat }
  | _ =>
    let m1 := rnF32 ((p.beta2.mul m).add (p.b2.mul g.1))
    let s := rnF32 ((p.beta1.mul m).add (p.b1.mul g.1))
    { m := m1.2, u2 := encF32 u2, d := s.1.sign, sat := g.2.sat || s.2.sat }

/-- The generator of R346: its top 32 bits. -/
def settleRandom (seed p s : Nat) : Nat :=
  let m := 2 ^ 64
  let z0 := (seed + p + 0x9e3779b97f4a7c15 * (s + 1)) % m
  let z1 := ((z0 ^^^ (z0 / 2 ^ 30)) * 0xbf58476d1ce4e5b9) % m
  let z2 := ((z1 ^^^ (z1 / 2 ^ 27)) * 0x94d049bb133111eb) % m
  (z2 ^^^ (z2 / 2 ^ 31)) / 2 ^ 32

/-- Round y = m × 2^e to F32, stochastically with the draw `r` (R346). -/
def stochasticF32 (m e : Int) (r : Nat) : Enc :=
  if m = 0 then { code := 0 }
  else
    let lsb := max (exponentOf m e - 23) (-149)
    let k := e - lsb
    let lo : Int := if 0 ≤ k then m * 2 ^ k.toNat else m / (2 ^ (-k).toNat : Nat)
    let frac : Nat := if 0 ≤ k then 0 else (m % (2 ^ (-k).toNat : Nat)).toNat * 2 ^ 32 / 2 ^ (-k).toNat
    let up := decide (k < 0) && decide (m % (2 ^ (-k).toNat : Nat) ≠ 0) && decide (r < frac)
    let q := if up then lo + 1 else lo
    { encodeFloat layF32 (.fin q lsb) with zeroed := decide (q = 0) }

/-- The largest update word. -/
def wordMax : Int := 2 ^ 31 - 1

/-- What settling one entry gives: w′, m′ and u2′, each with the one tally in which it counts, and Δ. -/
structure SettleOut where
  w : Enc
  m : Enc
  u2 : Enc
  delta : Val
  deriving DecidableEq, Repr

/-- Code of a value; the canonical NaN for a non-finite one. -/
def codeF32 (v : Val) : Nat := (encF32 v).code

/-- Settle one entry: ledger value v, codes of w, m and u2; `draw` is the stochastic draw under SRND. A saturation of g, of a
bias-corrected moment, of the denominator, of d, of the decay sum or of Δ counts, with a clamped u, as a saturation of w′
(DESIGN CHOICE, log entry 156); a u of 0 from a non-zero Δ, or a w′ that rounds to 0, as zeroed (R170, R345). -/
def settleEntry (p : OptParams) (v : Int) (w m u2 : Nat) (draw : Option Nat) : SettleOut :=
  let o := optState p v (f32Val m) (f32Val u2)
  let wv := f32Val w
  let t := rnF32 (o.d.add (p.wd.mul wv))
  let dl := rnF32 (p.eta.mul t.1)
  let sat0 := o.sat || t.2.sat || dl.2.sat
  match dl.1, wv with
  | .fin a e, .fin b f =>
    let u0 := rneShift a (e + 31 - p.lam)
    let u := clampInt (-wordMax) wordMax u0
    let y := dyadAdd b f (-u) (p.lam - 31)
    let r : Enc := match draw with
      | some x => stochasticF32 y.1 y.2 x
      | none => encF32 (.fin y.1 y.2)
    let sat := sat0 || decide (u ≠ u0) || r.sat
    { w := { code := r.code, sat := sat, zeroed := !sat && (decide (u = 0 ∧ a ≠ 0) || r.zeroed) }, m := o.m, u2 := o.u2, delta := .fin a e }
  | _, _ => { w := encF32 .nan, m := o.m, u2 := o.u2, delta := .nan }

/-! ### Settling entries (R344, R347, R348) -/

/-- Index of the layer of a group's entries in the directory: the LAYER of MASTER, or the final entry. -/
def Dev.groupLayer (d : Dev) (g : GroupDesc) : Nat :=
  let l := (d.tensor g.master).layer
  if l = 0xFFFF then d.layerCount else l

/-- The settlement engine that settles entry `i` of a group: the one of the stack that holds the entry (R343, R401). -/
def Dev.settleWho (d : Dev) (g : GroupDesc) (i : Nat) : Who :=
  Who.stack (d.placeOf (d.alloc (d.tensor g.master).alloc) (4 * i)) 4

/-- Read element `i`, of `n` bytes, of an allocation: code and poison. -/
def State.settleRead (s : State) (w : Who) (a i n : Nat) : Option (Nat × Bool) × State :=
  let r := s.loadAlloc w a (n * i) n
  (r.1.map (fun b => (leNat b.1, b.2)), r.2)

/-- Write one F32 word. -/
def State.settleWrite (s : State) (w : Who) (a i code : Nat) (poison : Bool) : Bool × State :=
  s.storeAlloc w a (4 * i) (leBytes 4 code) poison

/-- Change the escrow record. -/
def Dev.modRecord (d : Dev) (f : Escrow → Escrow) : Dev := { d with ldg := { d.ldg with record := d.ldg.record.map f } }

/-- A flag that settlement sets for its step: in the flags of the step in progress, in MNT.FLAGS and in the step record (R263,
Table 7.4). -/
def Dev.settleFlag (d : Dev) (bit : Nat) : Dev :=
  ({ d with mnt := { d.mnt with flags := stepFlags (d.mnt.flags.byte ||| 2 ^ bit) } }.lateFlag bit).modRecord
    (fun e => { e with flags := e.flags ||| 2 ^ bit })

/-- The saturation of a master weight or state: SSAT, and 0x5016 once per step (Table 5.7, R345). -/
def Dev.settleSat (d : Dev) (t : Nat) : Dev :=
  let first := match d.ldg.record with
    | none => false
    | some e => !e.flags.testBit 7
  let d1 := d.settleFlag 7
  if first then d1.raise 0x5016 24 t 0 else d1

/-- Count an F32 word that the settlement mint of stack `k` writes into tensor `t`: tallies, histogram, flags (Tables 5.1, 5.4 and
5.7, R174, R348). -/
def Dev.settleTally (d : Dev) (t k : Nat) (e : Enc) : Dev :=
  let d1 := d.tallySettled t k (({} : Tally).add e) 0 [f32Val e.code]
  let d2 := if e.sat then d1.settleSat t else d1
  if e.nonfin then d2.settleFlag 1 else d2

/-- Count what settling an entry on stack `k` wrote; `void` tells that the ledger entry was read with the code that no engine
writes, which counts as a saturation of GRAD (R151; DEDUCED, log entry 158). -/
def Dev.settleCount (d : Dev) (g : GroupDesc) (k : Nat) (void : Bool) (o : SettleOut) : Dev :=
  let l := d.groupLayer g
  let d4 := (List.zip g.homes [o.w, o.m, o.u2]).foldl (fun (x : Dev) (p : Nat × Enc) => x.settleTally p.1 k p.2) d
  let d5 := if void then d4.tallySettled g.grad k { sat := 1 } 0 [] else d4
  match o.delta with
  | .fin a e =>
    if a = 0 then d5
    else d5.modRecord (fun x => { x with eus := tput x.eus l (match tget x.eus l with
      | none => exponentOf a e
      | some y => max y (exponentOf a e)) })
  | _ => d5

/-- Parameters of group `g` from the escrow record. -/
def Dev.escrowParams (d : Dev) (g : GroupDesc) : OptParams :=
  match d.ldg.record with
  | none => groupParams g (0x3F800000, 0x3F800000) 0 0
  | some e => groupParams g (tgetD e.ps g.grad (0x3F800000, 0x3F800000)) (tgetD e.anchors g.grad 0)
      (tgetD e.lambdas (d.groupLayer g) 0)

/-- Entry `i` of group number `gi` has its escrow image (R353). -/
def Dev.addImage (d : Dev) (gi i : Nat) : Dev := d.modRecord (fun r =>
  { r with images := match r.images with
    | [] => [(gi, i, 1)]
    | x :: t => if x.1 = gi ∧ x.2.1 + x.2.2 = i then (gi, x.2.1, x.2.2 + 1) :: t else (gi, i, 1) :: x :: t })

/-- Settle entry `i` of group number `gi`, `g` (R344 steps 1 to 4); `false` when an access was refused. -/
def State.settleOne (s : State) (gi : Nat) (g : GroupDesc) (i : Nat) : Bool × State :=
  let d := s.dev
  let who := d.settleWho g i
  let step := match d.ldg.record with
    | none => 0
    | some e => e.step
  let h := step % 2
  let E := d.gradEntries g.grad
  let ga := (d.tensor g.grad).alloc
  let rv := s.settleRead who ga (h * E + i) 8
  let words := g.homes.foldl (fun (acc : Option (List (Nat × Bool)) × State) t =>
    match acc.1 with
    | none => acc
    | some l =>
      let r := acc.2.settleRead who (d.tensor t).alloc i 4
      (r.1.map (fun x => l ++ [x]), r.2)) (some [], rv.2)
  match rv.1, words.1 with
  | some v, some ws =>
    let img := (List.zip (List.range ws.length) ws).foldl (fun (acc : Bool × State) (p : Nat × (Nat × Bool)) =>
      if acc.1 then acc.2.settleWrite who g.escrow (p.1 * E + i) p.2.1 p.2.2 else acc) (true, words.2)
    if !img.1 then img
    else
      let w := (ws.getD 0 (0, false)).1
      let m := (ws.getD 1 (0, false)).1
      let u := (ws.getD 2 (0, false)).1
      let draw := if d.modeSrnd then some (settleRandom g.seed (g.master * 2 ^ 40 + i) step) else none
      let o := settleEntry (d.escrowParams g) (l64Value v.1) w m u draw
      let bad := v.2 || ws.any Prod.snd
      let outs := List.zip g.homes [o.w.code, o.m.code, o.u2.code]
      let s2 := { img.2 with dev := img.2.dev.addImage gi i }
      let x := outs.foldl (fun (acc : Bool × State) (p : Nat × Nat) =>
        if acc.1 then acc.2.settleWrite who (d.tensor p.1).alloc i p.2 bad else acc) (true, s2)
      if x.1 then (true, { x.2 with dev := x.2.dev.settleCount g who.inst (l64Void v.1) o }) else x
  | _, _ => (false, words.2)

/-! ### The settlement mint (R247, R248, R250) -/

/-- Codes of a weight block at scale E. -/
def mintCodes (f : Fmt) (E : Nat) (vs : List Val) : List Enc := vs.map (fun v => encodeElem f v E 0)

/-- Exact values of the master weights of block `j`. -/
def State.masterBlock (s : State) (g : GroupDesc) (j : Nat) : List Val :=
  (List.range (min 32 (s.dev.gradEntries g.grad - 32 * j))).map (fun i => f32Val (s.peek (s.dev.tensor g.master).alloc (4 * (32 * j + i)) 4))

/-- Bytes of a forward copy's block: linear codes in entry order. -/
def blockCodes (f : Fmt) (es : List Enc) : List Byte := packCodes f.container (es.map Enc.code)

/-- Store block `j` of a group's forward copy. -/
def State.storeCopyBlock (s : State) (g : GroupDesc) (f : Fmt) (j : Nat) (es : List Enc) : Bool × State :=
  let a := (s.dev.tensor g.fwd).alloc
  s.storeAlloc (s.dev.settleWho g (32 * j)) a (4 * f.container * j) (blockCodes f es)

/-- Tracker entry of block `j` of a tensor in the current bank, with its index; `none` where the table does not list the tensor. -/
def State.blockTracker (s : State) (t j : Nat) : Option (Nat × TrkEntry) := match s.trkDir t with
  | none => none
  | some e => some (e.first + j, s.trkEntry s.dev.mnt.bank (e.first + j))

/-- Block `j` of a tensor lies beyond its directory entry. -/
def State.noTracker (s : State) (t j : Nat) : Bool := s.trkBeyond t j

/-- Mint block `j` of a group into its forward copy (R247, R248, R250), updating its tracker in the next bank with the block's statistics of
the step beside its own (R234). Where a foreign table keeps no tracker for it, a warm-up step mints it at the seed's scale all the same
(R250, R259). -/
def State.settleMint (s0 : State) (g : GroupDesc) (j : Nat) : State :=
  let w := s0.dev.settleWho g (32 * j)
  let s := s0.trkRead w g.fwd j
  let d := s.dev
  let x := d.tensor g.fwd
  match fmtOf x.fmt with
  | some f =>
    if s.noTracker g.fwd j then s
    else
      let vs := s.masterBlock g j
      let hi := maxNat (vs.map (statHi f))
      let tr := s.blockTracker g.fwd j
      let old := (tr.map Prod.snd).getD {}
      let met := tgetD d.mnt.blocks (blockKey g.fwd j) {}
      let stamp := match d.ldg.record with
        | none => 0
        | some r => r.step
      let b : BlockStats := { hi := hi, ovf := old.ovf || met.ovf }
      let n0 := if d.mnt.warmup then seedEntry f x.head b none stamp else old.update f x.trackK x.head b stamp
      let es0 := mintCodes f n0.E vs
      let sat0 := es0.any Enc.sat
      let again := sat0 && x.rerun
      let E1 := if again then min 254 (n0.E + 1) else n0.E
      let es := if again then mintCodes f E1 vs else es0
      let n := es.foldl Tally.add {}
      let ent := { n0 with
        E := E1, ovf := decide (0 < n.sat), rerun := again || met.rerun, sat := satAdd 16 met.sat n.sat, zero := satAdd 16 met.zero n.zero }
      let r := s.storeCopyBlock g f j es
      if !r.1 then r.2
      else
        let s1 := match tr with
          | some e => r.2.putTrk w (1 - d.mnt.bank) e.1 ent
          | none => r.2
        let d2 := s1.dev.tallySettled g.fwd w.inst n (b2n again) (es.map (fun c => decodeElem f c.code E1 0))
        let d3 := if n.sat = 0 then d2 else (d2.flagBlock 0 w.unit g.fwd).settleFlag 2
        { s1 with dev := if n.nonfin = 0 then d3 else d3.settleFlag 1 }
  | none => s

/-- Re-mint block `j` with the current tracker bank (R353), at E = 127 while the trackers are cold; its conversions count (R169, R170,
R174). -/
def State.remintBlock (s : State) (g : GroupDesc) (j : Nat) : State :=
  match fmtOf (s.dev.tensor g.fwd).fmt with
  | some f =>
    if s.noTracker g.fwd j then s
    else
      let E := if s.dev.mnt.warmup then 127 else match s.blockTracker g.fwd j with
        | some e => min 254 e.2.E
        | none => 127
      let es := mintCodes f E (s.masterBlock g j)
      let n := es.foldl Tally.add {}
      let vs := es.map (fun c => decodeElem f c.code E 0)
      let r := s.storeCopyBlock g f j es
      if !r.1 then r.2 else { r.2 with dev := r.2.dev.tallySettled g.fwd (r.2.dev.settleWho g (32 * j)).inst n 0 vs }
  | none => s

/-- The settlement engines of a range of entries read the anchor and the update exponent in the directory (R616). -/
def State.settleDir (s : State) (g : GroupDesc) (first count : Nat) : State :=
  let ks := dedup [] ((List.range (ceilDiv count 32)).map (fun j => (s.dev.settleWho g (first + 32 * j)).inst))
  ks.foldl (fun (u : State) k =>
    (u.dirTouch (u.gradOffDir g.grad) 32 (Who.stack k 4)).dirTouch (u.dir 52 4 + 8 * u.dev.groupLayer g) 8 (Who.stack k 4)) s

/-- Settle the entries [first, first + count) of group number `gi`, and mint their blocks. -/
def State.settleRange (s : State) (gi first count : Nat) : State :=
  match s.dev.ldg.record with
  | none => s
  | some e =>
    match e.groups[gi]? with
    | none => s
    | some g =>
      let x := (List.range count).foldl (fun (acc : Bool × State) i => if acc.1 then acc.2.settleOne gi g (first + i) else acc)
        (true, s.settleDir g first count)
      let s1 := { x.2 with dev := x.2.dev.modRecord (fun r =>
        let p := s.dev.escrowParams g
        { r with qs := tput r.qs g.grad (codeF32 p.q1, codeF32 p.q2) }) }
      if x.1 then (List.range (ceilDiv count 32)).foldl (fun (u : State) j => u.settleMint g (first / 32 + j)) s1 else s1

/-- The backward copy of group `gi`, with the layout copy that the escrow record keeps (R343). -/
def Dev.groupCopy (d : Dev) (gi : Nat) : Option CopyImage :=
  match d.ldg.record with
  | none => none
  | some e => match e.groups[gi]? with
    | none => none
    | some g => e.copies.find? (fun c => c.index = g.bcopy)

/-- Run a layout copy image on every stack. -/
def State.runImage (s : State) (c : CopyImage) : State :=
  let l := (layoutDesc c.src, layoutDesc c.dst)
  (List.range 12).foldl (fun (u : State) k =>
    if (List.range l.2.count).any (u.dev.layMine k l.2) then u.layCopyPair k (copyDesc c.desc) l else u) s

/-- Run a backward copy on every stack. -/
def State.runBcopy (s : State) (gi : Nat) : State :=
  match s.dev.groupCopy gi with
  | none => s
  | some c => s.runImage c

/-! ### SETTLE (R340 to R343) -/

structure ChunkDesc where
  group : Nat
  barrier : Bool
  final : Bool
  glast : Bool
  first : Nat
  count : Nat
  reserved : Bool

def State.chunkAt (s : State) (arg : Nat) : ChunkDesc :=
  let x := s.opnd arg 16
  { group := nfld x 0 6, barrier := x.testBit 6, final := x.testBit 7, glast := x.testBit 8, first := nfld x 32 36
    count := nfld x 68 36, reserved := nfld x 9 23 ≠ 0 ∨ nfld x 104 24 ≠ 0 }

/-- The settle list that a chunk's GROUP counts in: the escrowed step's, or the one that the step's LAST round has named; none
while neither is known. -/
def State.chunkGroups (s : State) : Option (List GroupDesc) := match s.dev.escrowed with
  | some e => some e.groups
  | none => s.dev.ldg.last.map s.settleList

/-- The chunk lies in a group of the list that passes R341, which the charter may have changed since the CLEAR with LAST. -/
def State.chunkInside (s : State) (c : ChunkDesc) : Bool := match s.chunkGroups with
  | none => true
  | some gs => match gs[c.group]? with
    | none => false
    | some g => s.dev.groupOk g && decide (c.first + c.count ≤ s.dev.gradEntries g.grad)

/-- The fault of a SETTLE at issue (R341, R342). A BARRIER chunk that issues before the chip holds its step in escrow finds the
barrier unmet. -/
def State.settleFault (s : State) (arg : Nat) : Option Nat :=
  let c := s.chunkAt arg
  let d := s.dev
  if c.reserved || c.first % 32 ≠ 0 || c.count % 32 ≠ 0 || !s.chunkInside c then some 0x5002
  else match d.escrowed with
    | none => some (if c.barrier then 0x5012 else 0x5002)
    | some e =>
      if c.barrier then (if !d.barrierMet then some 0x5012 else if e.isHeld then some 0x5011 else none)
      else if d.ldg.state ≠ .settling then some 0x5002
      else none

/-- A charge of an engine's committed end: charged engine, engine that works, earliest start, cost. -/
abbrev Charge := Nat × Nat × Nat × Nat

/-- A charge that starts at its slot's cycle. -/
def plainCharge (c : Nat × Nat × Nat) : Charge := (c.1, c.2.1, 0, c.2.2)

/-- Charges of a SETTLE at cycle `t` (R343): the chunk on each stack, and with GLAST the backward copy after it. -/
def State.settleCharges (s : State) (arg t : Nat) : List Charge :=
  let c := s.chunkAt arg
  let d := s.dev
  match d.ldg.record with
  | none => []
  | some e =>
    match e.groups[c.group]? with
    | none => []
    | some g =>
      let a := d.alloc (d.tensor g.master).alloc
      let f := match fmtOf (d.tensor g.fwd).fmt with
        | some x => x.container
        | none => 8
      let per := (List.range 12).filterMap (fun k =>
        let n := ((List.range c.count).filter (fun i => d.placeOf a (4 * (c.first + i)) = k)).length
        if n = 0 then none else some (k, n))
      let own := per.map (fun (p : Nat × Nat) => stackCharge p.1 (ceilDiv (p.2 * (256 + 384 * (1 + g.states) + 4 * f + 1)) 2048))
      let stop := maxNat (t :: own.map (fun (x : Nat × Nat × Nat) => d.copyEnd x.1 t x.2.2))
      let lay := if c.glast then
          (match d.groupCopy c.group with
            | none => []
            | some i =>
              let l := layoutDesc i.dst
              (List.range 12).filterMap (fun k =>
                let n := ((List.range l.count).filter (d.layMine k l)).length
                if n = 0 then none else some (layEngine k, layEngine k, stop, 32 + ceilDiv n 64)))
        else []
      own.map plainCharge ++ lay

/-- A SETTLE that fails because the barrier is met with a held verdict leaves the escrow held (R342). -/
def Dev.settleHeld (d : Dev) : Dev :=
  ({ d with ldg := { d.ldg with state := .held, waitFrom := none } }).modRecord (fun e => { e with wasHeld := true })

/-- A SETTLE that issues. -/
def State.settleChunk (s : State) (arg : Nat) : State :=
  let c := s.chunkAt arg
  let d := s.dev
  let s1 := { s with dev := { d with ldg := { d.ldg with
    state := .settling, waitFrom := none
    chunks := d.ldg.chunks ++ [({ group := c.group, first := c.first, count := c.count, final := c.final } : Chunk)]
    finalIssued := d.ldg.finalIssued || c.final } } }
  let s2 := s1.settleRange c.group c.first c.count
  if c.glast then s2.runBcopy c.group else s2

/-! ### The step digest and the end of settlement (R349) -/

/-- Bytes of an allocation that stack `k` holds, in ascending order. -/
def State.bytesOn (s : State) (a k : Nat) : List Byte :=
  let e := s.dev.alloc a
  (granPieces 0 e.size).flatMap (fun p => if s.dev.placeOf e p.1 = k then s.rd (s.dev.translate e p.1) p.2 else [])

/-- The step digest. -/
def State.stepDigest (s : State) (gs : List GroupDesc) : Nat :=
  let ms := gs.foldl (fun l (g : GroupDesc) => sinsert l g.master) []
  shake256 (ms.flatMap (fun t =>
    let a := (s.dev.tensor t).alloc
    (s.dev.alloc a).placeList.flatMap (fun k => leBytes 32 (shake256 (s.bytesOn a k)))))

/-- Settlement is complete: the digest is formed and the wait for release begins at the next tick (R336). A step that has settled again is
no longer one that the chip has reverted (R354). -/
def State.settleFinish (s : State) : State :=
  match s.dev.ldg.record with
  | none => s
  | some e =>
    let g := s.stepDigest e.groups
    let d : Dev := { s.dev with ldg := { s.dev.ldg with
      state := .settled, waitFrom := some (frameAfter s.dev.frm.frame 1), chunks := [], outside := false
      reverted := s.dev.ldg.reverted.filter (· ≠ e.step) } }
    { s with dev := d.modRecord (fun r => { r with digest := g, settled := true }) }

/-- SETTLE_CHUNK_COMPLETE: the oldest chunk in progress completes; after the FINAL one the step is settled. A halt leaves a chunk in
progress to revert (R514). -/
def State.settleChunkComplete (s : State) : State :=
  match s.dev.ldg.state, s.dev.ldg.chunks with
  | .settling, c :: rest =>
    if s.dev.flt.caught then s
    else
    let s1 := { s with dev := { s.dev with ldg := { s.dev.ldg with chunks := rest } } }
    if c.final then s1.settleFinish else s1
  | _, _ => s

/-- Entries of group `gi` that have no escrow image yet, as ranges. -/
def Escrow.missing (e : Escrow) (gi n : Nat) : List Nat :=
  (List.range n).filter (fun i => !e.images.any (fun (x : Nat × Nat × Nat) => decide (x.1 = gi ∧ x.2.1 ≤ i ∧ i < x.2.1 + x.2.2)))

/-- Settle whatever of group `gi` is not settled, 32 entries at a time, then run its backward copy (R343). -/
def State.settleGroup (s : State) (gi : Nat) : State :=
  match s.dev.ldg.record with
  | none => s
  | some e =>
    match e.groups[gi]? with
    | none => s
    | some g =>
      let n := s.dev.gradEntries g.grad
      let todo := e.missing gi n
      let s1 := (List.range (ceilDiv n 32)).foldl (fun (u : State) j =>
        if todo.contains (32 * j) then u.settleRange gi (32 * j) (min 32 (n - 32 * j)) else u) s
      if todo.isEmpty then s1 else s1.runBcopy gi

/-- SETTLEMENT_OUTSIDE_PROGRAM (R341, R343): the settlement engines run every group of the escrowed settle list. A chip that a halt has
caught settles nothing (R514); a stop at a tick leaves the escrow protocol to run on. -/
def State.settlementOutside (s : State) : State :=
  match s.dev.ldg.record with
  | none => s
  | some e =>
    if s.dev.ldg.state ≠ .settling ∨ !s.dev.ldg.outside ∨ s.dev.flt.caught then s
    else
      let s1 := (List.range e.groups.length).foldl (fun (u : State) gi => u.settleGroup gi) s
      let s2 := { s1 with dev := s1.dev.raise 0x5013 24 0 0 }.settleFinish
      { s2 with dev := s2.dev.deferReport 2 }

/-! ### Commit, skip, revert (R314, R347, R350, R351, R353) -/

/-- FLAGS of the step record (Table 7.4). -/
def Escrow.recordFlags (e : Escrow) (skipped : Bool) : Nat :=
  e.flags + 2 ^ 8 * b2n e.lovf + 2 ^ 9 * b2n e.spike + 2 ^ 10 * b2n e.wasHeld + 2 ^ 11 * b2n e.released + 2 ^ 12 * b2n skipped

/-- The 64 bytes of the step record. -/
def Escrow.recordBytes (e : Escrow) (skipped : Bool) : List Byte :=
  leBytes 8 e.step ++ leBytes 4 e.loss ++ leBytes 4 (e.recordFlags skipped) ++ leBytes 8 (wrap 64 e.lossSum) ++ leBytes 8 e.clearSum ++
  leBytes 32 (if skipped then 0 else e.digest)

/-- Fold the loss into the history (R350). -/
def State.foldLoss (s : State) (loss : Nat) : State :=
  let mean := s.dir 32 4
  let msq := s.dir 36 4
  let l := f32Val loss
  let fold := fun (m : Nat) (x : Val) => toF32 ((f32Val m).add ((x.add (f32Val m).neg).scale (-6)))
  ((s.putDir 32 (leBytes 4 (fold mean l))).putDir 36 (leBytes 4 (fold msq (l.mul l)))).putDir 40
    (leBytes 4 (satAdd 32 (s.dir 40 4) 1))

/-- Write the staged values into the non-current bank and make it current. -/
def State.commitBanks (s : State) (e : Escrow) : State :=
  let nb := 1 - s.dirBank
  let ts := s.dev.gradTensors
  let s1 := ts.foldl (fun (u : State) t =>
    let o := u.gradOffDir t
    let p := tgetD e.qs t (0x3F800000, 0x3F800000)
    let u1 := u.putDir (o + 4 + 2 * nb) (leBytes 2 (wrap 16 (tgetD e.nextAnchors t 0)))
    let u2 := (u1.putDir (o + 12 + 4 * nb) (leBytes 4 p.1)).putDir (o + 20 + 4 * nb) (leBytes 4 p.2)
    u2.putDir (o + 8) (leBytes 1 (u2.dir (o + 8) 1 ||| 2 ^ nb))) s
  let s2 := (List.range (s.dev.layerCount + 1)).foldl (fun (u : State) l =>
    let o := u.dir 52 4 + 8 * l
    let x : Int := match tget e.eus l with
      | some eu => eu + 2
      | none => tgetD e.lambdas l 0
    let u1 := u.putDir (o + 2 + 2 * nb) (leBytes 2 (wrap 16 x))
    u1.putDir (o + 6) (leBytes 1 (u1.dir (o + 6) 1 ||| 2 ^ nb))) s1
  s2.putDir 6 (leBytes 1 nb)

/-- The escrow is idle again. -/
def Dev.escrowIdle (d : Dev) (step : Nat) : Dev :=
  ({ d with ldg := { d.ldg with
      state := .idle, waitFrom := none, chunks := [], finalIssued := false, outside := false } }).pruneReports step

/-- A committed or skipped step ages the last complete snapshot (Table 10.2) and calls for mirrors (R465). -/
def Dev.countStep (d : Dev) : Dev := { d with prt := { d.prt with age := satAdd 32 d.prt.age 1, committed := true } }

/-- Commit the settled step (R350). -/
def State.commitStep (s0 : State) : State :=
  let s := s0.dirAudit
  match s.dev.ldg.record with
  | none => s
  | some e =>
    let s1 := s.putDir (s.dir 56 4 + 64 * (e.step % 64)) (e.recordBytes false)
    let s2 := s1.foldLoss e.loss
    let s3 := s2.putDir 8 (leBytes 8 (e.step + 1))
    let s4 := (s3.commitBanks e).flipBank e.step
    let d := (((s4.dev.deferReport 4).staleReverters e.step).escrowIdle e.step).countStep
    { s4 with dev := { d with ldg := { d.ldg with
        releasedSeen := sinsert d.ldg.releasedSeen e.step, reverted := d.ldg.reverted.filter (· ≠ e.step) } } }

/-- Commit a held step as skipped (R351). -/
def State.skipStep (s0 : State) : State :=
  let s := s0.dirAudit
  match s.dev.ldg.record with
  | none => s
  | some e =>
    let s1 := s.putDir (s.dir 56 4 + 64 * (e.step % 64)) (e.recordBytes true)
    let s2 := s1.putDir 8 (leBytes 8 (e.step + 1))
    let s3 := s2.keepSilent.flipBank e.step
    { s3 with dev := (s3.dev.escrowIdle e.step).countStep }

/-- Restore the home words of one entry from its escrow image; each word that the settlement engine writes counts in its tensor's
histogram (R174). -/
def State.restoreEntry (s : State) (g : GroupDesc) (i : Nat) : State :=
  let E := s.dev.gradEntries g.grad
  let w := s.dev.settleWho g i
  (List.zip (List.range g.homes.length) g.homes).foldl (fun (u : State) (p : Nat × Nat) =>
    let r := u.settleRead w g.escrow (p.1 * E + i) 4
    match r.1 with
    | none => r.2
    | some x =>
      let y := r.2.settleWrite w (r.2.dev.tensor p.2).alloc i x.1 x.2
      if y.1 then { y.2 with dev := y.2.dev.tallySettled p.2 w.inst {} 0 [f32Val x.1] } else y.2) s

/-- REVERT_COMPLETE (R353, R354): on a reverting chip, the escrow images go home, the copies are re-minted with the current bank,
the backward copies run, and the reverted report is queued. -/
def State.revertComplete (s : State) : State :=
  match s.dev.ldg.record with
  | none => s
  | some e =>
    if s.dev.ldg.state ≠ .reverting then s
    else
      let gs := List.range e.groups.length
      let g := fun (gi : Nat) => e.groups[gi]?
      let s1 := e.images.foldl (fun (u : State) (x : Nat × Nat × Nat) => match g x.1 with
        | none => u
        | some y => (List.range x.2.2).foldl (fun (v : State) i => v.restoreEntry y (x.2.1 + i)) u) s
      let s2 := gs.foldl (fun (u : State) gi => match g gi with
        | none => u
        | some y => (List.range (ceilDiv (u.dev.gradEntries y.grad) 32)).foldl (fun (v : State) j => v.remintBlock y j) u) s1
      let s3 := gs.foldl (fun (u : State) gi => u.runBcopy gi) s2
      let d := (s3.dev.deferReport 3).escrowIdle e.step
      let rc := d.ldg.record.map (fun (r : Escrow) => { r with dropped := true })
      let d1 : Dev := { d with ldg := { d.ldg with reverted := sinsert d.ldg.reverted e.step, record := rc } }
      let d2 := if d1.ldg.releasedSeen.contains e.step then
          { d1 with ldg := { d1.ldg with outOfDate := true } }.raise 0x5018 24 0 0
        else d1
      { s3 with dev := d2 }

/-! ### Examination at a tick, and the wait windows (R336, Table 7.8) -/

/-- Frames of a wait. -/
def Dev.settleWindow (d : Dev) : Nat := match d.cht.active with
  | some c => c.settleTimeout
  | none => 0

/-- The wait in progress has ended. -/
def Dev.waitOver (d : Dev) : Bool := match d.ldg.waitFrom with
  | none => false
  | some f => tickDue (frameAfter f d.settleWindow) d.frm.frame

/-- What the tick finds of the barrier and the release (R336): outside a program, a met barrier starts settlement or holds the
step; a release that holds commits it. -/
def State.escrowTick (s : State) : State :=
  let d := s.dev
  let free := d.seq.run.isNone
  let out := fun (x : Dev) => ({ x with ldg := { x.ldg with state := .settling, outside := true, waitFrom := none } } : Dev)
  match d.ldg.record with
  | none => s
  | some e =>
    match d.ldg.state with
    | .cleared =>
      if free && d.barrierMet then
        { s with dev := if e.isHeld then d.settleHeld.raise 0x5011 24 0 0 else out d }
      else s
    | .held => if free && e.released && d.barrierMet then { s with dev := out d } else s
    | .settling => if free && !d.ldg.outside then { s with dev := out d } else s
    | .settled => if d.releaseMet then s.commitStep else s
    | _ => s

/-- SETTLE_TIMEOUT_EXPIRY: the wait window has ended with its condition unmet. -/
def State.settleTimeoutExpiry (s : State) : State :=
  let d := s.dev
  match d.ldg.record with
  | none => s
  | some e =>
    if !d.waitOver then s
    else match d.ldg.state with
      | .cleared => if d.barrierMet then s else { s with dev := d.abandonStep 0x5014 e.step }
      | .settled =>
        if d.releaseMet then s
        else { s with dev := { d with ldg := { d.ldg with state := .reverting, waitFrom := none } }.raise 0x5014 24 0 0 }
      | _ => s

/-- What the end of a program that was cut short does to the escrow (Table 7.8, R338): a clearing step goes back to idle; the
reports that the program owed are sent by the H1. -/
def Dev.escrowCancel (d : Dev) : Dev :=
  if d.ldg.state = .clearing then { d with ldg := { d.ldg with state := .idle, rounds := [], last := none } } else d.deferOwed

/-- A halted chip that was settling reverts when it runs again (Table 7.8). -/
def Dev.escrowResume (d : Dev) : Dev :=
  if d.ldg.state = .settling ∧ d.flt.caught then
    { d with ldg := { d.ldg with state := .reverting, chunks := [], outside := false, waitFrom := none } }
  else d

/-! ### Host decisions (R356) -/

/-- The escrow is held for this step. -/
def Dev.heldFor (d : Dev) (step : Nat) : Bool := match d.ldg.record with
  | none => false
  | some e => d.ldg.state = .held && e.step = step

/-- Release a held step: settlement starts as soon as the barrier is met. -/
def Dev.releaseHeld (d : Dev) : Dev :=
  let d1 := d.modRecord (fun e => { e with released := true })
  if d1.barrierMet then { d1 with ldg := { d1.ldg with state := .settling, outside := true } } else d1

end Sys2Proof.Machine
end

