-- ==== Sys2Proof/Machine/Links.lean ====
section
/-! DEFINITION. Lanes, links and flits, tick alignment, hails and the partner table, and the stream engines (R403 to R446). -/

namespace Sys2Proof.Machine

/-! ### Lanes and feeds (R404, R406, R417) -/

/-- Key of a lane. -/
def laneKey (port lane : Nat) : Nat := 8 * port + lane

def Dev.lane (d : Dev) (port lane : Nat) : Lane := tgetD d.lnk.lanes (laneKey port lane) {}

def Dev.modLane (d : Dev) (port lane : Nat) (f : Lane → Lane) : Dev :=
  { d with lnk := { d.lnk with lanes := tmod d.lnk.lanes (laneKey port lane) {} f } }

/-- PORTj_FEC of a port. -/
def fecReg (port : Nat) : Reg := match port % 3 with
  | 0 => .lnkPort0Fec
  | 1 => .lnkPort1Fec
  | _ => .lnkPort2Fec

/-- PORTj_RETRY of a port. -/
def retryReg (port : Nat) : Reg := match port % 3 with
  | 0 => .lnkPort0Retry
  | 1 => .lnkPort1Retry
  | _ => .lnkPort2Retry

/-- Add one to a per-port count of the frame that the risk inputs read (Table 10.2). -/
def bumpAt (l : List Nat) (i : Nat) : List Nat := lmod l i (· + 1)

/-- LANE_TRAINED (R417): the lane trains, and its signal comes from this chip and port. Its receive margin is a measurement that the
event does not state (log entry 8). -/
def Dev.laneTrained (d : Dev) (port lane peer peerPort : Nat) : Dev :=
  let f := d.fresh
  f.2.modLane port lane (fun x => { ({} : Lane) with
    trained := true, peer := peer, farPort := peerPort, margin := f.1 % 256, leaving := x.leaving || decide (2 ≤ x.missed) })

/-- LANE_TRAIN_TIMEOUT (R417): notice 0x7001 once, and the lane keeps trying. -/
def Dev.laneTrainTimeout (d : Dev) (port lane : Nat) : Dev :=
  if (d.lane port lane).trained || (d.lane port lane).raised7001 then d
  else (d.modLane port lane (fun x => { x with raised7001 := true })).linkNotice 0x7001 port lane 0

/-- CONTROL_FLIT_MISSED (R418). -/
def Dev.controlFlitMissed (d : Dev) (port lane : Nat) : Dev :=
  d.modLane port lane (fun x => { x with missed := x.missed + 1 })

/-- CODEWORD_LOCK_LOSS (R418): the lane leaves its link at the next tick. -/
def Dev.codewordLockLoss (d : Dev) (port lane : Nat) : Dev := d.modLane port lane (fun x => { x with missed := max 2 x.missed })

/-- The link of a lane. -/
def Dev.linkAt (d : Dev) (port lane : Nat) : Option Link :=
  d.lnk.links.find? (fun l => decide (l.port = port) && l.lanes.contains lane)

/-- RECEIVE_MARGIN_LOW (R445): a margin below 1.0 dB, which the event does not state. -/
def Dev.receiveMarginLow (d : Dev) (port lane : Nat) : Dev :=
  let f := d.fresh
  (f.2.modLane port lane (fun x => { x with margin := f.1 % 10 })).linkNotice 0x7005 port lane 0 (d.linkAt port lane)

/-! ### Link loss (R420) -/

/-- Streams of a link that have part of a message (R420: in flight on it). -/
def Dev.partOn (d : Dev) (l : Link) (i : Nat) : Bool :=
  decide ((d.stream i).port = l.port ∧ (d.partner (d.stream i).partner).fp = l.fp) && (d.streamState i).partial_.isSome

/-- A message of the run is queued or in flight on a link: a flit of its own that is not acknowledged, or part of an activation or
clearing message that arrives, delivered or waiting for its turn (R420). -/
def Dev.runOn (d : Dev) (l : Link) : Bool :=
  d.seq.run.isSome && (l.replay.any (fun (f : Nat × Flit) => f.2.ofRun) ||
    l.window.any (fun (f : Nat × Flit) => let e := d.stream (nfld f.2.hdr 4 12); e.valid && e.recv && decide (e.cls ≤ 1)) ||
    d.lnk.streams.any (fun (s : Nat × StreamState) => !l.second && !l.foreign && decide ((d.stream s.1).cls ≤ 1) && d.partOn l s.1))

/-- A link goes down: its messages are cancelled (R26, R420). -/
def Dev.linkDown (d : Dev) (l : Link) : Dev :=
  let cut := fun (i : Nat) => !l.second && !l.foreign && d.partOn l i
  let d0 := d.leaveLanding (fun i => cut i)
  let unsent := (l.replay.filter (fun (f : Nat × Flit) => f.2.sends = 0)).length
  let d1 := ({ d0 with lnk := { d0.lnk with
    links := d.lnk.links.filter (fun (x : Link) => !x.is l.port l.fp l.farPort)
    streams := d.lnk.streams.map (fun (s : Nat × StreamState) => (s.1, if cut s.1 then { s.2 with partial_ := none } else s.2)) } }).cntLeave
      (37 + l.port) unsent
  let d2 := ({ d1 with lnk := { d1.lnk with partners := d1.lnk.partners.map (fun (p : Nat × Partner) =>
      (p.1, if p.2.fp = l.fp then { p.2 with port := l.port } else p.2)) } } : Dev).raise 0x7004 (linkUnit l.port) (linkWhere l.port 0) 0
  if d.runOn l then
    d2.raise 0x7016 (linkUnit l.port) (linkWhere l.port 0) 0
  else d2

/-- A port goes dark: its lanes lose their light and its links go down. -/
def Dev.portDark (d : Dev) (port : Nat) : Dev :=
  let d1 := (d.lnk.links.filter (fun (l : Link) => l.port = port)).foldl (fun (x : Dev) l => x.linkDown l) d
  { d1 with lnk := { d1.lnk with lanes := d1.lnk.lanes.filter (fun (x : Nat × Lane) => x.1 / 8 ≠ port) } }

def Dev.feeds (d : Dev) (die : Nat) : Feeds := tgetD d.lnk.feeds die {}

def Dev.putFeeds (d : Dev) (die : Nat) (f : Feeds) : Dev := { d with lnk := { d.lnk with feeds := tput d.lnk.feeds die f } }

/-- Both feeds of an exchange die have failed: its three ports go down (R406). -/
def Dev.bothFeedsLost (d : Dev) (die : Nat) : Dev :=
  let d1 := d.putFeeds die { d.feeds die with aOk := false, bOk := false }
  let d2 := (List.range 3).foldl (fun (x : Dev) j => x.portDark (3 * die + j)) d1
  d2.raise 0x7003 (20 + die) (linkWhere (3 * die) 0) 0

/-- FEED_A_LOSS (R406). -/
def Dev.feedALoss (d : Dev) (die : Nat) : Dev :=
  let f := d.feeds die
  if f.onB then d.putFeeds die { f with aOk := false }
  else if f.bOk then
    (d.putFeeds die { f with aOk := false, onB := true, switches := satAdd 16 f.switches 1 }).linkNotice 0x7002 (3 * die) 0 0
  else d.bothFeedsLost die

/-- FEED_B_LOSS (R406): a die on feed B goes back to A while A is within limits. -/
def Dev.feedBLoss (d : Dev) (die : Nat) : Dev :=
  let f := d.feeds die
  if !f.onB then d.putFeeds die { f with bOk := false }
  else if f.aOk then d.putFeeds die { f with bOk := false, onB := false, switches := satAdd 16 f.switches 1 }
  else d.bothFeedsLost die

/-- FEED_RETURN (R406): a die without light takes the feed that returns (DEDUCED, log entry 171). -/
def Dev.feedReturn (d : Dev) (die feed : Nat) : Dev :=
  let f := d.feeds die
  let dark := !f.aOk && !f.bOk
  d.putFeeds die { f with
    aOk := f.aOk || feed = 0, bOk := f.bOk || feed = 1, onB := if dark then decide (feed = 1) else f.onB
    switches := if dark && f.onB != decide (feed = 1) then satAdd 16 f.switches 1 else f.switches }

/-! ### Control flits (R421, R422, R511) -/

/-- ORDERS of the control flit (Table 11.7): the pending fabric stop, until its T (R512). -/
def Dev.ordersField (d : Dev) : List Byte := match d.flt.fabric with
  | none => leBytes 28 0
  | some m =>
    if frameBefore d.frm.frame m.t then
      leBytes 1 1 ++ leBytes 1 (b2n m.now) ++ leBytes 6 m.t ++ leBytes 8 m.origin ++ leBytes 6 m.issue ++ leBytes 6 0
    else leBytes 28 0

/-- The hail segment of a control flit (Table 9.5): SEG, SEGS, SEGLEN and DATA. What the table does not state, DATA beyond SEGLEN and all
but SEGS where no segment follows, is free (log entry 172). -/
def segmentField (key : Nat) (seg : Option (Nat × Nat × List Byte)) : List Byte :=
  let free := fun (o n : Nat) => (List.range n).map (fun i => Config.flitPad key (o + i))
  match seg with
  | none => free 64 2 ++ leBytes 2 0 ++ free 68 514
  | some x => leBytes 2 x.1 ++ leBytes 2 x.2.1 ++ leBytes 2 x.2.2.length ++ x.2.2 ++ free (70 + x.2.2.length) (512 - x.2.2.length)

/-- The control flit that a lane launches in the frame (Table 9.5), with the next segment of a hail that waits. -/
def Dev.controlFlit (d : Dev) (port lane launch : Nat) (seg : Option (Nat × Nat × List Byte)) : List Byte :=
  let x := d.lane port lane
  let ok := d.lnk.links.any (fun (l : Link) => decide (l.port = port) && l.lanes.contains lane && l.accepted)
  leBytes 6 d.frm.frame ++ leBytes 1 d.logLen ++
  leBytes 1 (b2n d.frm.aligned + 2 * b2n d.frm.joining + 4 * b2n d.lnk.solitary + 8 * b2n d.seq.run.isSome + 16 * b2n ok) ++
  leBytes 8 Config.fingerprint.toNat ++ leBytes 8 d.lnk.ref ++ leBytes 1 d.lnk.hops ++ leBytes 1 (lane + 16 * port) ++ leBytes 2 0 ++
  leBytes 4 launch ++ leBytes 4 (if x.now then wrap 32 x.arrival else 0x80000000) ++ d.ordersField ++
  segmentField (d.frm.frame + 2 ^ 48 * laneKey port lane) seg ++ leBytes 42 0

/-- A codeword lasts 204/7 cycles: the first one that a lane launches at or after the tick starts less than this many 1/16 reference
periods after it (R410). -/
def launchTimes : Nat := 467

/-- Launch the control flit of a lane at a tick, in the first codeword at or after it (R410). Where in that codeword's time the tick
falls is a free value (log entry 8). -/
def Dev.launchControl (d : Dev) (port lane : Nat) : Dev :=
  let f := d.fresh
  let launch := f.1 % launchTimes
  let on := d.linkAt port lane
  let ack := match on with
    | some l => l.ackBits
    | none => 0
  let seg := on.bind (fun l => if l.foreign then none else l.hailTx.head?)
  let d0 := match on with
    | some l => if seg.isSome then f.2.modLink l (fun x => { x with hailTx := x.hailTx.drop 1 }) else f.2
    | none => f.2
  let d1 := d0.emit (.control port lane (wireFlit (2 + ack) (f.2.controlFlit port lane launch seg)))
  d1.modLane port lane (fun x => { x with launches := ((d.frm.frame, (launch : Int)) :: x.launches).take 2 })

/-- What a lane learns from a control flit that arrives intact (R418, R421, R422). -/
def Dev.hearControl (d : Dev) (port lane : Nat) (flit : List Byte) (arrival : Int) : Dev :=
  let x := d.lane port lane
  let n := bytesAt flit
  let frame := n 0 6
  let echo := n 32 4
  let b := toSigned 32 (n 28 4)
  let th : Option (Int × Int) :=
    if echo = 0x80000000 ∨ !x.heard ∨ (x.frame + 1) % 2 ^ 48 ≠ frame then none
    else match x.launches.find? (fun p => (p.1 + 1) % 2 ^ 48 = frame) with
      | none => none
      | some p =>
        let far := x.arrival - x.launch
        let near := toSigned 32 echo - p.2
        some (far - near, far + near)
  let d1 := d.modLane port lane (fun y =>
    { y with
      peer := n 8 8, farPort := n 25 1 / 16, heard := true, now := true, missed := if y.missed < 2 then 0 else y.missed, frame := frame, len := n 6 1, flags := n 7 1
      ref := n 16 8, hops := n 24 1, launch := b, arrival := arrival, echoed := echo ≠ 0x80000000
      theta := match th with
        | none => y.theta
        | some t => some t.1
      delay := match th with
        | none => y.delay
        | some t => t.2 })
  match d1.linkAt port lane with
  | none => d1
  | some l => if (n 7 1).testBit 4 then d1.modLink l (fun y => { y with hailOk := true }) else d1

/-! ### Retries (R39, R415) -/

/-- Send a flit again before its message's deadline tick (R38), charged to the link reserve, and one of class 3 to what snapshot traffic
may use of it (R40); from that tick on it stays unsent (DESIGN CHOICE, log entry 163). A flit that has been sent five times takes the link
down (R415). -/
def Dev.resend (d : Dev) (l : Link) (fseq : Nat) : Dev :=
  match l.replay.find? (fun (f : Nat × Flit) => f.1 = fseq ∧ f.2.sends ≠ 0) with
  | none => d
  | some f =>
    if 5 ≤ f.2.sends then d.linkDown l
    else if tickDue f.2.deadline d.frm.frame then d
    else if linkReserve l.lanes.length d.frameLen ≤ l.retries + (if f.2.cls = 3 then l.snap else 0) then d.reserveSpent l f.2
    else
      let d1 := d.modLink l (fun x => { x with
        retries := if f.2.cls = 3 then x.retries else x.retries + 1
        snap := if f.2.cls = 3 then x.snap + 1 else x.snap
        replay := x.replay.map (fun (g : Nat × Flit) => if g.1 = fseq then (g.1, { g.2 with sends := g.2.sends + 1 }) else g) })
      let d2 := ((((d1.cntEnter (37 + l.port)).cntLeave (37 + l.port)).bumpFld (retryReg l.port) 0 16 1 (l.port / 3))).emit (.flit l.port (wireFlit (f.2.hdr + l.ackBits + 2 ^ 92) f.2.payload))
      { d2 with prt := { d2.prt with now := { d2.prt.now with retry := bumpAt d2.prt.now.retry l.port } } }

/-- ACK_TIMEOUT_RESEND: no ACK has passed the flit within 2d + 256 cycles, which the event says (R415). Streams are held while the chip is
not aligned (R83), and only the link that carries them retries (R419, R428). -/
def Dev.ackTimeoutResend (d : Dev) (port fseq : Nat) : Dev :=
  match d.lnk.links.find? (fun l => decide (l.port = port) && l.up && !l.second && !l.foreign && d.frm.aligned && l.replay.any (fun (f : Nat × Flit) => decide (f.1 = fseq ∧ f.2.sends ≠ 0))) with
  | none => d
  | some l => d.resend l fseq

/-- An ACK frees the flits before it; a NACK asks for the one it names, which goes ahead of first sends (R414 to R416). -/
def Dev.takeAck (d : Dev) (l : Link) (ack : Nat) (nack : Bool) : Dev :=
  let done := fun (f : Nat × Flit) => decide ((ack + 65536 - f.1 - 1) % 65536 < 32768) && f.2.sends ≠ 0
  let d1 := d.modLink l (fun x => { x with replay := x.replay.filter (fun f => !done f) })
  let d2 := if nack then
      (match d1.lnk.links.find? (fun (x : Link) => x.is l.port l.fp l.farPort) with
        | none => d1
        | some x => d1.resend x ack)
    else d1
  d2.launch l

/-! ### Arrival of messages (R409, R414, R441, R442) -/

/-- The frame that a frame tag names (R409). -/
def Dev.resolveTag (d : Dev) (tag : Nat) : Option Nat :=
  ((List.range 6).map (fun i => (d.frm.frame + 1 + 2 ^ 48 - i) % 2 ^ 48)).find? (fun f => f % 256 = tag)

/-- A complete message that has arrived: stream, tag frame, bytes. -/
structure Arrival where
  stream : Nat
  frame : Nat
  mseq : Nat
  bytes : List Byte
  deriving DecidableEq, Repr

/-- Messages of this stream and tag stay in the landing buffer: the stream is not bound (R441), or a stop has taken effect at or before the
tag (R508). What goes on while the chip is stopped, reports, refill and mirrors (R509), is not held (DEDUCED, log entry 182). -/
def Dev.holdsLanding (d : Dev) (i tag : Nat) : Bool :=
  (decide ((d.stream i).cls = 0) && (d.streamState i).bound.isNone) ||
    (decide ((d.stream i).cls ≤ 1) && decide (d.flt.stop ≠ .running) && tickDue d.flt.stopTick tag)

/-- The tag is of a step that a stop cut: its messages land up to their deadline (R508), whatever the counts that have gone back (R444;
DEDUCED, log entry 183). -/
def Dev.drains (d : Dev) (tag : Nat) : Bool := d.lnk.draining.any (fun (r : Nat × Nat) => tickDue r.1 tag && tickDue tag r.2)

/-- Bytes in a port's landing buffer. -/
def Dev.landingBytes (d : Dev) (port : Nat) : Nat :=
  sumNat (d.lnk.streams.map (fun (s : Nat × StreamState) =>
    if (d.stream s.1).port = port ∧ (d.stream s.1).recv then
      sumNat (s.2.held.map (fun m => m.bytes.length)) + (match s.2.partial_ with
        | none => 0
        | some m => if d.holdsLanding s.1 m.frame then m.bytes.length else 0)
    else 0))

/-- The deadline tick of a message on a stream. -/
def Dev.deadline (d : Dev) (i tag : Nat) : Nat := frameAfter tag (d.stream i).d

/-- A complete message meets the stream's receive count (R442): delivered, or out of sequence and not landed. -/
def Dev.meetCount (d : Dev) (i : Nat) (m : Incoming) : Option Arrival × Dev :=
  if (d.stream i).cls = 0 && d.drains m.frame then (some { stream := i, frame := m.frame, mseq := m.mseq, bytes := m.bytes }, d)
  else if m.mseq ≠ (d.streamState i).recv then
    (none, d.raise 0x7012 (linkUnit (d.stream i).port) (linkWhere (d.stream i).port 0) i)
  else
    (some { stream := i, frame := m.frame, mseq := m.mseq, bytes := m.bytes },
      d.modStream i (fun s => { s with recv := (s.recv + 1) % 256 }))

/-- Take a data flit in its order: `false` when it is dropped and NACKed; the message that it completes. -/
def Dev.takeFlit (d : Dev) (l : Link) (hdr : Nat) (payload : List Byte) : Bool × Option Arrival × Dev :=
  let i := nfld hdr 4 12
  let e := d.stream i
  let len := nfld hdr 80 10
  let index := nfld hdr 64 16
  let mseq := nfld hdr 56 8
  let last := hdr.testBit 90
  let bytes := payload.take len
  if !e.valid ∨ !e.recv ∨ e.port ≠ l.port ∨ (d.partner e.partner).fp ≠ l.fp then (true, none, d)
  else match d.resolveTag (nfld hdr 48 8) with
    | none => (true, none, d)
    | some tag =>
      if e.cls = 0 ∧ d.lnk.dropped.any (fun (r : Nat × Nat) => tickDue r.1 tag && tickDue tag r.2) then (true, none, d)
      else if tickDue (d.deadline i tag) d.frm.frame then
        let d1 := (d.cntLeave (49 + l.port) (match (d.streamState i).partial_ with
          | some m => m.waiting
          | none => 0)).modStream i (fun s => { s with partial_ := none })
        (true, none, if last then
            (d1.traceStream i 3 mseq (index * 624 + len) tag).raise 0x1013 (linkUnit l.port) (linkWhere l.port 0) i
          else d1)
      else if d.holdsLanding i tag && decide (65536 < d.landingBytes l.port + bytes.length) then (false, none, d)
      else
        let none_ : Incoming := { frame := tag, mseq := mseq, bytes := [], whole := false }
        let old := if index = 0 then none_ else (d.streamState i).partial_.getD none_
        let left := if index = 0 then ((d.streamState i).partial_.getD none_).waiting else 0
        let hold := d.holdsLanding i tag
        let m := { old with bytes := old.bytes ++ bytes, whole := last, waiting := old.waiting + b2n hold }
        let d9 := if left = 0 then d else d.cntLeave (49 + l.port) left
        let d0 := if hold then d9.cntEnter (49 + l.port) else d9
        if !last then (true, none, d0.modStream i (fun s => { s with partial_ := some m }))
        else
          let d1 := d0.modStream i (fun s => { s with partial_ := none })
          if hold then (true, none, d1.modStream i (fun s => { s with held := s.held ++ [m] }))
          else let r := d1.meetCount i m; (true, r.1, r.2)

/-- Deliver the expected flit and what the window then holds in order (R414). -/
def Dev.drainWindow (d : Dev) (l : Link) : Nat → List Arrival × Dev
  | 0 => ([], d)
  | f + 1 =>
    match d.lnk.links.find? (fun (x : Link) => x.is l.port l.fp l.farPort) with
    | none => ([], d)
    | some x =>
      match x.window.find? (fun (w : Nat × Flit) => w.1 = x.rxSeq) with
      | none => ([], d)
      | some w =>
        let r := d.takeFlit x w.2.hdr w.2.payload
        if !r.1 then
          ([], r.2.2.modLink x (fun y => { y with window := y.window.filter (fun (z : Nat × Flit) => z.1 ≠ w.1), nack := true }))
        else
          let d1 := r.2.2.modLink x (fun y => { y with
            window := y.window.filter (fun (z : Nat × Flit) => z.1 ≠ w.1), rxSeq := (y.rxSeq + 1) % 65536, nack := false })
          let rest := Dev.drainWindow d1 l f
          (r.2.1.toList ++ rest.1, rest.2)

/-- A flit on a link that carries streams: its ACK, then its data; an idle flit answers with the link's ACK and NACK (R414). -/
def Dev.linkFlit (d : Dev) (l : Link) (hdr : Nat) (payload : List Byte) : List Arrival × Dev :=
  let d1 := d.takeAck l (nfld hdr 32 16) (hdr.testBit 91)
  if nfld hdr 0 4 ≠ 1 then ([], d1)
  else match d1.lnk.links.find? (fun (x : Link) => x.is l.port l.fp l.farPort) with
    | none => ([], d1)
    | some x =>
      let fseq := nfld hdr 16 16
      let ahead := (fseq + 65536 - x.rxSeq) % 65536
      if 1024 ≤ ahead then ([], d1.emit x.idle)
      else
        let d2 := d1.modLink x (fun y => { y with window := tput y.window fseq { hdr := hdr, payload := payload } })
        let r := d2.drainWindow x 1025
        (r.1, match r.2.lnk.links.find? (fun (y : Link) => y.is l.port l.fp l.farPort) with
          | none => r.2
          | some y => r.2.emit y.idle)

/-- FLIT_RECEIVE: what the flit does at its link, and the messages that it completes (R82, R407, R414). A flit that is dropped counts
as the one that the link expects next (DEDUCED, log entry 162). -/
def Dev.flitReceive (d : Dev) (port lane : Nat) (good : Bool) (symbols : Nat) (hdr : Nat) (payload : List Byte) :
    List Arrival × Dev :=
  let d0 := if 0 < symbols then
      let x := d.bumpFld (fecReg port) 0 32 1 (port / 3)
      if symbols < 8 then x else { x with prt := { x.prt with now := { x.prt.now with fec := bumpAt x.prt.now.fec port } } }
    else d
  match d0.linkAt port lane with
  | none => ([], if good then d0 else d0.bumpFld (retryReg port) 16 16 1 (port / 3))
  | some l =>
    if !good then
      let d1 := d0.bumpFld (retryReg port) 16 16 1 (port / 3)
      ([], if l.up then (d1.modLink l (fun x => { x with nack := true })).emit ({ l with nack := true } : Link).idle else d1)
    else if l.up && !l.foreign && !l.second && d0.frm.aligned then d0.linkFlit l hdr payload
    else ([], d0)

/-- MESSAGE_DEADLINE_DISCARD: messages held, or partly arrived, on a port at their deadline are discarded (R29). -/
def Dev.messageDeadlineDiscard (d : Dev) (port : Nat) : Dev :=
  (d.lnk.streams.filter (fun (s : Nat × StreamState) => (d.stream s.1).port = port ∧ (d.stream s.1).recv)).foldl
    (fun (x : Dev) (s : Nat × StreamState) =>
      let late := fun (m : Incoming) => tickDue (d.deadline s.1 m.frame) d.frm.frame
      let part := match s.2.partial_ with
        | some m => late m
        | none => false
      let gone := (s.2.held.filter late) ++ (if part then s.2.partial_.toList else [])
      if gone.isEmpty then x
      else
        let y := x.modStream s.1 (fun t => { t with
          held := t.held.filter (fun m => !late m), partial_ := if part then none else t.partial_ })
        let z := y.cntLeave (49 + port) (sumNat (gone.map Incoming.waiting))
        (gone.foldl (fun (v : Dev) m => v.traceStream s.1 3 m.mseq m.bytes.length m.frame) z).raise 0x1013 (linkUnit port)
          (linkWhere port 0) s.1) d

/-! ### Landing (R440, R441, R443) -/

/-- Land a class 0 message in its slot. It is complete when its last byte has been written there: where R376 refuses the write, it is not. -/
def State.landMessage (s : State) (a : Arrival) : State :=
  match (s.dev.streamState a.stream).bound with
  | none => s
  | some b =>
    let e := s.dev.stream a.stream
    let mseq := a.mseq
    if b.slotBytes < a.bytes.length then
      { s with dev := s.dev.raise 0x7011 (linkUnit e.port) (linkWhere e.port 0) a.stream }
    else
      let r := s.storeAlloc { inst := 0, cls := 2, unit := linkUnit e.port } b.alloc (64 * b.offset + mseq % b.slots * b.slotBytes) a.bytes
      if !r.1 then r.2
      else { r.2 with dev := (r.2.dev.modStream a.stream (fun x =>
        { x with done := (tmod x.done a.frame 0 (· + 1)) })).traceStream a.stream 2 mseq a.bytes.length a.frame }

/-- A message of the landing buffer may land: nothing holds it, and its deadline tick has not come (R29, R508). -/
def Dev.mayLand (d : Dev) (i tag : Nat) : Bool := !d.holdsLanding i tag && frameBefore d.frm.frame (d.deadline i tag)

/-- Release what the landing buffer holds for a stream that no longer has to wait. -/
def Dev.releaseMessages (d : Dev) (i : Nat) : List Arrival × Dev :=
  let s := d.streamState i
  let go := s.held.filter (fun m => d.mayLand i m.frame)
  let part := s.partial_.toList.filter (fun m => d.mayLand i m.frame)
  let d1 := (d.modStream i (fun t => { t with
    held := t.held.filter (fun m => !d.mayLand i m.frame)
    partial_ := t.partial_.map (fun m => if d.mayLand i m.frame then { m with waiting := 0 } else m) })).cntLeave
    (49 + (d.stream i).port) (sumNat ((go ++ part).map Incoming.waiting))
  if go.isEmpty && part.isEmpty then ([], d)
  else go.foldl (fun (acc : List Arrival × Dev) m =>
    let r := acc.2.meetCount i m
    (acc.1 ++ r.1.toList, r.2)) ([], d1)

/-! ### Stream engines (R437 to R443) -/

structure SendDesc where
  stream : Nat
  src : Nat
  bytes : Nat
  reserved : Bool

structure ExpectDesc where
  stream : Nat
  count : Nat
  reserved : Bool

structure BindDesc where
  stream : Nat
  alloc : Nat
  slots : Nat
  offset : Nat
  slotBytes : Nat
  reserved : Bool

def sendDesc (x : Nat) : SendDesc :=
  { stream := nfld x 0 12, src := nfld x 16 16, bytes := nfld x 32 26, reserved := nfld x 12 4 ≠ 0 ∨ nfld x 58 70 ≠ 0 }

def expectDesc (x : Nat) : ExpectDesc :=
  { stream := nfld x 0 12, count := nfld x 16 8, reserved := nfld x 12 4 ≠ 0 ∨ nfld x 24 104 ≠ 0 }

def bindDesc (x : Nat) : BindDesc :=
  { stream := nfld x 0 12, alloc := nfld x 12 12, slots := nfld x 24 8 + 1, offset := nfld x 32 32, slotBytes := nfld x 64 26
    reserved := nfld x 90 38 ≠ 0 }

/-- The stream of a descriptor is valid, of class 0, of this direction, on a port of X_d (R438). -/
def Dev.streamFits (d : Dev) (die i : Nat) (recv : Bool) : Bool :=
  let e := d.stream i
  e.valid && decide (e.cls = 0) && e.recv == recv && decide (e.port / 3 = die)

/-- R438 on the descriptor of a stream operation: 0x02 send, 0x03 expect, 0x04 bind. `operand` reads the operand table. -/
def Dev.streamDescOk (d : Dev) (die op x : Nat) (layout : Nat → Layout) : Bool :=
  if op = 2 then
    let s := sendDesc x
    let l := layout s.src
    let e := d.alloc l.alloc
    d.streamFits die s.stream false && l.econt = 7 && e.valid && e.loc = 1 && e.mayRead 2 && decide (1 ≤ s.bytes ∧ s.bytes ≤ 40894464) &&
      !s.reserved
  else if op = 3 then
    let s := expectDesc x
    d.streamFits die s.stream true && decide (1 ≤ s.count) && !s.reserved
  else
    let s := bindDesc x
    let e := d.alloc s.alloc
    d.streamFits die s.stream true && decide (0 < s.slotBytes) && s.slotBytes % 64 = 0 && e.valid && e.loc = 1 && e.mayWrite 2 &&
      decide (64 * s.offset + s.slots * s.slotBytes ≤ e.size) && !s.reserved

def State.sendDescAt (s : State) (arg : Nat) : SendDesc := sendDesc (s.opnd arg 16)

/-- Bytes that STREAM_SEND takes from its source: its granules in ascending linear order, at most those that it has (DESIGN CHOICE, log
entry 169); `none` where R376 refuses a read. -/
def State.sendBytes (s : State) (die arg : Nat) : Option (List Byte) × State :=
  let x := s.sendDescAt arg
  let l := s.layoutAt x.src
  let r := (List.range (min l.count (ceilDiv x.bytes 64))).foldl (fun (acc : Option (List Byte) × State) i =>
    match acc.1 with
    | none => acc
    | some b =>
      let e := acc.2.elem { inst := 0, cls := 2, unit := 20 + die } l (l.elem (l.tuple i))
      (e.1.map (fun v => b ++ leBytes 64 v.1), e.2)) (some [], s)
  (r.1.map (fun b => b.take x.bytes), r.2)

/-- The fault of a STREAM_SEND at cycle `t`. -/
def State.streamSendFault (s : State) (arg t : Nat) : Option Nat :=
  let x := s.sendDescAt arg
  s.dev.sendFault x.stream x.bytes t

/-- STREAM_SEND (R439). Where R376 refuses a read of its source, nothing is sent (DEDUCED, log entry 167). -/
def State.streamSend (s : State) (die arg : Nat) : State :=
  let x := s.sendDescAt arg
  let r := s.sendBytes die arg
  match r.1 with
  | none => r.2
  | some b => { r.2 with dev := r.2.dev.sendMessage x.stream b }

/-- STREAM_EXPECT (R443). -/
def State.streamExpect (s : State) (arg : Nat) : State :=
  let x := expectDesc (s.opnd arg 16)
  let n := s.dev.frm.frame
  { s with dev := { s.dev with lnk := { s.dev.lnk with
      expects := s.dev.lnk.expects ++ [{ stream := x.stream, frame := n, count := x.count, deadline := s.dev.deadline x.stream n }] } } }

/-- STREAM_BIND (R440): the stream is bound, and what the landing buffer held for it lands. -/
def State.streamBind (s : State) (arg : Nat) : State :=
  let x := bindDesc (s.opnd arg 16)
  let d := s.dev.modStream x.stream (fun t =>
    { t with bound := some { alloc := x.alloc, slots := x.slots, offset := x.offset, slotBytes := x.slotBytes } })
  let r := d.releaseMessages x.stream
  r.1.foldl State.landMessage { s with dev := r.2 }

/-- STREAM_EXPECT_DEADLINE (R443): expectations whose deadline tick has come are judged. -/
def Dev.streamExpectDeadline (d : Dev) : Dev :=
  let due := d.lnk.expects.filter (fun (x : Expect) => tickDue x.deadline d.frm.frame)
  due.foldl (fun (y : Dev) x =>
    if tgetD (d.streamState x.stream).done x.frame 0 = x.count then y.traceStream x.stream 4 0 0 x.frame
    else (y.traceStream x.stream 5 0 0 x.frame).raise 0x7013 (linkUnit (d.stream x.stream).port) (linkWhere (d.stream x.stream).port 0) x.stream)
    { d with lnk := { d.lnk with expects := d.lnk.expects.filter (fun (x : Expect) => !tickDue x.deadline d.frm.frame) } }

/-- What a stream keeps when the step of the frames from `first` on is cancelled: messages and expectations tagged before it, and, where a
stop cuts the step (`lands`), every message (R444, R508). -/
def StreamState.cancel (s : StreamState) (first : Nat) (lands : Bool) : StreamState :=
  let keep := fun (f : Nat) => lands || frameBefore f first
  { s with
    partial_ := s.partial_.filter (fun m => keep m.frame), held := s.held.filter (fun m => keep m.frame)
    inbox := s.inbox.filter (fun m => frameBefore m.1 first), done := s.done.filter (fun x => frameBefore x.1 first) }

/-- At the tick that cancels a step, the class 0 streams go back to their counts at its first tick (R444); `first` is the step's first frame
and `last` its last. Where a stop cuts the step its messages still land (`lands`, R508; DEDUCED, log entry 183), but for a stop its messages
that have arrived or arrive later are dropped. Expectations of earlier steps stand (R443). -/
def Dev.streamsCancel (d : Dev) (first last : Nat) (lands : Bool) : Dev :=
  let own := fun (i : Nat) => decide ((d.stream i).cls ≤ 1)
  let cut := fun (s : Nat × StreamState) => if own s.1 then s.2.cancel first lands else s.2
  let d1 := d.lnk.streams.foldl (fun (x : Dev) (s : Nat × StreamState) =>
    let n := s.2.waiting - (cut s).waiting
    if n = 0 then x else x.cntLeave (49 + (d.stream s.1).port) n) d
  let frames := (first, last)
  { d1 with lnk := { d1.lnk with
      streams := d.lnk.streams.map (fun (s : Nat × StreamState) =>
        (s.1, if (d.stream s.1).cls = 0 then { cut s with send := s.2.send0, recv := s.2.recv0 } else cut s))
      expects := d.lnk.expects.filter (fun (x : Expect) => frameBefore x.frame first)
      dropped := if lands then d.lnk.dropped else (frames :: d.lnk.dropped).take 8
      draining := if lands then (frames :: d.lnk.draining).take 8 else d.lnk.draining } }

/-- The counts at a step's first tick. -/
def Dev.streamsBegin (d : Dev) : Dev :=
  { d with lnk := { d.lnk with streams := d.lnk.streams.map (fun (s : Nat × StreamState) =>
      (s.1, { s.2 with send0 := s.2.send, recv0 := s.2.recv })) } }

/-- A run begins: streams are bound by STREAM_BINDs of the run (R440). -/
def Dev.streamsRun (d : Dev) : Dev :=
  { d with lnk := { d.lnk with streams := d.lnk.streams.map (fun (s : Nat × StreamState) => (s.1, { s.2 with bound := none })) } }

/-! ### Hails (R429 to R436) -/

/-- Bytes 0 to 63 + CERT_LEN of a hail (Table 9.6), which the signature of `n` bytes covers. -/
def Dev.hailBody (d : Dev) (kind n : Nat) (l : Link) : List Byte :=
  leBytes 4 0x4C494148 ++ leBytes 1 kind ++ leBytes 1 1 ++ leBytes 1 l.port ++
  leBytes 1 (l.lanes.foldl (fun m i => m ||| 2 ^ i) 0) ++ leBytes 8 Config.fingerprint.toNat ++ leBytes 8 l.fp ++
  leBytes 6 d.frm.frame ++ leBytes 2 0x4831 ++ leBytes 4 (d.reg .lnkDomainLo) ++ leBytes 2 (d.reg .lnkDomainHi) ++
  leBytes 2 identityCert.length ++ leBytes 2 n ++ leBytes 22 0 ++ identityCert

/-- Segments of a hail, of up to 512 bytes: index, number of segments and bytes (Table 9.5). -/
def hailSegments (b : List Byte) : List (Nat × Nat × List Byte) :=
  let cs := chunks 512 b
  (List.zip (List.range cs.length) cs).map (fun (p : Nat × List Byte) => (p.1, cs.length, p.2))

/-- Begin a hail of a kind on a link: its segments wait for the control flits of the link's lanes. The length of the signature, at most
1,280 bytes, and its bytes are free values (log entries 3, 172). -/
def Dev.sendHail (d : Dev) (kind : Nat) (l : Link) : Dev :=
  let f := d.fresh
  let n := f.1 % 1281
  let body := d.hailBody kind n l
  let b := body ++ (List.range n).map (fun i => (signBytes f.2.free body).getD i 0)
  (f.2.modLink l (fun x => { x with hailTx := x.hailTx ++ hailSegments b })).emit (.hail l.port kind b)

/-- Send a hail of a kind on every link that satisfies `p`. -/
def Dev.sendHails (d : Dev) (kind : Nat) (p : Link → Bool) : Dev :=
  (d.lnk.links.filter p).foldl (fun (x : Dev) l => x.sendHail kind l) d

/-- Links are held short of hails: until stage 6, which begins as stage 4 passes and HST.START.STAGE shows 7 (R538), and while a solitary chip
with an active run defers its join (R425). -/
def Dev.heldShort (d : Dev) : Bool := decide (d.hst.stage < 7) || (d.lnk.solitary && d.seq.run.isSome)

/-- HAIL_SEND: the hails of a port's links that are aligned and have not been hailed (R425, R428, R429). A second link's hails ride in its
control flits as any other's (R419; DEDUCED, log entry 173). -/
def Dev.hailSend (d : Dev) (port : Nat) : Dev :=
  let due := fun (l : Link) => decide (l.port = port) && !l.hailSent && !l.foreign && d.frm.aligned && !d.heldShort
  let d1 := d.sendHails 1 due
  { d1 with lnk := { d1.lnk with links := d1.lnk.links.map (fun (l : Link) => if due l then { l with hailSent := true } else l) } }

/-- Digest of the key that a hail's certificate certifies (R432, R553). -/
def hailKeyDigest (body : List Byte) : Nat := shake256 ((body.drop 128).take 1793)

/-- R430 on a hail of a kind, its length (R429), and its certificate (R554), whose signature verifies where `certOk` says so. -/
def Dev.hailOk (d : Dev) (kind : Nat) (b : List Byte) (certOk sigOk : Bool) : Bool :=
  let n := bytesAt b
  decide (b.length ≤ 8192) && n 0 4 = 0x4C494148 && n 4 1 = kind && n 5 1 = 1 && n 30 2 = 0x4831 && n 42 22 = 0 &&
  n 16 8 = Config.fingerprint.toNat && decide ((d.frm.frame + 2 ^ 48 - n 24 6) % 2 ^ 48 ≤ 8) &&
  certLaid 1 Config.deviceCa.toNat ((b.drop 64).take (n 38 2)) && certOk &&
  n 8 8 = hailKeyDigest b % 2 ^ 64 && sigOk

/-- The link of a port on which a hail arrives. -/
def Dev.hailLink (d : Dev) (port : Nat) (b : List Byte) : Option Link :=
  d.lnk.links.find? (fun (l : Link) => decide (l.port = port ∧ l.fp = bytesAt b 8 8 ∧ l.farPort = bytesAt b 6 1))

/-- The partner entry of a fingerprint: one that is not free, or that a hail of this frame has claimed. -/
def Dev.partnerOf (d : Dev) (fp : Nat) : Option Nat :=
  (List.range 255).find? (fun i =>
    decide ((d.partner i).fp = fp) && (decide ((d.partner i).state ≠ .free) || d.lnk.changes.any (fun (c : Nat × PartnerState) => c.1 = i)))

/-- Lowest free entry. -/
def Dev.freePartner (d : Dev) : Option Nat :=
  (List.range 255).find? (fun i => decide ((d.partner i).state = .free) && !d.lnk.changes.any (fun (c : Nat × PartnerState) => c.1 = i))

def Dev.putPartner (d : Dev) (i : Nat) (p : Partner) : Dev := { d with lnk := { d.lnk with partners := tput d.lnk.partners i p } }

/-- The domain descriptor of a hail in a partner entry. -/
def Partner.domain (p : Partner) (b : List Byte) : Partner :=
  { p with feed := bytesAt b 32 2, loop_ := bytesAt b 34 2, chassis := bytesAt b 36 2 }

/-- HAIL (R430, R432, R433). -/
def Dev.hail (d : Dev) (port : Nat) (b : List Byte) (certOk sigOk : Bool) : Dev :=
  let refuse := fun (x : Dev) (code : Nat) => x.linkNotice code port 0 0
  match d.hailLink port b with
  | none => refuse d 0x7020
  | some l =>
    let refuse := fun (x : Dev) (code : Nat) => x.linkNotice code port 0 0 (some l)
    if l.foreign || d.heldShort then d
    else if !d.hailOk 1 b certOk sigOk then refuse d 0x7020
    else
      let kd := hailKeyDigest b / 2 ^ 64 % 2 ^ 64
      let accept := fun (x : Dev) => x.modLink l (fun y => { y with accepted := true })
      match d.partnerOf l.fp with
      | some i =>
        if (d.partner i).keyd ≠ kd then refuse d 0x7020
        else accept (d.putPartner i ((d.partner i).domain b))
      | none =>
        match d.freePartner with
        | none => refuse d 0x7022
        | some i =>
          let d1 := d.putPartner i (({ fp := l.fp, keyd := kd } : Partner).domain b)
          accept { d1 with lnk := { d1.lnk with changes := d1.lnk.changes ++ [(i, .hailing)] } }

/-- UPDATE_HAIL (R433, R435): a present partner's domain descriptor is replaced at the next tick. -/
def Dev.updateHail (d : Dev) (port : Nat) (b : List Byte) (certOk sigOk : Bool) : Dev :=
  match d.hailLink port b with
  | none => d.linkNotice 0x7020 port 0 0
  | some l =>
    if l.foreign then d
    else if !d.hailOk 2 b certOk sigOk then d.linkNotice 0x7020 port 0 0 (some l)
    else match d.partnerOf l.fp with
      | none => d
      | some i =>
        if (d.partner i).state ≠ .present then d
        else
          { d with lnk := { d.lnk with
              changes := d.lnk.changes ++ [(i, .present)]
              domains := tput d.lnk.domains i (bytesAt b 32 2, bytesAt b 34 2, bytesAt b 36 2) } }

/-- FAREWELL (R420, R433): the link goes down and the partner is lost at the next tick. -/
def Dev.farewell (d : Dev) (port : Nat) (b : List Byte) (certOk sigOk : Bool) : Dev :=
  match d.hailLink port b with
  | none => d.linkNotice 0x7020 port 0 0
  | some l =>
    if l.foreign then d
    else if !d.hailOk 3 b certOk sigOk then d.linkNotice 0x7020 port 0 0 (some l)
    else
      let d1 := d.linkDown l
      match d1.partnerOf l.fp with
      | none => d1
      | some i => { d1 with lnk := { d1.lnk with changes := d1.lnk.changes ++ [(i, .lost)] } }

/-! ### The tick of the link block -/

/-- Value of a partner state in LNK.PT_STATE. -/
def PartnerState.val : PartnerState → Nat
  | .free => 0
  | .hailing => 1
  | .present => 2
  | .lost => 3

/-- Move a partner entry and journal it (R433, KIND 5 of Table 13.6). With no journal slot free the change is refused, and comes when there
is one (R567). -/
def Dev.movePartner (d : Dev) (i : Nat) (s : PartnerState) : Dev :=
  if d.journalSpent then d.raise 0xA021 24 0 i
  else
  let p := d.partner i
  let d1 := d.putPartner i (if s = .free then { frame := d.frm.frame } else { p with state := s, frame := d.frm.frame })
  d1.journal 3 5 false i p.fp p.state.val s.val

/-- The partner is lost (R433): 0x7023 carries the port of its last link (R445). -/
def Dev.losePartner (d : Dev) (i : Nat) : Dev :=
  let p := (d.partner i).port
  (d.movePartner i .lost).raise 0x7023 (linkUnit p) (linkWhere p 0) i

/-- Links up to a partner. -/
def Dev.linksTo (d : Dev) (fp : Nat) : List Link := d.lnk.links.filter (fun (l : Link) => l.up && decide (l.fp = fp))

/-- Lanes leave their links and train again; a link without lanes goes down (R418, R420). -/
def Dev.dropLanes (d : Dev) : Dev :=
  let gone := d.lnk.lanes.filter (fun (x : Nat × Lane) => (decide (2 ≤ x.2.missed) && x.2.trained) || x.2.leaving)
  gone.foldl (fun (y : Dev) (x : Nat × Lane) =>
    let port := x.1 / 8
    let lane := x.1 % 8
    let y1 := y.modLane port lane (fun z => if 2 ≤ z.missed then {} else { z with leaving := false })
    match y1.linkAt port lane with
    | none => y1
    | some l =>
      if l.lanes = [lane] then y1.linkDown l
      else y1.modLink l (fun z => { z with lanes := z.lanes.filter (· ≠ lane) })) d

/-- Lanes join the link of their partner and far port, or form it (R418). -/
def Dev.joinLanes (d : Dev) : Dev :=
  (d.lnk.lanes.filter (fun (x : Nat × Lane) => x.2.trained && x.2.heard && x.2.echoed)).foldl (fun (y : Dev) (x : Nat × Lane) =>
    let port := x.1 / 8
    let lane := x.1 % 8
    match y.linkAt port lane with
    | some _ => y
    | none =>
      match y.lnk.links.find? (fun (l : Link) => l.is port x.2.peer x.2.farPort) with
      | some l => y.modLink l (fun z => { z with lanes := sinsert z.lanes lane })
      | none => { y with lnk := { y.lnk with
          links := y.lnk.links ++ [({ port := port, fp := x.2.peer, farPort := x.2.farPort, lanes := [lane], formed := y.frm.frame } : Link)] } }) d

/-- Lanes of a link with what they last heard. -/
def Dev.laneInfo (d : Dev) (l : Link) : List Lane := l.lanes.map (fun i => d.lane l.port i)

/-- A lane's last marker carries this chip's L, or was sent before the tick of a common change of L and carries the one before it
(R87, R117). -/
def Dev.carriesLen (d : Dev) (x : Lane) : Bool :=
  decide (x.len = d.logLen) || (match d.lnk.relen with
    | some (old, tick) => decide (x.len = old) && frameBefore x.frame tick
    | none => false)

/-- A link is foreign (R428): its L differs, or neither chip is solitary and the REF values differ. -/
def Dev.isForeign (d : Dev) (l : Link) : Bool :=
  (d.laneInfo l).any (fun x => x.heard && (!d.carriesLen x ||
    (decide (15 ≤ x.hops) && decide (x.ref ≠ d.lnk.ref)) ||
    (!d.lnk.solitary && !x.flags.testBit 2 && decide (x.ref ≠ d.lnk.ref) && d.lnk.lostRef.isNone)))

/-- Mark second and foreign links, with their notices once (R419, R428). -/
def Dev.classifyLinks (d : Dev) : Dev :=
  d.lnk.links.foldl (fun (y : Dev) l =>
    let second := d.lnk.links.any (fun (x : Link) => decide (x.port = l.port ∧ x.fp = l.fp ∧ x.farPort < l.farPort))
    let foreign := d.isForeign l
    let y1 := y.modLink l (fun z => { z with
      second := second, foreign := foreign, raised7024 := z.raised7024 || second, raised7021 := foreign
      hailSent := z.hailSent && (z.up || !foreign), hailTx := if foreign then [] else z.hailTx })
    let y2 := if second && !l.raised7024 then y1.linkNotice 0x7024 l.port 0 0 (some l) else y1
    if foreign && !l.raised7021 then y2.linkNotice 0x7021 l.port 0 0 (some l) else y2) d

/-- What neighbours offer: hops, port, lane, REF and whether they are solitary. -/
structure Offer where
  hops : Nat
  port : Nat
  lane : Nat
  ref : Nat
  solitary : Bool

/-- The neighbours' offers, in ascending port and lane. -/
def Dev.offers (d : Dev) : List Offer :=
  d.lnk.lanes.filterMap (fun (x : Nat × Lane) =>
    if x.2.trained && x.2.heard && d.carriesLen x.2 && decide (x.2.hops < 15) && (d.linkAt (x.1 / 8) (x.1 % 8)).isSome then
      some { hops := x.2.hops, port := x.1 / 8, lane := x.1 % 8, ref := x.2.ref, solitary := x.2.flags.testBit 2 }
    else none)

/-- The offer of a REF with the fewest hops; ties go to the lower port and lane (R424). -/
def bestOffer (os : List Offer) (ref : Nat) : Option Offer :=
  (os.filter (fun o => o.ref = ref)).foldl (fun (b : Option Offer) o => match b with
    | none => some o
    | some x => if o.hops < x.hops then some o else some x) none

/-- Follow a REF: REF, HOPS and upstream; a change of REF or upstream joins at the next tick (R425) unless `quiet`. -/
def Dev.follow (d : Dev) (ref : Nat) (os : List Offer) (quiet : Bool) : Dev :=
  let self := Config.fingerprint.toNat
  let up := if ref = self then none else bestOffer os ref
  let upKey := up.map (fun o => (o.port, o.lane))
  let changed := decide (ref ≠ d.lnk.ref) || (decide (upKey ≠ d.lnk.upstream) && upKey.isSome)
  { d with lnk := { d.lnk with
      ref := ref, upstream := upKey
      hops := match up with
        | none => 0
        | some o => o.hops + 1
      join := d.lnk.join || (changed && !quiet && decide (ref ≠ self)) } }

/-- Ticks of an election: the loss spreads over at most 15 hops, then the lowest fingerprint does (DESIGN CHOICE, log entry 184). -/
def electionTicks : Nat := 32

/-- Choose the reference and the upstream (R423, R424, R427, R428). -/
def Dev.chooseRef (d : Dev) : Dev :=
  let self := Config.fingerprint.toNat
  let os := d.offers
  let least := fun (l : List Nat) => l.foldl min self
  if d.lnk.solitary then
    if d.seq.run.isSome then d
    else match os.find? (fun o => !o.solitary) with
      | some o => d.follow o.ref os false
      | none => d.follow (least (os.map Offer.ref)) os false
  else match d.lnk.lostRef with
    | some r =>
      let d1 := d.follow (least ((os.filter (fun o => o.ref ≠ r)).map Offer.ref)) os true
      { d1 with lnk := { d1.lnk with election := d.lnk.election - 1, lostRef := if d.lnk.election ≤ 1 then none else some r } }
    | none =>
      if d.lnk.ref = self || os.any (fun o => o.ref = d.lnk.ref) then d.follow d.lnk.ref os false
      else
        let d1 : Dev := { d with lnk := { d.lnk with lostRef := some d.lnk.ref, election := electionTicks } }
        d1.follow (least ((os.filter (fun o => o.ref ≠ d.lnk.ref)).map Offer.ref)) os true

/-- Offset of a link: the mean of its lanes' θ, in whole reference periods toward zero (R422). -/
def Dev.linkOffset (d : Dev) (l : Link) : Option Int :=
  let ts := (d.laneInfo l).filterMap Lane.theta
  if ts.isEmpty then none else some (Int.tdiv (ts.foldl (· + ·) 0) (32 * (ts.length : Int)))

/-- The upstream link. -/
def Dev.upLink (d : Dev) : Option Link := match d.lnk.upstream with
  | none => none
  | some p => d.linkAt p.1 p.2

/-- The markers of every link that is up carry this chip's L (R87, R117). -/
def Dev.linksCarryLen (d : Dev) : Bool :=
  (d.lnk.links.filter (fun (l : Link) => l.up)).all (fun l => (d.laneInfo l).all (fun (x : Lane) => !x.heard || decide (x.len = d.logLen)))

/-- Alignment at a tick (R81 to R83, R425): the reference of a fabric is aligned; a chip that joins takes the upstream's
frame number; an aligned chip whose offset leaves ±16 periods, or whose frame number is not its upstream's, loses alignment and joins
again. 0x1040 is of the offset alone. -/
def Dev.alignTick (d : Dev) : Dev :=
  match d.lnk.upstream with
  | none => { d with
      frm := { d.frm with aligned := d.frm.aligned || d.linksCarryLen, joining := false, offset := 0 }, lnk := { d.lnk with join := false } }
  | some p =>
    let x := d.lane p.1 p.2
    if d.lnk.join then
      { d with
        frm := { d.frm with frame := (x.frame + 1) % 2 ^ 48, aligned := false, joining := true }
        lnk := { d.lnk with join := false, lanes := d.lnk.lanes.map (fun (y : Nat × Lane) => (y.1, { y.2 with theta := none })) } }
    else
      let off := match d.upLink with
        | none => none
        | some l => d.linkOffset l
      match off with
      | none => d
      | some o =>
        let d1 := { d with frm := { d.frm with offset := o } }
        let near := decide (-16 ≤ o ∧ o ≤ 16)
        let same := decide ((x.frame + 1) % 2 ^ 48 = d.frm.frame)
        if d.frm.aligned then
          if near && (same || !x.now) then d1
          else
            let d2 := { d1 with frm := { d1.frm with aligned := false, joining := true }, lnk := { d1.lnk with join := true } }
            if near then d2 else d2.raise 0x1040 24 0 0
        else if near && same && decide (x.len = d.logLen) && d.linksCarryLen then
          { d1 with frm := { d1.frm with aligned := true, joining := false } }
        else d1

/-- Links come up (R431): both hails accepted. The streams of the partner on the port start at count 0, but for a second link, which carries
none (R419; DEDUCED, log entry 173). -/
def Dev.raiseLinks (d : Dev) : Dev :=
  (d.lnk.links.filter (fun (l : Link) => !l.up && l.accepted && l.hailOk && !l.foreign)).foldl (fun (y : Dev) l =>
    let y1 := y.modLink l (fun z => { z with up := true, txSeq := 0, rxSeq := 0, replay := [], window := [], sent := 0 })
    match y1.partnerOf l.fp with
    | none => y1
    | some i =>
      let y0 := y1.leaveLanding (fun s => !l.second && decide ((y1.stream s).port = l.port ∧ (y1.stream s).partner = i))
      let y2 := { y0 with lnk := { y1.lnk with
        solitary := false
        streams := y1.lnk.streams.map (fun (s : Nat × StreamState) =>
          if !l.second ∧ (y1.stream s.1).port = l.port ∧ (y1.stream s.1).partner = i then
            (s.1, { s.2 with send := 0, recv := 0, partial_ := none, held := [] })
          else s) } }
      let y3 := y2.putPartner i { y2.partner i with port := l.port }
      if (y3.partner i).state = .present then y3 else y3.movePartner i .present) d

/-- Entries follow their links (Table 9.7): present without a link up, lost; hailing without a link whose hail was accepted, free. -/
def Dev.partnersTick (d : Dev) : Dev :=
  let d1 := (d.lnk.partners.filter (fun (p : Nat × Partner) => p.2.state = .present && (d.linksTo p.2.fp).isEmpty)).foldl
    (fun (y : Dev) p => y.losePartner p.1) d
  (d1.lnk.partners.filter (fun (p : Nat × Partner) =>
    p.2.state = .hailing && !d1.lnk.links.any (fun (l : Link) => decide (l.fp = p.2.fp) && l.accepted))).foldl
    (fun (y : Dev) p => y.movePartner p.1 .free) d1

/-- The active charter names a partner index in a valid stream or protection entry. -/
def Dev.partnerNamed (d : Dev) (i : Nat) : Bool :=
  d.validStreams.any (fun s => (d.stream s).partner = i) ||
  (match d.cht.active with
    | none => false
    | some c => c.prot.any (fun b => let e := protEntry b; e.valid && (e.order.contains i || e.replicas.contains i)))

/-- A present partner takes the domain descriptor of its update hail. -/
def Dev.takeDomain (d : Dev) (i : Nat) (x : Option (Nat × Nat × Nat)) : Dev :=
  match x with
  | none => d
  | some v => d.putPartner i { d.partner i with feed := v.1, loop_ := v.2.1, chassis := v.2.2 }

/-- The changes that waited for the tick: hails accepted, update hails, farewells, FREE (R433). -/
def Dev.partnerChanges (d : Dev) : Dev :=
  let d0 : Dev := { d with lnk := { d.lnk with changes := [], domains := [], free := [] } }
  let d1 := d.lnk.changes.foldl (fun (y : Dev) (c : Nat × PartnerState) =>
    match c.2 with
    | .lost => if (y.partner c.1).state = .present then y.losePartner c.1 else y
    | .free => y
    | .present =>
      if (y.partner c.1).state = .present then (y.takeDomain c.1 (tget d.lnk.domains c.1)).movePartner c.1 .present else y
    | .hailing => if (y.partner c.1).state = .free then y.movePartner c.1 .hailing else y) d0
  d.lnk.free.foldl (fun (y : Dev) i =>
    if (y.partner i).state = .lost ∧ !y.partnerNamed i then y.movePartner i .free else y) d1

/-- YIELD at its tick: rejoin through the lowest-numbered foreign link (R428). -/
def Dev.yieldTick (d : Dev) : Dev :=
  if !d.lnk.yield then d
  else
    let d1 := { d with lnk := { d.lnk with yield := false } }
    match (d1.offers.filter (fun o => match d1.linkAt o.port o.lane with
      | some l => l.foreign
      | none => false)).head? with
    | none => d1
    | some o => { d1 with lnk := { d1.lnk with
        ref := o.ref, hops := o.hops + 1, upstream := some (o.port, o.lane), join := true } }

/-- Per-frame state of the link block starts anew: budgets, committed ends, reserves, notices (R37, R39, R40, R413, R445). -/
def Dev.linkFrame (d : Dev) : Dev :=
  { d with lnk := { d.lnk with
      raised := []
      links := d.lnk.links.map (fun (l : Link) => { l with committed := 0, retries := 0, snap := 0, sent := 0 })
      streams := d.lnk.streams.map (fun (s : Nat × StreamState) => (s.1, { s.2 with charged := 0 })) } }

/-- No control flit of the new frame has been heard yet; what the frame before heard has been echoed (Table 9.5). -/
def Dev.unheard (d : Dev) : Dev :=
  { d with lnk := { d.lnk with lanes := d.lnk.lanes.map (fun (x : Nat × Lane) => (x.1, { x.2 with now := false })) } }

/-- Update hails and farewells go out on every link that is up, but for a foreign one, which exchanges no hails (R428, R435, R436). -/
def Link.hails (l : Link) : Bool := l.up && !l.foreign

/-- What the link block does at a tick before the run and the rings have theirs, in this order (DEDUCED, log entry 36). -/
def Dev.linkTick (d : Dev) : Dev :=
  let d1 := d.linkFrame.partnerChanges.yieldTick.dropLanes.joinLanes.classifyLinks
  let d2 := (d1.raiseLinks.partnersTick.chooseRef).alignTick
  if d2.lnk.domainChanged then ({ d2 with lnk := { d2.lnk with domainChanged := false } } : Dev).sendHails 2 Link.hails else d2

/-- Every trained lane launches its control flit, which carries the sender's values at the frame that has begun (R410, R421). -/
def Dev.launchControls (d : Dev) : Dev :=
  ((d.lnk.lanes.filter (fun (x : Nat × Lane) => x.2.trained)).foldl (fun (y : Dev) x => y.launchControl (x.1 / 8) (x.1 % 8)) d).unheard

end Sys2Proof.Machine
end

