-- ==== Sys2Proof/Machine/Charter.lean ====
section
/-! DEFINITION. The charter image, its validation (Table 2.6, Table 8.7), and the charter loader (R91 to R117, R128 to R131). -/

namespace Sys2Proof.Machine

/-! ### The image (R91 to R94) -/

/-- Bytes of the signature block. -/
def sigBytes : Nat := 2048

structure ChtHeader where
  magic : Nat
  version : Nat
  part : Nat
  minStep : Nat
  kind : Nat
  sections : Nat
  length : Nat
  id : Nat
  baseId : Nat
  baseDigest : Nat
  deriving DecidableEq, Repr

/-- The header (Table 2.1). -/
def chtHeader (b : List Byte) : ChtHeader :=
  let n := bytesAt b
  { magic := n 0 4, version := n 4 2, part := n 6 2, minStep := n 8 1, kind := n 9 1, sections := n 10 2, length := n 12 4
    id := n 16 8, baseId := n 24 8, baseDigest := n 32 32 }

/-- Bytes of the directory, padded to whole granules. -/
def dirBytes (n : Nat) : Nat := ceilDiv (16 * n) 64 * 64

structure DirEntry where
  type : Nat
  patch : Nat
  reserved : Nat
  offset : Nat
  length : Nat
  count : Nat
  deriving DecidableEq, Repr

/-- Directory entry `i` (R93). -/
def dirEntry (b : List Byte) (i : Nat) : DirEntry :=
  let n := fun (o k : Nat) => bytesAt b (64 + 16 * i + o) k
  { type := n 0 1, patch := n 1 1, reserved := n 2 2, offset := n 4 4, length := n 8 4, count := n 12 4 }

/-- Entry size, maximum COUNT and whether a patch is allowed, by section type (Table 2.3). -/
def sectionKind : Nat → Option (Nat × Nat × Bool)
  | 1 => some (64, 1, false)
  | 2 => some (32, 64, true)
  | 3 => some (192, 1, false)
  | 4 => some (16, 4096, true)
  | 5 => some (32, 4096, true)
  | 6 => some (16, 1024, true)
  | 7 => some (16, 4096, true)
  | 8 => some (64, 64, true)
  | 9 => some (4, 4096, false)
  | _ => none

/-- Entry size of a section. -/
def sectionSize (t : Nat) : Nat := match sectionKind t with
  | some k => k.1
  | none => 1

/-- Bytes of one record of a section: a patch record has a prefix of 8 bytes (R96). -/
def DirEntry.recSize (e : DirEntry) : Nat := sectionSize e.type + (if e.patch = 1 then 8 else 0)

/-- The records of a section as numbers. -/
def DirEntry.records (e : DirEntry) (b : List Byte) : List Nat :=
  (List.range e.count).map (fun j => bytesAt b (e.offset + j * e.recSize) e.recSize)

/-- Index, rest of the prefix and entry of a patch record. -/
def patchRecord (x : Nat) : Nat × Nat × Nat := (nfld x 0 32, nfld x 32 32, x / 2 ^ 64)

/-- Numbers strictly ascend. -/
def ascending : List Nat → Bool
  | a :: b :: r => decide (a < b) && ascending (b :: r)
  | _ => true

/-- A failing check: code, section type and entry (R107). -/
abbrev ChtFault := Nat × Nat × Nat

/-- The first failing entry of a section. -/
def firstBad (code sec n : Nat) (bad : Nat → Bool) : Option ChtFault := ((List.range n).find? bad).map (fun i => (code, sec, i))

/-- Check 0x1050. -/
def headerBad (h : ChtHeader) (length step : Nat) : Bool :=
  h.magic ≠ 0x4843564B || h.version ≠ 1 || h.part ≠ 0x4831 || decide (step < h.minStep) || decide (1 < h.kind) ||
  h.length ≠ length || h.length % 64 ≠ 0 || decide (h.length < 64 + dirBytes h.sections + sigBytes) || h.id = 0 ||
  (h.kind = 0 && (h.baseId ≠ 0 || h.baseDigest ≠ 0))

/-- The digest of an image: the one that its signature block signs (R94, DEDUCED, log entry 42). -/
def imageDigest (b : List Byte) : Nat := shake512 (b.take (b.length - sigBytes))

/-- An owner key slot holds the key with this identifier for a use (R555, R556): 1 charter, 2 program. -/
def Sec.admits (s : Sec) (id use : Nat) : Bool :=
  s.keys.any (fun (k : Nat × (Nat × List Byte)) => (k.2.1 = use || k.2.1 = 3) && keyIdOf k.2.2 = id)

/-- A signature block (R94) signs a digest under an owner key of a use; `ok` is the verdict on the Falcon-1024 signature. -/
def Dev.blockOk (d : Dev) (block : List Byte) (digest use : Nat) (ok : Bool) : Bool :=
  let n := bytesAt block 80 2
  bytesAt block 16 64 = digest && decide (n ≤ 1280) && (block.drop (82 + n)).all (fun b => b = 0) &&
  d.sec.admits (bytesAt block 0 16) use && ok

/-- Parts of the image: start and end of the header with the directory, of each section, and of the signature block. -/
def imageParts (h : ChtHeader) (es : List DirEntry) : List (Nat × Nat) :=
  (0, 64 + 16 * h.sections) :: (es.filter (fun e => e.length ≠ 0)).map (fun e => (e.offset, e.offset + e.length)) ++
    [(h.length - sigBytes, h.length)]

/-- A byte lies in some part. -/
def inParts (ps : List (Nat × Nat)) (i : Nat) : Bool := ps.any (fun p => decide (p.1 ≤ i ∧ i < p.2))

/-- Two parts share a byte. -/
def partsOverlap : List (Nat × Nat) → Bool
  | [] => false
  | p :: r => r.any (fun q => decide (p.1 < q.2 ∧ q.1 < p.2)) || partsOverlap r

/-- A directory entry that fails check 0x1053 by itself. -/
def dirEntryBad (h : ChtHeader) (e : DirEntry) : Bool :=
  match sectionKind e.type with
  | none => true
  | some k =>
    decide (1 < e.patch) || e.reserved ≠ 0 || (e.patch = 1 && (h.kind = 0 || !k.2.2)) || (e.type = 1 && e.count ≠ 1) ||
    decide (k.2.1 < e.count) || e.length ≠ e.count * e.recSize || e.offset % 64 ≠ 0 ||
    decide (e.offset < 64 + dirBytes h.sections) || decide (h.length - sigBytes < e.offset + e.length)

/-- A patch section that fails check 0x1053; `have_` is the COUNT of the active section (R96). -/
def patchBad (b : List Byte) (e : DirEntry) (have_ : Nat) : Bool :=
  if e.patch ≠ 1 then false
  else
    let rs := (e.records b).map patchRecord
    let is := rs.map (fun r => r.1)
    let new := is.filter (fun i => decide (have_ ≤ i))
    let most := match sectionKind e.type with
      | some k => k.2.1
      | none => 0
    rs.any (fun r => r.2.1 ≠ 0 || decide (most ≤ r.1)) || !ascending is || new ≠ (List.range new.length).map (· + have_)

/-- The ROUTING bits that must be 0 (R100). -/
def routingBad (x : Nat) : Bool := x / 2 ^ 1369 ≠ 0 || (List.range 37).any (fun s => x.testBit (38 * s))

/-- Entries of a section of a charter as numbers. -/
def Charter.section (c : Charter) : Nat → List Nat
  | 1 => [c.settings.toNat]
  | 2 => c.groups.map BitVec.toNat
  | 3 => [c.routing.toNat]
  | 4 => c.streams.map BitVec.toNat
  | 5 => c.allocs.map BitVec.toNat
  | 6 => c.layers.map BitVec.toNat
  | 7 => c.tensors.map BitVec.toNat
  | 8 => c.prot.map BitVec.toNat
  | 9 => c.energy.map BitVec.toNat
  | _ => []

/-- The charter whose sections are these numbers. -/
def charterOf (id : Nat) (digest : Nat) (sec : Nat → List Nat) : Charter :=
  let bv := fun (n t : Nat) => (sec t).map (BitVec.ofNat n)
  { id := id, digest := BitVec.ofNat 512 digest, settings := BitVec.ofNat 512 ((sec 1).headD 0), groups := bv 256 2
    routing := BitVec.ofNat 1536 ((sec 3).headD 0), streams := bv 128 4, allocs := bv 256 5, layers := bv 128 6
    tensors := bv 128 7, prot := bv 512 8, energy := bv 32 9 }

/-- A section with the records of a directory entry put in. -/
def applySection (old : List Nat) (b : List Byte) (e : DirEntry) : List Nat :=
  if e.patch = 1 then
    ((e.records b).map patchRecord).foldl (fun (l : List Nat) r =>
      if r.1 < l.length then l.set r.1 r.2.2 else l ++ [r.2.2]) old
  else e.records b

/-- The sections of the charter that an image produces from a base. -/
def imageSections (base : Nat → List Nat) (b : List Byte) (es : List DirEntry) (t : Nat) : List Nat :=
  match es.find? (fun e => e.type = t) with
  | none => base t
  | some e => applySection (base t) b e

/-- Check 0x1053 on the image; `base` gives the sections of the active charter for a partial image. -/
def directoryBad (h : ChtHeader) (b : List Byte) (es : List DirEntry) (base : Nat → List Nat) : Bool :=
  h.sections = 0 || decide (9 < h.sections) || es.any (dirEntryBad h) ||
  (dedup [] (es.map (fun e => e.type))).length ≠ es.length || (h.kind = 0 && es.length ≠ 9) ||
  partsOverlap (imageParts h es) || es.any (fun e => patchBad b e (base e.type).length) ||
  es.any (fun e => e.type = 3 && (e.records b).any routingBad) ||
  (List.zip (List.range b.length) b).any (fun x => !inParts (imageParts h es) x.1 && x.2 ≠ 0)

/-! ### Checks 0x1054 to 0x105B, on the charter that the image produces -/

/-- Group entry `i`. -/
def Charter.groupAt (c : Charter) (i : Nat) : GroupEntry := groupEntry (c.groups.getD i 0)

/-- Members of a used group, forward tiles below 1,024 and backward tiles above. -/
def GroupEntry.members (e : GroupEntry) : List Nat :=
  if e.kind = 1 then e.fwdMembers else if e.kind = 2 then e.bwdMembers.map (· + 1024) else []

/-- Check 0x1054 (R99). -/
def Charter.groupsBad (c : Charter) : Option ChtFault :=
  let n := c.groups.length
  let ms := (List.range n).map (fun i => (c.groupAt i).members)
  firstBad 0x1054 2 n (fun i =>
    let e := c.groupAt i
    let m := ms.getD i []
    e.kind = 3 || e.reserved || (e.kind = 2 && e.tiles / 2 ^ 16 ≠ 0) || ((e.kind = 1 || e.kind = 2) && m.isEmpty) ||
    (List.range n).any (fun j => decide (j ≠ i) && (ms.getD j []).any (fun t => m.contains t)))

/-- Check 0x1055: no selected route crosses a failed package link. A failed link is a pair whose primary route failed (R540); its
alternate is selected by a 1. -/
def Dev.routesBad (d : Dev) (c : Charter) : Option ChtFault :=
  if d.hst.selfTest.links.any (fun (l : Nat × Nat) => !c.routing.toNat.testBit (37 * l.1 + l.2)) then some (0x1055, 3, 0) else none

/-- FRAME_LEN that the charter sets. -/
def Charter.frameLen (c : Charter) : Nat := 2 ^ c.logLen

/-- Lanes that a partner's streams have on a port; a full link where it has none (R412). -/
def Dev.partnerLanes (d : Dev) (port partner : Nat) : Nat := match d.linkOf port partner with
  | some l => l.lanes.length
  | none => 8

/-- Stream entry `i` of the charter. -/
def Charter.streamAt (c : Charter) (i : Nat) : StreamEntry := streamEntry (c.streams.getD i 0)

/-- Budgets of the valid send streams up to `i` that share its port and partner (R412). -/
def Charter.budgetTo (c : Charter) (i : Nat) : Nat :=
  let e := c.streamAt i
  sumNat ((List.range (i + 1)).map (fun j =>
    let x := c.streamAt j
    if x.valid && !x.recv && decide (x.port = e.port) && decide (x.partner = e.partner) then x.budget else 0))

/-- Check 0x1056 (R101, R412). The fields of an entry with VALID 0, but for reserved bits, are not judged (DESIGN CHOICE, log entry 191). -/
def Dev.streamsBad (d : Dev) (c : Charter) : Option ChtFault :=
  firstBad 0x1056 4 c.streams.length (fun i =>
    let e := c.streamAt i
    e.reserved || (e.valid && (decide (11 < e.port) || decide (4 < e.cls) || decide ((d.partner e.partner).state ≠ .present) ||
      (!e.recv && decide (15 * linkCapacity (d.partnerLanes e.port e.partner) c.frameLen < 16 * c.budgetTo i)))))

/-- Allocation `i` of the charter. -/
def Charter.allocAt (c : Charter) (i : Nat) : AllocEntry := allocEntry (c.allocs.getD i 0)

/-- Shares of an allocation: kind and number of the place, first byte and end (R373). Places are numbered 2^20 × LOC + place. -/
def Charter.shares (c : Charter) (e : AllocEntry) : List (Nat × Nat × Nat) :=
  if e.loc ≤ 1 then
    let ps := e.placeList
    let sh := if ps.isEmpty then 0 else ceilDiv e.size (ps.length * e.unit) * e.unit
    ps.map (fun p => (2 ^ 20 * e.loc + p, e.base * 4096, e.base * 4096 + sh))
  else
    let ms := if e.loc = 2 then (c.groupAt (e.places % 64)).fwdMembers else (c.groupAt (e.places % 64)).bwdMembers
    let sh := if ms.isEmpty then 0 else e.size / ms.length
    ms.map (fun m => (2 ^ 20 * e.loc + m, e.base * 64, e.base * 64 + sh))

/-- Capacity of a place (Table 8.1). -/
def placeCapacity : Nat → Nat
  | 0 => 0xC00000000
  | 1 => 0x20000000
  | 2 => 0x100000
  | _ => 0x400000

/-- Check 1 of Table 8.7. -/
def allocFieldsBad (i : Nat) (e : AllocEntry) : Bool :=
  e.reserved || (e.valid && (decide (5 < e.purpose) || e.size = 0 || e.size % 64 ≠ 0 || i = 4095 || (decide (2 ≤ e.loc) && e.panel)))

/-- Check 2: the places. -/
def Charter.placesBad (c : Charter) (e : AllocEntry) : Bool :=
  match e.loc with
  | 0 => e.places = 0
  | 1 => e.places = 0 || decide (16 ≤ e.places)
  | l => decide (64 ≤ e.places) || (c.groupAt (e.places % 64)).kind ≠ l - 1

/-- Check 3: whole shares within their places. -/
def Charter.sharesBad (c : Charter) (e : AllocEntry) : Bool :=
  (decide (2 ≤ e.loc) && e.size % (64 * max 1 (c.shares e).length) ≠ 0) ||
  (c.shares e).any (fun x => decide (placeCapacity e.loc < x.2.2))

/-- The classes that a purpose allows to write (Table 8.6), as the mask of PERM's write bits. -/
def purposeWriters : Nat → Nat
  | 1 => 2 ^ 7 + 2 ^ 11 + 2 ^ 13
  | 2 => 2 ^ 11
  | 3 => 2 ^ 9 + 2 ^ 11
  | 4 => 2 ^ 13
  | 5 => 2 ^ 15
  | _ => 0xAAAA

/-- Check 4: the purpose. -/
def Charter.purposeBad (c : Charter) (e : AllocEntry) : Bool :=
  (e.perm &&& 0xAAAA &&& (0xFFFF - purposeWriters e.purpose)) ≠ 0 || (e.purpose ≠ 0 && e.loc ≠ 0) ||
  (if e.purpose = 1 then e.panel || (c.shares e).any (fun x => decide (x.2.1 < 0xA00000000))
    else e.loc = 0 && (c.shares e).any (fun x => decide (0xA00000000 < x.2.2)))

/-- Two lists of shares share a byte. -/
def sharesMeet (a b : List (Nat × Nat × Nat)) : Bool :=
  a.any (fun x => b.any (fun y => decide (x.1 = y.1 ∧ x.2.1 < y.2.2 ∧ y.2.1 < x.2.2)))

/-- Check 0x1057 in the order of Table 8.7. -/
def Charter.allocsBad (c : Charter) : Option ChtFault :=
  let n := c.allocs.length
  let at_ := fun (i : Nat) => c.allocAt i
  let on := fun (p : AllocEntry → Bool) (i : Nat) => (at_ i).valid && p (at_ i)
  let sh := (List.range n).map (fun i => if (at_ i).valid then c.shares (at_ i) else [])
  (firstBad 0x1057 5 n (fun i => allocFieldsBad i (at_ i))).orElse fun _ =>
  (firstBad 0x1057 5 n (on c.placesBad)).orElse fun _ =>
  (firstBad 0x1057 5 n (on c.sharesBad)).orElse fun _ =>
  (firstBad 0x1057 5 n (on c.purposeBad)).orElse fun _ =>
  (firstBad 0x1057 5 n (fun i => (List.range n).any (fun j => decide (j ≠ i) && sharesMeet (sh.getD i []) (sh.getD j [])))).orElse fun _ =>
  firstBad 0x1057 7 c.tensors.length (fun i =>
    let t := tensorEntry (c.tensors.getD i 0)
    let a := at_ t.alloc
    decide (t.cls = 3) != (decide (t.alloc < 4095) && a.valid && a.purpose = 1))

/-- A tensor of a class, or 0xFFF for none. -/
def Charter.namesTensor (c : Charter) (i cls : Nat) : Bool :=
  i = 0xFFF || (decide (i < c.tensors.length) && (tensorEntry (c.tensors.getD i 0)).cls = cls)

/-- FMT codes that R104 admits for a class. -/
def fmtAdmitted (cls fmt : Nat) : Bool :=
  match cls with
  | 0 => fmt = 0x10 || (decide (0x12 ≤ fmt) && decide (fmt ≤ 0x14)) || fmt = 0x18
  | 1 => (decide (1 ≤ fmt) && decide (fmt ≤ 9)) || (decide (0x20 ≤ fmt) && decide (fmt ≤ 0x25))
  | 2 => decide (0x20 ≤ fmt) && decide (fmt ≤ 0x25)
  | 3 => fmt = 0
  | 4 => fmt = 0x25
  | 5 => fmt = 0x25
  | 6 => fmt = 0
  | 7 => fmt = 0
  | _ => false

/-- Check 0x1058 on a layer (R103). -/
def Charter.layerBad (c : Charter) (e : LayerEntry) : Bool :=
  e.reserved || e.pmax = 0 || decide (8 < e.pmax) || decide (256 < e.outlier) || e.wclass = 3 || e.silent = 0 ||
  (c.groupAt e.group).kind ≠ 1 || (!e.nobwd && (e.pass = 0 || (c.groupAt e.bgroup).kind ≠ 2)) ||
  !c.namesTensor e.itensor 1 || !c.namesTensor e.otensor 1 || !c.namesTensor e.wtensor 0

/-- Check 0x1058 on a tensor (R104). -/
def Charter.tensorBad (c : Charter) (t : TensorEntry) : Bool :=
  let a := c.allocAt t.alloc
  t.reserved || decide (7 < t.cls) || t.alloc ≥ 4095 || !a.valid || !fmtAdmitted t.cls t.fmt ||
  (t.rerun && decide (1 < t.cls)) || ((t.prot = 1 || t.prot = 3) && decide (67108864 < a.size)) ||
  (t.prot ≠ 0 && !(protEntry (c.prot.getD t.pgroup 0)).valid) ||
  (t.layer ≠ 0xFFFF && decide (c.layers.length ≤ t.layer))

/-- Check 0x1058: layers, then tensors. -/
def Charter.layersBad (c : Charter) : Option ChtFault :=
  (firstBad 0x1058 6 c.layers.length (fun i => c.layerBad (layerEntry (c.layers.getD i 0)))).orElse fun _ =>
  firstBad 0x1058 7 c.tensors.length (fun i => c.tensorBad (tensorEntry (c.tensors.getD i 0)))

/-- Check 0x1059 (R97, R98). -/
def Charter.settingsBad (c : Charter) : Option ChtFault :=
  if c.logLen < 14 || 20 < c.logLen || c.fwdLog2 < 3 || 8 < c.fwdLog2 || fld c.settings 16 16 ≠ 0 || c.modes / 2 ^ 8 ≠ 0 ||
      c.settleTimeout = 0 || 4095 < c.settleTimeout || 1 < c.topology || c.spikeK = 0 || 15 < c.spikeK || c.t1 = 0 ||
      1021 < c.t1 || c.t2 ≤ c.t1 || 1022 < c.t2 || c.t3 ≤ c.t2 || 1023 < c.t3 || fld c.settings 144 368 ≠ 0 then
    some (0x1059, 1, 0)
  else none

/-- Distinct FEED identifiers of partners. -/
def Dev.feedsOf (d : Dev) (ps : List Nat) : List Nat := dedup [] (ps.map (fun p => (d.partner p).feed))

/-- Check 0x105A (R105). -/
def Dev.protectionBad (d : Dev) (c : Charter) : Option ChtFault :=
  firstBad 0x105A 8 c.prot.length (fun i =>
    let e := protEntry (c.prot.getD i 0)
    let v := c.allocAt e.vault
    e.reserved || (e.valid && (decide (e.rsK < 2) || decide (14 < e.rsK) || decide (4095 ≤ e.vault) || !v.valid || v.purpose ≠ 2 ||
      (e.order ++ e.replicas).any (fun p => (d.partner p).state ≠ .present) || decide ((d.feedsOf e.order).length < 3))))

/-- Check 0x105B (R106). -/
def Charter.energyBad (c : Charter) : Option ChtFault :=
  firstBad 0x105B 9 c.energy.length (fun i =>
    let x := c.energy.getD i 0
    decide (energyLimit c.frameLen < fld x 0 16) || fld x 17 15 ≠ 0)

/-- The checks on the charter that an image produces, in the order of Table 2.6. -/
def Dev.charterBad (d : Dev) (c : Charter) : Option ChtFault :=
  c.groupsBad.orElse fun _ => (d.routesBad c).orElse fun _ => (d.streamsBad c).orElse fun _ => c.allocsBad.orElse fun _ =>
    c.layersBad.orElse fun _ => c.settingsBad.orElse fun _ => (d.protectionBad c).orElse fun _ => c.energyBad

/-- Sections of the active charter. -/
def Dev.baseSection (d : Dev) (t : Nat) : List Nat := match d.cht.active with
  | some c => c.section t
  | none => []

/-- Validate an image (Table 2.6 without 0x105C and 0x105D): the charter it produces, or the first failing check. -/
def Dev.validate (d : Dev) (b : List Byte) (length : Nat) (sigOk : Bool) : Except ChtFault Charter :=
  let h := chtHeader b
  if headerBad h length (nfld (d.reg .ctlIdent) 16 8) then .error (0x1050, 0, 0)
  else
    let dg := imageDigest b
    if !d.blockOk (b.drop (b.length - sigBytes)) dg 1 sigOk then .error (0x1051, 0, 0)
    else if h.kind = 1 && (match d.cht.active with
        | none => true
        | some a => a.id ≠ h.baseId || a.digest.toNat % 2 ^ 256 ≠ h.baseDigest) then .error (0x1052, 0, 0)
    else
      let es := (List.range h.sections).map (dirEntry b)
      let base := fun (t : Nat) => if h.kind = 1 then d.baseSection t else []
      if directoryBad h b es base then .error (0x1053, 0, 0)
      else
        let c := charterOf h.id dg (imageSections base b es)
        match d.charterBad c with
        | some f => .error f
        | none => .ok c

/-! ### The loader (R109 to R114, R116, R131) -/

/-- F_min of a load (R109). -/
def Dev.loadFrames (d : Dev) (length : Nat) : Nat := 2 + ceilDiv length (8 * d.frameLen)

/-- Effect tick of a load admitted now (R110). -/
def Dev.effectTick (d : Dev) (length effect : Nat) : Nat :=
  if effect = 0 then frameAfter d.frm.frame (d.loadFrames length - 1) else effect

/-- A load command is admitted: the loader holds it. -/
def Dev.loadBegin (d : Dev) (c : CmdRef) (addr length effect : Nat) : Dev :=
  { d with cht := { d.cht with loader := some { cmd := c, addr := addr, length := length, effect := d.effectTick length effect } } }

/-- Results of CHT.STATUS.RESULT. -/
def resApplied : Nat := 1
def resRejected : Nat := 2
def resCancelled : Nat := 3

/-- Journal entry of a load that completes (R116, Table 13.14). -/
def Dev.journalLoad (d : Dev) (id digest result code effect : Nat) : Dev :=
  d.journal 1 4 true id 0 (digest % 2 ^ 256) (result + 2 ^ 16 * code + 2 ^ 64 * effect)

/-- The load in the loader ends without effect. -/
def Dev.loadEnds (d : Dev) (result : Nat) : Dev :=
  ({ d with cht := { d.cht with loader := none } }).setFld .chtStatus 8 8 result

/-- A check has failed: the load completes rejected (R107, R108). WHERE of the fault's record is the failing section's TYPE, DETAIL its
entry (DEDUCED, log entries 17 and 18). -/
def Dev.loadReject (d : Dev) (c : CmdRef) (id digest : Nat) (f : ChtFault) : Dev :=
  let r := d.raiseRec f.1 24 f.2.1 f.2.2
  let d1 := (r.2.loadEnds resRejected).setFld .chtStatus 16 16 f.1
  let d2 := (d1.setReg .chtErrWhere (2 ^ 24 * f.2.1 + f.2.2 % 2 ^ 16)).bumpFld .chtLoads 16 16 1
  (d2.journalLoad id digest resRejected f.1 0).complete c stRejected r.1

/-- A pending load is cancelled (R26): what of the image has been read names it in the journal. -/
def Dev.loadCancel (d : Dev) (r : Option FaultRec) : Dev :=
  match d.cht.loader with
  | none => d
  | some l =>
    let x := match l.staged with
      | some c => (c.id, c.digest.toNat)
      | none => (0, 0)
    (((d.loadEnds resCancelled).journalLoad x.1 x.2 resCancelled 0 0)).complete l.cmd stCancelled r

/-- Host memory fails to deliver the image: the load completes failed with notice 0xB003 (R536), as a cancelled load in
CHT.STATUS and the journal (DESIGN CHOICE, log entry 43: RESULT has no value for it). -/
def Dev.loadFailed (d : Dev) (l : Loader) : Dev :=
  let r := d.raiseRecAs .notice 0xB003 37 l.cmd.ring l.cmd.index
  ((r.2.loadEnds resCancelled).journalLoad 0 0 resCancelled 0 0).complete l.cmd stFailed r.1

/-- CHARTER_IMAGE_READ (R107, R111): the read of the image ends, and every check but 0x105C and 0x105D is made. -/
def State.charterImageRead (s : State) (readOk sigOk : Bool) : State :=
  match s.dev.cht.loader with
  | none => s
  | some l =>
    if l.staged.isSome then s
    else if !readOk then { s with dev := s.dev.loadFailed l }
    else
      let b := s.host.read l.addr l.length
      match s.dev.validate b l.length sigOk with
      | .error f => { s with dev := s.dev.loadReject l.cmd (chtHeader b).id (imageDigest b) f }
      | .ok c => { s with dev := { s.dev with cht := { s.dev.cht with loader := some { l with staged := some c } } } }

/-- A stream message is in flight on the chip (R87): unacknowledged or unsent flits, or a message being delivered or held. -/
def Dev.streamsInFlight (d : Dev) : Bool :=
  d.lnk.links.any (fun (l : Link) => !l.replay.isEmpty || !l.window.isEmpty) ||
  d.lnk.streams.any (fun (x : Nat × StreamState) => x.2.partial_.isSome || !x.2.held.isEmpty)

/-- A vault snapshot, a mirror or a refill is in progress (check 0x105D, R561). -/
def Dev.protectionBusy (d : Dev) : Bool :=
  d.prt.snap.isSome || decide (d.prt.mirrorState = .streaming) || d.prt.refill.isSome || d.prt.serving.isSome

/-- The trace at an effect tick (R593): off keeps the buffer; any other change of policy empties it, and what had not been
drained is counted in the first GAP. -/
def Dev.tracePolicy (d : Dev) (old new : Nat) : Dev :=
  if old = new then d
  else
    let x := d.traceFlush
    if new = 0 then { x with obs := { x.obs with state := .off } }
    else
      let gone := if old = 3 then min x.obs.undrained x.obs.buffer.length else x.obs.buffer.length
      { x with obs := { x.obs with
          buffer := [], undrained := 0, wrapped := false, lost := gone, gap := gone, overwritten := 0, slots := 0, head := 0, drained := 0
          state := if new = 2 then .armed else .recording, before := .off, trigger := none } }

/-- Streams whose entry the new charter changes start again at count 0 (R114). -/
def Dev.resetStreams (d0 : Dev) (old : Option Charter) (new : Charter) : Dev :=
  let entry := fun (c : Option Charter) (i : Nat) => match c with
    | some x => x.streams.getD i 0
    | none => 0
  let d := d0.leaveLanding (fun i => entry old i ≠ entry (some new) i)
  { d with lnk := { d.lnk with streams := d.lnk.streams.filter (fun (x : Nat × StreamState) => entry old x.1 = entry (some new) x.1) } }

/-- The staged charter takes effect (R87, R112 to R114, R593). -/
def Dev.applyCharter (d : Dev) (c : Charter) : Dev :=
  let old := d.cht.active
  let len := d.logLen
  let pol := d.modeTrc
  let d1 : Dev := { d.resetStreams old c with cht := { active := some c, loader := none }, prt := { d.prt with mirrors := [] } }
  let d2 := if c.logLen = len then d1
    else { d1 with
      frm := { d1.frm with aligned := d1.frm.aligned && d1.lnk.links.all (fun (l : Link) => !l.up) }, lnk := { d1.lnk with relen := some (len, d1.frm.frame) } }
  let d3 := ((d2.setPair .chtEffectLo .chtEffectHi d2.frm.frame).setFld .frmStretch 16 16 0).setFld .chtStatus 8 8 resApplied
  (d3.bumpFld .chtLoads 0 16 1).tracePolicy pol d3.modeTrc

/-- Table 11.5 step 2: the load in the loader meets its tick (R26, R111, R112, R130). The loader's image unread by the effect tick
has missed its window: the load fails as an access that the host did not answer (DESIGN CHOICE, log entry 44). -/
def Dev.charterTick (d : Dev) : Dev :=
  match d.cht.loader with
  | none => d
  | some l =>
    if l.spoiled.isSome then d.loadCancel l.spoiled
    else if frameBefore d.frm.frame l.effect then d
    else match l.staged with
      | none => d.loadFailed l
      | some c =>
        if c.logLen ≠ d.logLen && (d.seq.run.isSome || d.streamsInFlight) then d.loadReject l.cmd c.id c.digest.toNat (0x105C, 0, 0)
        else if d.protectionBusy then d.loadReject l.cmd c.id c.digest.toNat (0x105D, 0, 0)
        else
          let d1 := d.applyCharter c
          (d1.journalLoad c.id c.digest.toNat resApplied 0 d1.frm.frame).complete l.cmd stCompleted none

/-- A fault of step-abort or chip-stop severity, recorded as a notice or not, cancels the load that waits (R26, DEDUCED, log entry
45). -/
def Dev.spoilLoad (d : Dev) (r : FaultRec) : Dev :=
  match d.cht.loader with
  | none => d
  | some l =>
    if l.spoiled.isNone && (r.downgraded || decide (2 ≤ r.sev.val)) then
      { d with cht := { d.cht with loader := some { l with spoiled := some r } } }
    else d

/-- CHT.STATUS.STATE (Table 2.10). The read of the image ends and validates in one command, so that 3, validating, is passed within it
(DESIGN CHOICE, log entry 166). -/
def Dev.chtState (d : Dev) : Nat := match d.cht.loader with
  | some l => if l.staged.isSome then 4 else 2
  | none => if d.cht.active.isSome then 1 else 0

end Sys2Proof.Machine
end

