-- ==== Sys2Proof/Machine/Rows.lean ====
section
/-! DEFINITION. The row engines (R293 to R304): descriptors and checks, F32 arithmetic rounded after each operation, the row
functions of Table 6.9, the output mint and the contributions of LN_B and RMS_B. -/

namespace Sys2Proof.Machine

/-! ### Descriptors (Table 6.7) -/

structure RowDesc where
  func : Nat
  sub : Nat
  rows : Nat
  n : Nat
  in0 : Nat
  in1 : Nat
  in2 : Nat
  out0 : Nat
  out1 : Nat
  gamma : Nat
  beta : Nat
  dgamma : Nat
  dbeta : Nat
  eps : Nat
  ifmt0 : Nat
  ifmt1 : Nat
  ifmt2 : Nat
  ofmt0 : Nat
  reserved : Bool
  deriving DecidableEq, Repr

def rowDesc (b : BitVec 256) : RowDesc :=
  { func := fld b 0 6, sub := fld b 8 8, rows := fld b 16 16 + 1, n := fld b 32 14 + 1, in0 := fld b 48 16, in1 := fld b 64 16
    in2 := fld b 80 16, out0 := fld b 96 16, out1 := fld b 112 16, gamma := fld b 128 16, beta := fld b 144 16
    dgamma := fld b 160 12, dbeta := fld b 172 12, eps := fld b 184 32, ifmt0 := fld b 216 8, ifmt1 := fld b 224 8
    ifmt2 := fld b 232 8, ofmt0 := fld b 240 8, reserved := fld b 6 2 ≠ 0 ∨ fld b 46 2 ≠ 0 ∨ fld b 248 8 ≠ 0 }

def State.rowDescAt (s : State) (arg : Nat) : RowDesc := rowDesc (BitVec.ofNat 256 (s.opnd arg 32))

/-- Passes over a row (Table 6.9). -/
def rowPasses (f : Nat) : Nat :=
  if f = 1 ∨ f = 3 ∨ f = 0x0B then 3 else if f = 2 ∨ f = 4 ∨ f = 5 ∨ f = 6 then 2 else 1

/-- SUB is defined for the function (Tables 6.7, 6.9, 6.10). -/
def subOk (f sub : Nat) : Bool :=
  if f = 8 ∨ f = 9 then sub ≤ 4 || (decide (0x10 ≤ sub) && decide (sub ≤ 0x15))
  else if f = 0x0A then sub = 0 || sub = 3 || sub = 5
  else sub = 0

/-- The descriptor fields that Table 6.9 requires of a function are present. -/
def RowDesc.present (d : RowDesc) : Bool :=
  let need := fun (b : Bool) (x : Nat) => !b || decide (x ≠ 0xFFFF)
  let f := d.func
  let binary := f = 8 ∧ d.sub ≤ 3
  need true d.in0 && need true d.out0 &&
  need (f = 2 || f = 4 || f = 6 || f = 9 || f = 0x0B || decide binary) d.in1 &&
  need (f = 4 || f = 6 || (f = 9 && d.sub = 2)) d.in2 &&
  need (f = 3 || f = 5 || f = 0x0B || (f = 9 && d.sub = 2)) d.out1 &&
  need (f = 3 || f = 4 || f = 5 || f = 6 || ((f = 8 || f = 9) && d.sub = 4)) d.gamma &&
  need (f = 3 || (f = 8 && d.sub = 4)) d.beta

/-- Cycles of one row (R304). -/
def RowDesc.rowCost (d : RowDesc) : Nat := rowPasses d.func * ceilDiv d.n 64 + 12

/-- Minimum span (R304). -/
def RowDesc.span (d : RowDesc) : Nat := ceilDiv d.rows 64 * d.rowCost + 16

/-- R296. -/
def State.rowFault (s : State) (arg span : Nat) : Option Nat :=
  let d := s.rowDescAt arg
  let dv := s.dev
  let carries := fun (i f : Nat) => i = 0xFFFF || (match fmtOf f with
    | some x => (s.layoutAt i).carries x
    | none => true)
  let funcs := [1, 2, 3, 4, 5, 6, 8, 9, 0x0A, 0x0B]
  if funcs.contains d.func && subOk d.func d.sub && d.present &&
      (fmtOf d.ifmt0).isSome && ((fmtOf d.ifmt1).isSome || (d.func = 0x0B && d.ifmt1 = 0)) && (fmtOf d.ifmt2).isSome &&
      (fmtOf d.ofmt0).isSome &&
      (d.dgamma = 0xFFF || (dv.tensor d.dgamma).cls = 3) && (d.dbeta = 0xFFF || (dv.tensor d.dbeta).cls = 3) &&
      decide (d.span ≤ span) && carries d.in0 d.ifmt0 && carries d.in1 d.ifmt1 && carries d.in2 d.ifmt2 && carries d.out0 d.ofmt0 &&
      !d.reserved then none
  else some 0x3020

/-- The parameter tensors that a row descriptor names (R302, R303). -/
def RowDesc.params (d : RowDesc) : List Nat := [d.dgamma, d.dbeta].filter (fun t => t ≠ 0xFFF)

/-- Charges of a ROW_RUN: each named tensor is charged, whatever the function (R303). -/
def State.rowCharges (s : State) (arg : Nat) : List (Nat × Nat × Nat) :=
  let d := s.rowDescAt arg
  let dv := s.dev
  d.params.flatMap (fun t => (dv.perStack t dv.half (List.range d.n)).map (fun (p : Nat × Nat) =>
    stackCharge p.1 (ceilDiv (d.rows * p.2) 16)))

/-! ### Arithmetic (R298, R299) -/

/-- What is counted while a row is computed: saturated results (R298), and whether finite operands gave a non-finite result
(0x3022, R305). -/
structure RowTally where
  sat : Nat := 0
  bad : Bool := false
  deriving DecidableEq, Repr

/-- A computation of the row engines. -/
abbrev RowM := StateM RowTally

/-- Round to F32 a result of finite operands; one beyond the largest finite value saturates and is counted. An infinity that a
division by zero gives, or a NaN, is not an overflow and stays. -/
def rnd (v : Val) : RowM Val := fun n =>
  if v.nonfin then (v, { n with bad := true })
  else
    let e := encodeFloat layF32 v
    (f32Val e.code, { n with sat := n.sat + b2n e.sat })

def fadd (a b : Val) : RowM Val := if a.nonfin || b.nonfin then pure .nan else rnd (a.add b)
def fsub (a b : Val) : RowM Val := if a.nonfin || b.nonfin then pure .nan else rnd (a.add b.neg)
def fmul (a b : Val) : RowM Val := if a.nonfin || b.nonfin then pure .nan else rnd (a.mul b)
def fdiv (a b : Val) : RowM Val := if a.nonfin || b.nonfin then pure .nan else rnd (a.div b)
def fmax (a b : Val) : RowM Val := pure (if a.nonfin || b.nonfin then .nan else if Val.le a b then b else a)
/-- a × b + c with one rounding. -/
def ffma (a b c : Val) : RowM Val := if a.nonfin || b.nonfin || c.nonfin then pure .nan else rnd ((a.mul b).add c)

/-- A function of the function unit on an F32 value, as the unit gives it (Table 6.8). -/
def funitRaw (f : BitVec 32 → BitVec 32) (v : Val) : Val := f32Val (f (BitVec.ofNat 32 (toF32 v))).toNat

/-- A function that is finite on every finite operand: an infinity of the unit is an overflow, which saturates to the largest
finite F32 of its sign and is counted (R298). -/
def funit (f : BitVec 32 → BitVec 32) (v : Val) : RowM Val := fun n =>
  if v.nonfin then (.nan, n)
  else match funitRaw f v with
    | .inf neg => (.fin (if neg then -(layF32.maxM : Int) else layF32.maxM) layF32.maxE, { n with sat := n.sat + 1 })
    | .nan => (.nan, { n with bad := true })
    | y => (y, n)

/-- A function with a pole, log and rsqrt: what is infinite there is no overflow. -/
def fpole (f : BitVec 32 → BitVec 32) (v : Val) : RowM Val := if v.nonfin then pure .nan else rnd (funitRaw f v)

/-- Combine the values that a lane meets. -/
def laneFold (f : Val → Val → RowM Val) : List Val → RowM (Option Val)
  | [] => pure none
  | a :: r => do
    let x ← r.foldlM f a
    pure (some x)

/-- One level of the tree: lane 2i with lane 2i + 1. -/
def treeLevel (f : Val → Val → RowM Val) : List (Option Val) → RowM (List (Option Val))
  | a :: b :: r => do
    let x ← match a, b with
      | some u, some v => do
        let w ← f u v
        pure (some w)
      | some u, none => pure (some u)
      | none, y => pure y
    let t ← treeLevel f r
    pure (x :: t)
  | l => pure l

/-- A sum or maximum over a row in the fixed order of R299; 0 for no element. -/
def reduce (f : Val → Val → RowM Val) (xs : List Val) : RowM Val := do
  let lanes ← (List.range 64).mapM (fun j =>
    laneFold f (((List.zip (List.range xs.length) xs).filter (fun (p : Nat × Val) => p.1 % 64 = j)).map Prod.snd))
  let t ← (List.range 6).foldlM (fun (l : List (Option Val)) _ => treeLevel f l) lanes
  pure ((t.headD none).getD .zero)

/-- The sum divided by N. -/
def mean (xs : List Val) : RowM Val := do
  let s ← reduce fadd xs
  fdiv s (.fin xs.length 0)

/-! ### The functions (Table 6.9) -/

/-- What a row gives: outputs, contributions to GAMMA and BETA, and whether R301 made it a NaN row. -/
structure RowOut where
  out0 : List Val
  out1 : List Val := []
  dgamma : List Val := []
  dbeta : List Val := []
  bad : Bool := false

/-- Inputs of a row: elements of IN0, IN1 and IN2, the target index, γ and β. -/
structure RowIn where
  x : List Val
  y : List Val := []
  z : List Val := []
  target : Nat := 0
  gamma : List Val := []
  beta : List Val := []
  eps : Val := .zero

/-- An element −∞, the mask of R301. -/
def masked (v : Val) : Bool := decide (v = .inf true)

/-- m, e_i and s of the softmax forms, masks left out. -/
def softmax (xs : List Val) : RowM (Val × List Val × Val) := do
  let live := xs.filter (fun v => !masked v)
  let m ← reduce fmax live
  let es ← xs.mapM (fun v => if masked v then pure .zero else do
    let d ← fsub v m
    funit Config.fnExp d)
  let s ← reduce fadd es
  pure (m, es, s)

def rowSmaxF (i : RowIn) : RowM RowOut := do
  if i.x.all masked then pure { out0 := i.x.map (fun _ => .zero) }
  else
    let t ← softmax i.x
    let ys ← t.2.1.mapM (fun e => fdiv e t.2.2)
    pure { out0 := ys }

def rowSmaxB (i : RowIn) : RowM RowOut := do
  let ps ← (List.zip i.y i.x).mapM (fun p => fmul p.1 p.2)
  let t ← reduce fadd ps
  let ds ← (List.zip i.x i.y).mapM (fun p => do
    let d ← fsub p.2 t
    fmul p.1 d)
  pure { out0 := ds }

def rowLnF (i : RowIn) : RowM RowOut := do
  let mu ← mean i.x
  let ds ← i.x.mapM (fun x => fsub x mu)
  let sq ← ds.mapM (fun d => fmul d d)
  let v ← mean sq
  let ve ← fadd v i.eps
  let r ← fpole Config.fnRsqrt ve
  let ys ← (List.zip ds (List.zip i.gamma i.beta)).mapM (fun p => do
    let h ← fmul p.1 r
    ffma h p.2.1 p.2.2)
  pure { out0 := ys, out1 := [mu, r] }

/-- x̂ of a row from its record μ, r. -/
def xhat (xs : List Val) (mu r : Val) (centred : Bool) : RowM (List Val) :=
  xs.mapM (fun x => do
    let d ← if centred then fsub x mu else pure x
    fmul d r)

def rowLnB (i : RowIn) : RowM RowOut := do
  let mu := i.z.getD 0 .zero
  let r := i.z.getD 1 .zero
  let hs ← xhat i.x mu r true
  let gs ← (List.zip i.y i.gamma).mapM (fun p => fmul p.1 p.2)
  let a ← mean gs
  let gh ← (List.zip gs hs).mapM (fun p => fmul p.1 p.2)
  let b ← mean gh
  let dx ← (List.zip gs hs).mapM (fun p => do
    let u ← fsub p.1 a
    let w ← fmul p.2 b
    let t ← fsub u w
    fmul r t)
  let dg ← (List.zip i.y hs).mapM (fun p => fmul p.1 p.2)
  pure { out0 := dx, dgamma := dg, dbeta := i.y }

def rowRmsF (i : RowIn) : RowM RowOut := do
  let sq ← i.x.mapM (fun x => fmul x x)
  let v ← mean sq
  let ve ← fadd v i.eps
  let r ← fpole Config.fnRsqrt ve
  let hs ← xhat i.x .zero r false
  let ys ← (List.zip hs i.gamma).mapM (fun p => fmul p.1 p.2)
  pure { out0 := ys, out1 := [.zero, r] }

def rowRmsB (i : RowIn) : RowM RowOut := do
  let r := i.z.getD 1 .zero
  let hs ← xhat i.x .zero r false
  let gs ← (List.zip i.y i.gamma).mapM (fun p => fmul p.1 p.2)
  let gh ← (List.zip gs hs).mapM (fun p => fmul p.1 p.2)
  let b ← mean gh
  let dx ← (List.zip gs hs).mapM (fun p => do
    let w ← fmul p.2 b
    let t ← fsub p.1 w
    fmul r t)
  let dg ← (List.zip i.y hs).mapM (fun p => fmul p.1 p.2)
  pure { out0 := dx, dgamma := dg, dbeta := i.y }

/-- A function of Table 6.10 on an element. -/
def ewF (sub : Nat) (x y g b : Val) : RowM Val :=
  match sub with
  | 0x00 => fadd x y
  | 0x01 => fsub x y
  | 0x02 => fmul x y
  | 0x03 => fmax x y
  | 0x04 => ffma x g b
  | 0x10 => pure (if x.nonfin then .nan else if Val.le x .zero then .zero else x)
  | 0x11 => funit Config.fnGelu x
  | 0x12 => funit Config.fnSilu x
  | 0x13 => funit Config.fnTanh x
  | 0x14 => funit Config.fnExp x
  | _ => pure (if x.nonfin then .nan else x)

/-- f′ of a function of Table 6.10. -/
def ewD (sub : Nat) (x g : Val) : RowM Val :=
  match sub with
  | 0x03 => funit Config.fnMaxD x
  | 0x04 => pure g
  | 0x10 => pure (if x.nonfin then .nan else if Val.le x .zero then .zero else .fin 1 0)
  | 0x11 => funit Config.fnGeluD x
  | 0x12 => funit Config.fnSiluD x
  | 0x13 => funit Config.fnTanhD x
  | 0x14 => funit Config.fnExp x
  | _ => pure (if x.nonfin then .nan else .fin 1 0)

def rowEwF (sub : Nat) (i : RowIn) : RowM RowOut := do
  let ys ← (List.zip (List.range i.x.length) i.x).mapM (fun p =>
    ewF sub p.2 (i.y.getD p.1 .zero) (i.gamma.getD p.1 .zero) (i.beta.getD p.1 .zero))
  pure { out0 := ys }

def rowEwB (sub : Nat) (i : RowIn) : RowM RowOut := do
  if sub = 2 then
    let a ← (List.zip i.y i.z).mapM (fun p => fmul p.1 p.2)
    let b ← (List.zip i.y i.x).mapM (fun p => fmul p.1 p.2)
    pure { out0 := a, out1 := b }
  else
    let ds ← (List.zip (List.range i.x.length) (List.zip i.x i.y)).mapM (fun p =>
      do
        let f ← ewD sub p.2.1 (i.gamma.getD p.1 .zero)
        fmul f p.2.2)
    pure { out0 := ds }

def rowRed (sub : Nat) (i : RowIn) : RowM RowOut := do
  if sub = 3 then
    let m ← reduce fmax i.x
    pure { out0 := [m] }
  else if sub = 5 then
    let sq ← i.x.mapM (fun x => fmul x x)
    let s ← reduce fadd sq
    pure { out0 := [s] }
  else
    let s ← reduce fadd i.x
    pure { out0 := [s] }

def rowXent (i : RowIn) : RowM RowOut := do
  if i.x.all masked then pure { out0 := i.x.map (fun _ => .zero), out1 := [.zero] }
  else if i.x.length ≤ i.target ∨ masked (i.x.getD i.target .zero) then
    pure { out0 := i.x.map (fun _ => .nan), out1 := [.nan], bad := true }
  else
    let t ← softmax i.x
    let dx ← (List.zip (List.range i.x.length) t.2.1).mapM (fun p => do
      let q ← fdiv p.2 t.2.2
      if p.1 = i.target then fsub q (.fin 1 0) else pure q)
    let lg ← fpole Config.fnLog t.2.2
    let l ← fadd lg t.1
    let loss ← fsub l (i.x.getD i.target .zero)
    pure { out0 := dx, out1 := [loss] }

/-- A row function. -/
def rowFunc (func sub : Nat) (i : RowIn) : RowM RowOut :=
  match func with
  | 1 => rowSmaxF i
  | 2 => rowSmaxB i
  | 3 => rowLnF i
  | 4 => rowLnB i
  | 5 => rowRmsF i
  | 6 => rowRmsB i
  | 8 => rowEwF sub i
  | 9 => rowEwB sub i
  | 0x0A => rowRed sub i
  | _ => rowXent i

/-! ### Reading, computing, writing -/

/-- A row engine of die `d` as a unit. -/
def rowWho (d : Nat) : Who := { inst := 0, cls := 1, unit := 16 + d }

/-- Elements read so far; `none` after a refused access. -/
structure RowRead where
  s : State
  vals : List Nat := []
  halted : Bool := false

/-- Codes of `n` elements of a layout from linear index `o`. -/
def State.rowCodes (s : State) (w : Who) (l : Layout) (o n : Nat) : RowRead :=
  let r := (List.range n).foldl (fun (r : RowRead) i =>
    if r.halted then r
    else
      let x := r.s.elem w l (l.elem (l.tuple (o + i)))
      match x.1 with
      | none => { r with s := x.2, halted := true }
      | some c => { r with s := x.2, vals := c.1 :: r.vals }) { s := s }
  { r with vals := r.vals.reverse }

/-- Values read so far, and how many of them saturated on their decode to F32. -/
structure RowVals where
  s : State
  vals : List Val := []
  sat : Nat := 0
  halted : Bool := false

/-- `n` elements as F32 values. One whose exact value lies beyond F32 saturates and is counted among the results that saturate
(R171, R297; DESIGN CHOICE, log entry 154). -/
def State.rowVals (s : State) (w : Who) (idx fmt o n : Nat) : RowVals :=
  let l := s.layoutAt idx
  let f := (fmtOf fmt).getD .f32
  let r := (List.range n).foldl (fun (r : RowVals) i =>
    if r.halted then r
    else
      let t := l.tuple (o + i)
      let c := if f.scaled then r.s.companion w l (l.blockOf t) else (some {}, r.s)
      match c.1 with
      | none => { r with s := c.2, halted := true }
      | some ez =>
        let x := c.2.elem w l (l.elem t)
        match x.1 with
        | none => { r with s := x.2, halted := true }
        | some e =>
          let v := decodeElem f e.1 ez.E ez.z
          let y := encodeFloat layF32 v
          { r with s := x.2, sat := r.sat + b2n y.sat, vals := (if v.nonfin then v else f32Val y.code) :: r.vals }) { s := s }
  { r with vals := r.vals.reverse }

/-- A row record: one 64-bit element a row, or two F32 elements (DEDUCED, log entry 34). -/
def State.rowRecord (s : State) (w : Who) (idx i : Nat) : RowVals :=
  let l := s.layoutAt idx
  if l.econt = 6 then
    let r := s.rowCodes w l i 1
    let c := r.vals.headD 0
    { s := r.s, vals := [f32Val (c % 2 ^ 32), f32Val (c / 2 ^ 32)], halted := r.halted }
  else
    let r := s.rowCodes w l (2 * i) 2
    { s := r.s, vals := r.vals.map f32Val, halted := r.halted }

/-- An input that may be absent. -/
def State.rowInput (s : State) (w : Who) (idx fmt o n : Nat) : RowVals :=
  if idx = 0xFFFF then { s := s } else s.rowVals w idx fmt o n

/-- Inputs of row `i`, and the saturations of their decoding. -/
def State.rowInputs (s : State) (w : Who) (d : RowDesc) (i : Nat) : RowIn × RowVals :=
  let a := s.rowVals w d.in0 d.ifmt0 (i * d.n) d.n
  let b := if a.halted then { a with vals := [], sat := 0 }
    else if d.func = 0x0B then
      let r := a.s.rowCodes w (a.s.layoutAt d.in1) i 1
      { s := r.s, vals := [.fin (r.vals.headD 0) 0], halted := r.halted }
    else a.s.rowInput w d.in1 d.ifmt1 (i * d.n) d.n
  let c := if b.halted then { b with vals := [], sat := 0 }
    else if d.func = 4 ∨ d.func = 6 then b.s.rowRecord w d.in2 i
    else b.s.rowInput w d.in2 d.ifmt2 (i * d.n) d.n
  let g := if c.halted then { c with vals := [], sat := 0 } else c.s.rowInput w d.gamma 0x25 0 d.n
  let h := if g.halted then { g with vals := [], sat := 0 } else g.s.rowInput w d.beta 0x25 0 d.n
  ({ x := a.vals, y := b.vals, z := c.vals, gamma := g.vals, beta := h.vals, eps := f32Val d.eps
     target := match b.vals with
       | [.fin m 0] => m.toNat
       | _ => 0 }, { h with sat := a.sat + b.sat + c.sat + g.sat + h.sat })

/-- Non-finite inputs of a row, masks left out, ε among those of the normalisations that add it (R298, R300, R301). -/
def RowIn.nonfin (i : RowIn) (func : Nat) : Nat :=
  let mask := func = 1 ∨ func = 0x0B
  ((i.x.filter (fun v => v.nonfin && !(decide mask && masked v))) ++ (i.y ++ i.z ++ i.gamma ++ i.beta).filter Val.nonfin).length +
    b2n (decide (func = 3 ∨ func = 5) && i.eps.nonfin)

/-- A row operation under way. -/
structure RowRun where
  c : CopyRun
  /-- Rows processed. -/
  rows : Nat := 0
  sat : Nat := 0
  nonfin : Nat := 0
  /-- Finite operands gave a non-finite result. -/
  bad : Bool := false
  contrib : Nat := 0
  /-- Histogram of output 0. -/
  hist : Hist := {}
  /-- Statistics of the output by record: b_hi, b_lo and tally. -/
  stats : List (Nat × (Nat × Nat × Tally)) := []

/-- Write one value of output 0 at a linear index, under a block's scale. -/
def RowRun.putOut (r : RowRun) (w : Who) (l : Layout) (f : Fmt) (i E z : Nat) (v : Val) : RowRun :=
  let t := l.tuple i
  let e := encodeElem f v E z
  let j := t.getD l.rdim 0 / 32
  let st := tgetD r.stats j (0, 0, {})
  { r with
    c := r.c.put w l (l.elem t) e.code false
    hist := r.hist.add (decodeElem f e.code E z)
    stats := tput r.stats j (max st.1 (statHi f v), max st.2.1 (statLo v), st.2.2.add e) }

/-- The tensor whose allocation an output names: a row descriptor names no output tensor (DESIGN CHOICE, log entry 155). -/
def Dev.rowTensor (d : Dev) (l : Layout) : Nat := match (List.range d.tensorCount).find? (fun t => (d.tensor t).alloc = l.alloc) with
  | some t => t
  | none => 0xFFF

/-- In a warm-up step an output takes block-exact scales where its tensor is tracked, or where no tensor is known (R258, R297;
log entry 155). -/
def Dev.rowExact (d : Dev) (t : Nat) : Bool := d.mnt.warmup && (t = 0xFFF || (d.tensor t).tracked)

/-- Scale of a block of output 0: its companion, at most 254 (R137), or block-exact in a warm-up step (R297). -/
def RowRun.outScale (r : RowRun) (w : Who) (l : Layout) (f : Fmt) (k : Nat) (vs : List Val) : (Nat × Nat) × RowRun :=
  let t := r.c.s.dev.rowTensor l
  if !f.scaled then ((127, 0), r)
  else if r.c.s.dev.rowExact t then
    let ez := exactScale f (r.c.s.dev.headroom t) vs
    let x := r.c.s.setCompanion w l k ez.1 ez.2
    (ez, { r with c := { r.c with s := x.2, halted := r.c.halted || !x.1 } })
  else
    let x := r.c.s.companion w l k
    let e := x.1.getD {}
    ((min 254 e.E, e.z), { r with c := { r.c with s := x.2, halted := r.c.halted || x.1.isNone } })

/-- Write the values of output 0 from linear index `o`, block by block. -/
def RowRun.writeOut (r : RowRun) (w : Who) (l : Layout) (f : Fmt) (o : Nat) (vs : List Val) : RowRun :=
  let items := List.zip ((List.range vs.length).map (· + o)) vs
  let blocks := dedup [] (items.map (fun p => l.blockOf (l.tuple p.1)))
  blocks.foldl (fun (r : RowRun) k =>
    if r.c.halted then r
    else
      let part := items.filter (fun p => l.blockOf (l.tuple p.1) = k)
      let x := r.outScale w l f k (part.map Prod.snd)
      let z := if f.isU then x.1.2 else 0
      part.foldl (fun (r : RowRun) p => if r.c.halted then r else r.putOut w l f p.1 x.1.1 z p.2) x.2) r

/-- Write output 1: a row record, or F32 values. -/
def RowRun.writeOut1 (r : RowRun) (w : Who) (d : RowDesc) (i : Nat) (vs : List Val) : RowRun :=
  if d.out1 = 0xFFFF ∨ vs.isEmpty then r
  else
    let l := r.c.s.layoutAt d.out1
    let put := fun (r : RowRun) (j code : Nat) => if r.c.halted then r else { r with c := r.c.put w l (l.elem (l.tuple j)) code false }
    if l.econt = 6 then put r i (toF32 (vs.getD 0 .zero) + 2 ^ 32 * toF32 (vs.getD 1 .zero))
    else (List.zip (List.range vs.length) vs).foldl (fun (r : RowRun) p => put r (i * vs.length + p.1) (toF32 p.2)) r

/-- Contributions of a row to a parameter tensor (R302). -/
def RowRun.contribute (r : RowRun) (t : Nat) (vs : List Val) : RowRun :=
  if t = 0xFFF then r
  else
    let A := r.c.s.dev.anchor t
    let s := (List.zip (List.range vs.length) vs).foldl (fun (u : State) p => u.contribute t p.1 (f32Contribution p.2 A)) r.c.s
    { r with c := { r.c with s := s }, contrib := r.contrib + vs.length }

/-- One row. -/
def RowRun.row (r : RowRun) (w : Who) (d : RowDesc) (i : Nat) : RowRun :=
  if r.c.halted then r
  else
    let x := r.c.s.rowInputs w d i
    if x.2.halted then { r with c := { r.c with s := x.2.s, halted := true } }
    else
      let y := rowFunc d.func d.sub x.1 {}
      let l := x.2.s.layoutAt d.out0
      let r1 : RowRun := { r with
        c := { r.c with s := x.2.s }, sat := r.sat + x.2.sat + y.2.sat, nonfin := r.nonfin + x.1.nonfin d.func + b2n y.1.bad
        bad := r.bad || y.2.bad }
      let r2 := r1.writeOut w l ((fmtOf d.ofmt0).getD .f32) (i * y.1.out0.length) y.1.out0
      let r3 := r2.writeOut1 w d i y.1.out1
      if r3.c.halted then r3
      else
        let r4 := (r3.contribute d.dgamma y.1.dgamma).contribute d.dbeta y.1.dbeta
        { r4 with rows := r4.rows + 1 }

/-- Conversions of output 0 that no record carries to a mint unit count in the tensor that the output names at once (R169, R170). -/
def RowRun.tally (r : RowRun) (l : Layout) (n : Tally) : RowRun :=
  { r with c := { r.c with s := { r.c.s with dev := r.c.s.dev.tallyTensor (r.c.s.dev.rowTensor l) { n with nonfin := 0 } 0 0 } } }

/-- Write the statistics records of output 0 after its companions, where CALLOC has room for them (log entry 27). -/
def RowRun.records (r : RowRun) (w : Who) (l : Layout) : RowRun :=
  r.stats.foldl (fun (r : RowRun) (p : Nat × (Nat × Nat × Tally)) =>
    let o := l.recordOff p.1
    if l.comp = 0 || r.c.halted || decide ((r.c.s.dev.alloc l.calloc).size < o + 16) then r.tally l p.2.2.2
    else
      let x := r.c.s.storeAlloc w l.calloc o
        (statRecord p.2.1 p.2.2.1 p.2.2.2 0 (decide (0 < p.2.2.2.sat)) false)
      { r with c := { r.c with s := x.2, halted := !x.1 } }) r

/-- Count a ROW_RUN on its die and raise its notices (R305, R307). -/
def Dev.countRow (d : Dev) (die : Nat) (x : RowDesc) (r : RowRun) : Dev :=
  let c := tgetD d.row.counts die {}
  let bad := r.bad || decide (0 < r.nonfin)
  let c1 : RowCount := { c with
    cycles := satAdd 32 c.cycles (r.rows * x.rowCost), rows := satAdd 32 c.rows r.rows, sat := satAdd 32 c.sat r.sat
    nonfin := satAdd 32 c.nonfin r.nonfin, contrib := satAdd 64 c.contrib r.contrib
    raised3021 := c.raised3021 || decide (0 < r.sat), raised3022 := c.raised3022 || bad }
  let d1 := { d with row := { d.row with counts := tput d.row.counts die c1, func := tput d.row.func die x.func } }
  let d2 := if decide (0 < r.sat) && !c.raised3021 then d1.raise 0x3021 (16 + die) 0 0 else d1
  if bad && !c.raised3022 then d2.raise 0x3022 (16 + die) 0 0 else d2

/-- A ROW_RUN that issues at cycle `t` is in its span (R307). -/
def Dev.rowSpan (d : Dev) (die t span : Nat) : Dev := { d with row := { d.row with spans := tput d.row.spans die (t, t + span) } }

/-- ROW_RUN on stash die `die`. -/
def State.rowRun (s : State) (die arg : Nat) : State :=
  let d := s.rowDescAt arg
  let w := rowWho die
  let r0 : RowRun := { c := { s := s } }
  let r1 := (List.range d.rows).foldl (fun (r : RowRun) i => r.row w d i) r0
  let r := r1.records w (s.layoutAt d.out0)
  let d1 := r.c.s.dev.addHist (s.dev.rowTensor (s.layoutAt d.out0)) r.hist
  { r.c.s with dev := d1.countRow die d r }

end Sys2Proof.Machine
end

