-- ==== Sys2Proof/Machine/Scan.lean ====
section
/-! DEFINITION. The scan of a program that the admission of a run command makes (R31, R32, R56, R386, R391, R392, R438): its
frames per step, whether it sends, and the creation of the descriptors its slots name. -/

namespace Sys2Proof.Machine

/-- A descriptor that a slot names: a layout, a pair with its engine, its stack and the slot's operation, the destination of a
MINT_SCALES, or a stream operation of an exchange die. -/
inductive Named where
  | layout (i : Nat)
  | pair (g : CopyEngine) (k op i : Nat)
  | scales (i : Nat)
  | stream (die op i : Nat)
  deriving DecidableEq, Repr

/-- What the scan has found so far. -/
structure Scan where
  /-- TICK_WAIT bundles issued so far, each loop taken its bound count of times. -/
  ticks : Nat := 0
  /-- Open loops, innermost first: counter and `ticks` at its LOOP_OPEN. -/
  nest : List (Nat × Nat) := []
  sends : Bool := false
  /-- Descriptors of the copy slots and of every other slot but the mint's, in program order, and of the mint slots. -/
  plain : List Named := []
  mint : List Named := []
  /-- STEP_END has been met. -/
  ended : Bool := false
  deriving DecidableEq, Repr

/-- Loops of a nest that stay open when the loop on counter `c` closes with those inside it. -/
def closeLoop (nest : List (Nat × Nat)) (c : Nat) : List (Nat × Nat) := (nest.dropWhile (fun x => x.1 ≠ c)).drop 1

/-- The nest after a LOOP_OPEN on counter `c` (R55). -/
def openLoop (nest : List (Nat × Nat)) (c v : Nat) : List (Nat × Nat) :=
  (c, v) :: (if nest.any (fun x => x.1 = c) then closeLoop nest c else nest)

/-- The control flow of one bundle in the count of R31; a loop whose count is 0 counts as one pass. -/
def Scan.flow (a : Scan) (b : Bundle) (loops : List Nat) : Scan :=
  match b.kind with
  | 1 => { a with nest := openLoop a.nest b.loop a.ticks }
  | 2 => (match a.nest.find? (fun x => x.1 = b.loop) with
      | none => a
      | some x => { a with
          ticks := x.2 + max 1 (loops.getD b.loop 0) * (a.ticks - x.2), nest := closeLoop a.nest b.loop })
  | 3 => { a with ticks := a.ticks + 1 }
  | 4 => { a with ended := true }
  | _ => a

/-- Layout descriptors that a ROW_RUN names. -/
def RowDesc.layouts (d : RowDesc) : List Nat :=
  [d.in0, d.in1, d.in2, d.out0, d.out1, d.gamma, d.beta].filter (fun i => i ≠ 0xFFFF)

/-- The bytes of a descriptor of an operand table at bundle index `t`. -/
def State.descAt (s : State) (t i n : Nat) : Nat := s.operandAt t i n

/-- A copy descriptor's names: its layouts and itself. -/
def State.pairNames (s : State) (t : Nat) (g : CopyEngine) (k op i : Nat) : List Named :=
  let x := s.descAt t i 16
  [.layout (nfld x 0 16), .layout (nfld x 16 16), .pair g k op i]

/-- Names of a slot: those that are created with the mint's, and the others (R386). -/
def State.slotNames (s : State) (t : Nat) (x : Slot) : List Named × List Named :=
  if 0x40 ≤ x.target ∧ x.target ≤ 0x4B ∧ 2 ≤ x.op then
    (if x.op = 4 then ([.layout (nfld (s.descAt t x.arg 16) 16 16), .scales x.arg], [])
    else (s.pairNames t .mint (x.target - 0x40) x.op x.arg, []))
  else if 0x4C ≤ x.target ∧ x.target ≤ 0x57 ∧ x.op = 2 then ([], s.pairNames t .lay (x.target - 0x4C) x.op x.arg)
  else if 0x58 ≤ x.target ∧ x.target ≤ 0x63 ∧ x.op = 2 then ([], s.pairNames t .dma (x.target - 0x58) x.op x.arg)
  else if 0x64 ≤ x.target ∧ x.target ≤ 0x67 ∧ 2 ≤ x.op then
    ([], (if x.op = 2 then [.layout (nfld (s.descAt t x.arg 16) 16 16)] else []) ++ [.stream (x.target - 0x64) x.op x.arg])
  else if 0x68 ≤ x.target ∧ x.target ≤ 0x6B ∧ x.op = 2 then
    ([], (rowDesc (BitVec.ofNat 256 (s.descAt t x.arg 32))).layouts.map Named.layout)
  else if x.target = 0x6C ∧ x.op = 2 then ([], [.layout (nfld (s.descAt t x.arg 8) 0 16)])
  else if x.target = 0x6D ∧ x.op = 2 then
    (let r := roundDesc (BitVec.ofNat 256 (s.descAt t x.arg 32))
    if r.last then
      let n := nfld (s.descAt t r.slist 8) 0 8
      ([], (List.range n).flatMap (fun j =>
        let g := groupDesc (s.descAt t (s.num (storeAddr (64 * t + 16 * r.slist + 8 + 2 * j)) 2) 64)
        if g.bcopy = 0xFFFF then [] else s.pairNames t .lay 0 2 g.bcopy))
    else ([], []))
  else ([], [])

/-- The slot sends on a stream (R32). -/
def State.slotSends (s : State) (t : Nat) (x : Slot) : Bool :=
  (decide (0x64 ≤ x.target ∧ x.target ≤ 0x67) && x.op = 2) ||
  (decide (x.target = 0x6D) && (x.op = 4 || (x.op = 2 && decide ((roundDesc (BitVec.ofNat 256 (s.descAt t x.arg 32))).send ≠ 0xFFF))))

/-- One bundle of the scan. -/
def State.scanBundle (s : State) (a : Scan) (b : Bundle) (t : Nat) (loops : List Nat) : Scan :=
  let names := b.slots.map (s.slotNames t)
  let a1 := a.flow b loops
  { a1 with
    sends := a1.sends || b.slots.any (s.slotSends t)
    plain := a1.plain ++ names.flatMap Prod.snd
    mint := a1.mint ++ names.flatMap Prod.fst }

/-- Scan from store index `i`, at most `n` bundles, to the STEP_END. -/
def State.scanFrom (s : State) (t : Nat) (loops : List Nat) : Nat → Nat → Scan → Scan
  | 0, _, a => a
  | n + 1, i, a => if a.ended then a else s.scanFrom t loops n (i + 1) (s.scanBundle a (s.bundle i) t loops)

/-- Bundles that the store holds (R47). -/
def storeBundles : Nat := 1048576

/-- The scan of a program. -/
def State.scan (s : State) (base t : Nat) (loops : List Nat) : Scan :=
  s.scanFrom t loops (storeBundles - base) base {}

/-- S (R31). -/
def Scan.frames (a : Scan) : Nat := a.ticks + 1

/-- Layout descriptors among names, each once, in order. -/
def layoutsOf (ns : List Named) : List Nat :=
  dedup [] (ns.filterMap (fun n => match n with
    | .layout i => some i
    | _ => none))

/-- The layout at an index of an operand table. -/
def State.layoutOf (s : State) (t i : Nat) : Layout := layoutDesc (BitVec.ofNat 1024 (s.descAt t i 128))

/-- The fault of the creation of one named descriptor, apart from the registry. -/
def State.createNamed (s : State) (t : Nat) (n : Named) : Option (Nat × Nat) :=
  match n with
  | .layout i => (s.dev.createLayout (s.layoutOf t i) false).map (fun c => (c, i))
  | .scales i =>
    let dst := s.layoutOf t (nfld (s.descAt t i 16) 16 16)
    if dst.write && (s.dev.alloc dst.alloc).mayWrite 0 then none else some (0x6006, i)
  | .pair g k op i =>
    let x : BitVec 128 := BitVec.ofNat 128 (s.descAt t i 16)
    let c := copyDesc x
    let src := s.layoutOf t c.src
    let dst := s.layoutOf t c.dst
    (match g with
      | .mint =>
        let m := mintDesc x
        let fits := fun (l : Layout) (f : Nat) => match fmtOf f with
          | some y => decide (l.econt = y.econt)
          | none => true
        if s.dev.pairOk .mint src dst 0 && s.dev.mintPlaces k op src dst && fits src m.sfmt && fits dst m.dfmt then none
        else some (0x6006, i)
      | _ => if c.reserved then some (0x6001, i) else if s.dev.pairOk g src dst c.fmt then none else some (0x6006, i))
  | .stream die op i =>
    if s.dev.streamDescOk die op (s.descAt t i 16) (s.layoutOf t) then none else some (0x7010, i)

/-- Write descriptors of a program with their operand-table indices. -/
def State.writeDescs (s : State) (t : Nat) (ns : List Named) : List (Nat × Layout) :=
  ((layoutsOf ns).map (fun i => (i, s.layoutOf t i))).filter (fun x => x.2.write)

/-- Check 10 of Table 1.24 on a run: the first creation fault and the index of its descriptor. Each descriptor is created in
program order, those of the mint slots last, and the registry is judged once all boxes are in it (DEDUCED, log entry 38). -/
def State.createRun (s : State) (t : Nat) (a : Scan) : Option (Nat × Nat) :=
  match (a.plain ++ a.mint).findSome? (s.createNamed t) with
  | some f => some f
  | none => (registryCheck (s.writeDescs t (a.plain ++ a.mint))).map (fun x => (x.2, x.1))

/-- The boxes that a run registers (R391). -/
def State.runBoxes (s : State) (t : Nat) (a : Scan) : List (Nat × Nat × Box) :=
  (s.writeDescs t (a.plain ++ a.mint)).map (fun x => (x.1, x.2.alloc, x.2.validBox))

end Sys2Proof.Machine
end

