-- ==== Sys2Proof/Machine/Sequencer.lean ====
section
/-! DEFINITION. The bundle sequencer: the checks of a bundle, the issue checks and the admission of its slots, what the slots
do, loops, and the end of a frame and of a step (R41 to R58, R614). -/

namespace Sys2Proof.Machine

/-! ### The header (R47, R58) -/

/-- The operation is defined on its target (R58 with R48, R181, R239, R269, R294, R322, R329, R395, R437). On a tile group
that the charter does not use, R48 decides at issue. -/
def Dev.opDefined (d : Dev) (x : Slot) : Bool :=
  if x.target < 0x40 then
    match (d.group x.target).kind with
    | 1 => x.op ≤ 4 || (0x18 ≤ x.op && x.op ≤ 0x1B)
    | 2 => x.op ≤ 5
    | _ => x.op ≤ 0x1B
  else if x.target ≤ 0x4B then x.op ≤ 4
  else if x.target ≤ 0x63 then x.op ≤ 2
  else if x.target ≤ 0x67 then x.op ≤ 4
  else if x.target ≤ 0x6C then x.op ≤ 2
  else if x.target = 0x6D then x.op ≤ 4
  else false

/-- A SET_TAG slot. -/
def Slot.isFence (x : Slot) : Bool := decide (x.target < 0x40) && decide (x.op = 0x18)

/-- Two slots name one unit. -/
def namedTwice : List Nat → Bool
  | [] => false
  | t :: r => r.contains t || namedTwice r

/-- The checks of R58 in the order of its list; `rel` is the store index relative to the program base. -/
def Dev.headerFault (d : Dev) (b : Bundle) (rel : Nat) : Option Nat :=
  let k := b.kind
  if b.check ≠ crcHeader (fld b 0 48) then some 0x1020
  else if b.seq ≠ rel % 65536 then some 0x1021
  else if namedTwice (b.slots.map Slot.target) then some 0x1022
  else if 5 ≤ k || b.reserved ≠ 0 || ((k = 0 || k = 3 || k = 4) && b.loop ≠ 0) || ((k = 3 || k = 4) && !b.slots.isEmpty) ||
      b.slots.any (fun x => !d.opDefined x) then some 0x1023
  else if b.fence != b.slots.any Slot.isFence then some 0x1032
  else none

/-- R57 on a bundle. -/
def Seq.loopFault (q : Seq) (b : Bundle) : Bool :=
  match b.kind with
  | 1 => decide (8 < (openLoop q.nest b.loop 0).length)
  | 2 => !q.nest.any (fun x => x.1 = b.loop)
  | 4 => !q.nest.isEmpty
  | _ => false

/-! ### Issue checks of a slot -/

/-- Endpoint number of the unit that a target addresses. -/
def Dev.targetUnit (d : Dev) (t : Nat) : Nat :=
  if t < 0x40 then
    let g := d.group t
    if g.kind = 1 then g.fwdMembers.headD 0 / 128 else if g.kind = 2 then 8 + g.bwdMembers.headD 0 / 16 else 24
  else if t < 0x64 then 25 + (t - 0x40) % 12
  else if t < 0x68 then 20 + (t - 0x64)
  else if t < 0x6C then 16 + (t - 0x68)
  else 24

/-- WHERE of a target: its tile group, stack or die. -/
def targetWhere (t : Nat) : Nat :=
  if t < 0x40 then t else if t < 0x64 then (t - 0x40) % 12 else if t < 0x68 then t - 0x64 else if t < 0x6C then t - 0x68 else 0

/-- TARGET of an engine of Table 14.1. -/
def engineTarget (e : Nat) : Nat := 0x40 + e

/-- What a slot asks of admission, after its other issue checks. -/
structure SlotPlan where
  fault : Option Nat := none
  charges : List Charge := []
  /-- Messages: stream and length. They are admitted before the charges (R324). -/
  sends : List (Nat × Nat) := []

/-- A plan that fails. -/
def planFault (f : Option Nat) : SlotPlan := { fault := f }

/-- Frames of the step that follow the one in progress. -/
def Dev.framesLeft (d : Dev) : Nat := match d.seq.run with
  | none => 0
  | some r => r.s - 1 - d.seq.stepFrame

/-- The plan of a slot of a forward group. -/
def State.fwdPlan (s : State) (g op arg span : Nat) : SlotPlan :=
  match op with
  | 2 => planFault (s.fwdWindowFault g arg span)
  | 3 => planFault (if span < 8 || !s.dev.windowOk (s.window arg) g (s.dev.fwdGroup g).tag then some 0x2001 else none)
  | 4 => planFault (if span < 12 || arg ≠ 0 then some 0x2001 else none)
  | 0x18 => planFault (if span < 12 then some 0x1034 else none)
  | 0x19 => planFault (s.fillQueueFault g arg s.dev.framesLeft)
  | 0x1A => planFault (s.fillWindowFault g arg span)
  | 0x1B => planFault (s.dev.fillRetireFault g arg)
  | _ => {}

/-- The plan of a slot of a backward group that issues at cycle `t`. -/
def State.bwdPlan (s : State) (g op arg span t : Nat) : SlotPlan :=
  match op with
  | 2 => planFault (s.bwdWindowFault g arg span t)
  | 3 => planFault (s.dev.bwdPlainFault t span 8 true)
  | 4 => planFault (s.dev.bwdPlainFault t span 12 (arg = 0))
  | 5 => { fault := s.bwdDepositFault g arg t, charges := (s.bwdDepositCharges g arg).map plainCharge }
  | _ => {}

/-- The plan of a slot of the control unit. -/
def State.controlPlan (s : State) (op arg t : Nat) : SlotPlan :=
  match op with
  | 2 =>
    let r := s.roundAt arg
    { fault := s.clearDescFault arg, charges := (s.clearCharges arg).map plainCharge
      sends := if r.send = 0xFFF then [] else [(r.send, s.unpackedLength r)] }
  | 3 => { fault := s.settleFault arg, charges := s.settleCharges arg t }
  | 4 => { fault := s.dev.reportFault arg, sends := (s.dev.streamsOf 2 false).map (fun i => (i, 32)) }
  | _ => {}

/-- The issue checks of a slot and what it asks of admission. CONTINUE asks for no admission. -/
def State.slotPlan (s : State) (x : Slot) (span t : Nat) : SlotPlan :=
  if x.target < 0x40 ∧ (s.dev.group x.target).kind ≠ 1 ∧ (s.dev.group x.target).kind ≠ 2 then planFault (some 0x1023)
  else if x.op = 1 then
    -- R290 and R291 refuse every slot that names a backward group.
    (if x.target < 0x40 && (s.dev.group x.target).kind = 2 && s.dev.bwdAsleep t then planFault (some 0x3002) else {})
  else if x.target < 0x40 then
    (if (s.dev.group x.target).kind = 1 then s.fwdPlan x.target x.op x.arg span else s.bwdPlan x.target x.op x.arg span t)
  else if x.target < 0x4C then
    (let k := x.target - 0x40
    { fault := if s.mintOk x.arg (x.op = 4) then none else some 0x4030
      charges := [(dmaEngine k, mintEngine k, 0, s.mintCost x.arg x.op)] })
  else if x.target < 0x58 then
    (let k := x.target - 0x4C
    { charges := [(layEngine k, layEngine k, 0, s.layCost k x.arg)] })
  else if x.target < 0x64 then
    (let k := x.target - 0x58
    { charges := [(dmaEngine k, dmaEngine k, 0, s.dmaCost k x.arg)] })
  else if x.target < 0x68 then
    (if x.op = 2 then { sends := [((s.sendDescAt x.arg).stream, (s.sendDescAt x.arg).bytes)] } else {})
  else if x.target < 0x6C then
    { fault := s.rowFault x.arg span, charges := (s.rowCharges x.arg).map plainCharge }
  else if x.target = 0x6C then planFault (s.lossFault x.arg span)
  else s.controlPlan x.op x.arg t

/-! ### Admission (Table 1.2, R614) -/

/-- A failure of a slot: code, where it is raised, the refusing unit's TARGET and the item of Table 14.5 (0: no admission). -/
structure SlotFault where
  code : Nat
  unit : Nat
  wher : Nat
  detail : Nat
  source : Nat := 0
  item : Nat := 0
  cost : Nat := 0
  stop : Nat := 0
  deadline : Nat := 0
  /-- WHERE of the admission's trace record, where it is not the fault's (Table 14.4). -/
  place : Option Nat := none

/-- Admit charges in order at cycle `t`: the largest committed end reached. -/
def Dev.admitCharges (d : Dev) (arg t stop : Nat) : List Charge → Except SlotFault (Nat × Dev)
  | [] => .ok (stop, d)
  | c :: r =>
    let e := d.copyEnd c.1 (max t c.2.2.1) c.2.2.2
    let k := c.2.1 % 12
    if d.plannable < e then
      .error { code := 0x1002, unit := 25 + k, wher := k, detail := arg, source := engineTarget c.2.1, item := 1, cost := c.2.2.2, stop := e
               deadline := frameAfter d.frm.frame 1 }
    else ((d.admitCopy c.1 c.2.1 e c.2.2.2).traceAdmit (25 + k) k 1 0 c.2.2.2 e (frameAfter d.frm.frame 1)).admitCharges arg t (max stop e) r

/-- The refusal of a message at cycle `t`, recorded with its stream's port (R445) and the stream as DETAIL. A message that finds no link, or
no room on it, is refused as an item of Table 1.2 too (DEDUCED, log entry 185). -/
def Dev.messageFault (d : Dev) (m : Nat × Nat) (t code : Nat) : SlotFault :=
  let p := (d.stream m.1).port
  { code := code, unit := linkUnit p, wher := linkWhere p 0, detail := m.1, source := 0x64 + p / 3, item := 3, place := some m.1
    cost := d.sendCost m.1 m.2, stop := max t (d.sendEnd m.1) + d.sendCost m.1 m.2, deadline := frameAfter d.frm.frame (d.stream m.1).d }

/-- The first failure of the link block's checks over a slot's messages in order. -/
def Dev.linkRefusal (d : Dev) (t : Nat) : List (Nat × Nat) → Option SlotFault
  | [] => none
  | m :: r =>
    match d.sendLinkFault m.1 m.2 t with
    | some c => some (d.messageFault m t c)
    | none => (d.chargeSend m.1 m.2 t).linkRefusal t r

/-- Admit messages in order at cycle `t` under Table 1.2. -/
def Dev.admitMessages (d : Dev) (t : Nat) : List (Nat × Nat) → Except SlotFault Dev
  | [] => .ok d
  | m :: r =>
    match d.sendAdmFault m.1 m.2 with
    | some c => .error (d.messageFault m t c)
    | none => ((d.chargeSend m.1 m.2 t).traceMessage m.1 m.2 0).admitMessages t r

/-- The messages of a slot at cycle `t`: the link block's checks of all of them, then admission, last (R614). -/
def Dev.admitSends (d : Dev) (t : Nat) (ms : List (Nat × Nat)) : Except SlotFault Dev :=
  match d.linkRefusal t ms with
  | some f => .error f
  | none => d.admitMessages t ms

/-- The checks and the admission of one slot at cycle `t`: the committed end of its charges, and the state after admission. -/
def State.admitSlot (s : State) (x : Slot) (span t : Nat) : Except SlotFault (Nat × State) :=
  let p := s.slotPlan x span t
  match p.fault with
  | some c =>
    let adm := c = 0x1004
    .error { code := c, unit := s.dev.targetUnit x.target, wher := targetWhere x.target, detail := x.arg
             source := x.target, item := if adm then 4 else 0, cost := if adm then (s.fillItem x.arg).cost else 0
             deadline := (s.fillItem x.arg).deadline }
  | none =>
    match s.dev.admitSends t p.sends with
    | .error f => .error f
    | .ok d =>
      match d.admitCharges x.arg t t p.charges with
      | .error f => .error f
      | .ok r => .ok (r.1, { s with dev := r.2 })

/-- The checks and admissions of the slots in ascending order. -/
def State.admitSlots (s : State) (span t : Nat) : List Slot → Except SlotFault (List (Slot × Nat) × State)
  | [] => .ok ([], s)
  | x :: r =>
    match s.admitSlot x span t with
    | .error f => .error f
    | .ok a =>
      match a.2.admitSlots span t r with
      | .error f => .error f
      | .ok b => .ok ((x, a.1) :: b.1, b.2)

/-- Raise the fault of a slot that does not issue: its bundle changes nothing else, and nothing more issues in the frame
(log entry 39). A SETTLE that fails with 0x5011 leaves the escrow held (R342). -/
def Dev.failSlot (d : Dev) (f : SlotFault) : Dev :=
  let d0 := if f.code = 0x5011 then d.settleHeld else d
  let d1 := if f.item = 0 then d0
    else (d0.captureAdm f.code f.source).traceAdmit f.unit (f.place.getD f.wher) f.item f.code f.cost f.stop f.deadline
  { d1 with seq := { d1.seq with waiting := true } }.raise f.code f.unit f.wher f.detail

/-! ### What a slot does -/

/-- A slot of a forward group acts. -/
def State.fwdAct (s : State) (g op arg span : Nat) : State :=
  match op with
  | 2 => s.fwdWindow g arg span
  | 3 => s.fwdWload g arg
  | 4 => { s with dev := s.dev.fwdClear g }
  | 0x18 => { s with dev := (s.dev.setTag g arg).trace 3 (s.dev.targetUnit g) g (g + 2 ^ 8 * (arg % 64)) }
  | 0x19 =>
    let u := s.fillQueue g arg
    { u with dev := u.dev.traceAdmit (s.dev.targetUnit g) g 4 0 (s.fillItem arg).cost 0 (s.fillItem arg).deadline }
  | 0x1A => s.fillWindow g arg span
  | 0x1B => s.fillRetire g arg
  | _ => s

/-- A slot of a backward group that issued at cycle `t` acts; `stop` is the committed end of its charges. -/
def State.bwdAct (s : State) (g op arg span t stop : Nat) : State :=
  match op with
  | 2 => s.bwdWindow g arg span t
  | 3 => s.bwdBload g arg
  | 4 => { s with dev := s.dev.bwdClear g }
  | 5 => s.bwdDeposit g arg stop
  | _ => s

/-- A slot of a mint unit acts. -/
def State.mintAct (s : State) (k op arg : Nat) : State :=
  match op with
  | 2 => s.mintLoad k arg
  | 3 => s.mintStore k arg
  | 4 => s.mintScales k arg
  | _ => s

/-- A slot of a stream engine acts. -/
def State.streamAct (s : State) (die op arg : Nat) : State :=
  match op with
  | 2 => s.streamSend die arg
  | 3 => s.streamExpect arg
  | 4 => s.streamBind arg
  | _ => s

/-- A slot of the control unit acts. -/
def State.controlAct (s : State) (op arg : Nat) : State :=
  match op with
  | 2 => s.clearRound arg
  | 3 => s.settleChunk arg
  | 4 => { s with dev := s.dev.report arg }
  | _ => s

/-- An admitted slot that issued at cycle `t` acts. CONTINUE starts nothing. -/
def State.slotAct (s : State) (x : Slot) (span t stop : Nat) : State :=
  if x.op = 1 then s
  else if x.target < 0x40 then
    (if (s.dev.group x.target).kind = 1 then s.fwdAct x.target x.op x.arg span else s.bwdAct x.target x.op x.arg span t stop)
  else if x.target < 0x4C then s.mintAct (x.target - 0x40) x.op x.arg
  else if x.target < 0x58 then (if x.op = 2 then s.layCopy (x.target - 0x4C) x.arg else s)
  else if x.target < 0x64 then (if x.op = 2 then s.dmaCopy (x.target - 0x58) x.arg else s)
  else if x.target < 0x68 then s.streamAct (x.target - 0x64) x.op x.arg
  else if x.target < 0x6C then
    (if x.op = 2 then ({ s with dev := s.dev.rowSpan (x.target - 0x68) t span } : State).rowRun (x.target - 0x68) x.arg else s)
  else if x.target = 0x6C then (if x.op = 2 then s.lossAdd x.arg else s)
  else s.controlAct x.op x.arg

/-- Slots that issued at cycle `t` act in ascending order. -/
def State.actSlots (s : State) (span t : Nat) (xs : List (Slot × Nat)) : State :=
  xs.foldl (fun (u : State) x => u.slotAct x.1 span t x.2) s

/-! ### Issue -/

/-- The sequencer can issue: a step is in progress, its frame's stream has not ended, and the chip runs. -/
def Dev.canIssue (d : Dev) : Bool :=
  d.seq.run.isSome && d.seq.inStep && !d.seq.waiting && !d.seq.stepEnded && d.flt.stop = .running && d.flt.halting.isNone

/-- The chip reaches cycle `c` of the frame (R577); the trace closes the cycles before it (R583). -/
def Dev.advanceTo (d : Dev) (c : Nat) : Dev :=
  let d1 := (d.cntAdvance (c - d.frm.cycle)).traceFlush (some (traceTime d.frm.frame (max d.frm.cycle c)))
  { d1 with frm := { d.frm with cycle := max d.frm.cycle c } }

/-- Base of the running program. -/
def Dev.programBase (d : Dev) : Nat := match d.seq.run with
  | some r => r.base
  | none => 0

/-- The trace record of a bundle (KIND 1). -/
def Dev.traceBundle (d : Dev) (b : Bundle) : Dev :=
  let mask := ((List.range 16).filter (fun j => (b.slot j).op ≠ 0)).foldl (fun m j => m + 2 ^ j) 0
  d.trace 1 24 0 (d.seq.index + 2 ^ 32 * b.seq + 2 ^ 48 * b.kind + 2 ^ 56 * b2n b.fence + 2 ^ 64 * (b.span - 1) + 2 ^ 80 * mask)

/-- Note the bundle as the last one issued (BND.STATE, BND.SEQ, R50). -/
def Dev.noteBundle (d : Dev) (b : Bundle) (span : Nat) : Dev :=
  ({ d with seq := { d.seq with
      lastCycle := d.seq.cycle, lastSpan := span, lastIndex := d.seq.index, lastSeq := b.seq
      acting := b.slots.map (fun (x : Slot) => (x.target, x.op, x.arg)) } } : Dev).traceBundle b

/-- Where the sequencer goes after a RUN, LOOP_OPEN or LOOP_CLOSE bundle (R49, R55). -/
def Seq.advance (q : Seq) (b : Bundle) (loops : List Nat) : Seq :=
  let q1 := { q with index := q.index + 1, cycle := q.cycle + b.span }
  match b.kind with
  | 1 => { q1 with
      counters := lmod q.counters b.loop (fun _ => loops.getD b.loop 0)
      nest := openLoop q.nest b.loop (q.index + 1) }
  | 2 =>
    let c := q.counters.getD b.loop 0 - 1
    let q2 := { q1 with counters := lmod q.counters b.loop (fun _ => c) }
    if c = 0 then { q2 with nest := closeLoop q.nest b.loop }
    else { q2 with
      nest := q.nest.dropWhile (fun x => x.1 ≠ b.loop)
      index := match q.nest.find? (fun x => x.1 = b.loop) with
        | some x => x.2
        | none => q1.index }
  | _ => q1

/-- Capture the counters of the step (R90, R226, R306, R307, R402). -/
def Dev.captureStep (d : Dev) : Dev :=
  let f := d.fwd.bnd
  let d1 := ((((d.setReg .bndFillAhead f.ahead).setReg .bndFillDiscard f.discard).setReg .bndFillPromote f.promote).setReg
    .bndFenceHold f.hold).setPair .bndSlackLo .bndSlackHi f.slack
  let d2 := (List.range 8).foldl (fun (x : Dev) i =>
    let c : FwdCount := tgetD d.fwd.counts i {}
    ((((((x.setPair .fwdPlanesLo .fwdPlanesHi c.planes i).setPair .fwdSkippedLo .fwdSkippedHi c.skipped i).setReg .fwdExtend c.extend i).setReg
      .fwdOutlier c.outlier i).setReg .fwdDecline c.decline i).setReg .fwdAccSat c.accSat i).setReg .fwdStall c.stall i) d1
  let d3 := (List.range 8).foldl (fun (x : Dev) i =>
    let c : BwdCount := tgetD d.bwd.counts i {}
    (((((x.setPair .bwdCyclesLo .bwdCyclesHi c.cycles i).setReg .bwdAccSat c.accSat i).setReg .bwdNonfin c.nonfin i).setReg
      .bwdTrunc c.trunc i).setReg .bwdZeroed c.zeroed i).setReg .bwdDeposit c.deposit i) d2
  let d4 := (List.range 4).foldl (fun (x : Dev) i =>
    let c : RowCount := tgetD d.row.counts i {}
    ((((x.setReg .rowCycles c.cycles i).setReg .rowRows c.rows i).setReg .rowSat c.sat i).setReg .rowNonfin c.nonfin i).setPair
      .rowContribLo .rowContribHi c.contrib i) d3
  (List.range 12).foldl (fun (x : Dev) i =>
    let c : LayCount := tgetD d.lay i {}
    ((((x.setReg .layCopies c.copies i).setPair .layElemsLo .layElemsHi c.elems i).setReg .layFolded c.folded i).setReg
      .layPadskip c.padskip i).setReg .layFoldsat c.foldsat i) d4

/-- Fill items that a STEP_END meets neither run nor retired (R75): the first group and item. -/
def Dev.fillLeft (d : Dev) : Option (Nat × Nat) :=
  d.fwd.groups.findSome? (fun (g : Nat × GroupState) => (g.2.fill.find? (fun i => !d.itemDone g.1 i)).map (fun i => (g.1, i.item)))

/-- A header check fails: the bundle does not issue. -/
def Dev.failBundle (d : Dev) (code unit wher : Nat) : Dev :=
  { d with seq := { d.seq with waiting := true } }.raise code unit wher d.seq.index

/-- The bundle with the slots' work, once it has passed its header checks. -/
def State.issueSlots (s : State) (b : Bundle) : State :=
  match s.admitSlots b.span s.dev.seq.cycle b.slots with
  | .error f => { s with dev := s.dev.failSlot f }
  | .ok r =>
    let loops := match s.dev.seq.run with
      | some x => x.loops
      | none => []
    let u := { r.2 with dev := r.2.dev.noteBundle b b.span }
    let v := u.actSlots b.span s.dev.seq.cycle r.1
    { v with dev := { v.dev with seq := v.dev.seq.advance b loops } }

/-- Issue a bundle that has been fetched (R49 to R58, R614). -/
def State.issue (s : State) (b : Bundle) : State :=
  let d := s.dev
  let q := d.seq
  match d.headerFault b (q.index - d.programBase) with
  | some c => { s with dev := d.failBundle c 24 0 }
  | none =>
    if b.kind ≤ 2 ∧ d.plannable < q.cycle + b.span then { s with dev := d.failBundle 0x1006 24 0 }
    else if q.loopFault b then { s with dev := d.failBundle 0x1024 24 0 }
    else if b.kind = 3 then
      (let e := d.noteBundle b 0
      { s with dev := { e with seq := { e.seq with index := q.index + 1, waiting := true } } })
    else if b.kind = 4 then
      (match d.fillLeft with
      | some x => { s with dev := d.failBundle 0x1031 (d.targetUnit x.1) x.1 }
      | none =>
        let e := (d.noteBundle b 0).captureStep
        { s with dev := { e with seq := { e.seq with waiting := true, stepEnded := true } } })
    else s.issueSlots b

/-- Fetch and issue the next bundle when its KIND is one that the command stands for; otherwise nothing happens. -/
def State.next (s : State) (kinds : Nat → Bool) : State :=
  if s.dev.canIssue then
    let b := s.bundle s.dev.seq.index
    if kinds b.kind then ({ s with dev := s.dev.advanceTo s.dev.seq.cycle } : State).issue b else s
  else s

/-- A slot issued by itself at the current cycle, as one slot of a bundle would be (R48, R54, R58, R614). -/
def State.slotAlone (s : State) (x : Slot) (span : Nat) : State :=
  if !s.dev.canIssue then s
  else
    let d := s.dev
    let t := d.frm.cycle
    if !d.opDefined x then { s with dev := d.failBundle 0x1023 24 0 }
    else if d.plannable < t + span then { s with dev := d.failBundle 0x1006 24 0 }
    else match s.admitSlot x span t with
      | .error f => { s with dev := d.failSlot f }
      | .ok r => ({ r.2 with dev := { r.2.dev with seq := { r.2.dev.seq with
      acting := [(x.target, x.op, x.arg)], lastCycle := t, lastSpan := span } } } : State).slotAct x span t r.1

/-! ### Steps -/

/-- The plan of frame `j` of a step for the backward dies (R106, R290). -/
def Dev.planGate (d : Dev) (j : Nat) : Bool := (d.energyPlan j).2

/-- A tick at which a step begins: its first bundle issues at cycle 0 (R31, R53, R56). -/
def State.stepBegin (s : State) (r : RunCmd) (idx : Nat) : State :=
  let d0 := { s.dev with
    seq := { s.dev.seq with
      run := some { r with lastStep := s.dirStep }
      inStep := true, stepEnded := false, waiting := false, index := r.base, cycle := 0
      counters := List.replicate 16 0, nest := [], stepFrame := 0, stepIndex := idx, acting := [] }
    lay := [], bwd := { s.dev.bwd with counts := [] }, row := { s.dev.row with counts := [] }
    pwr := { s.dev.pwr with raised9012 := false, raised9010 := false, plan := some (s.dev.energyPlan 0).1 } }
  let s1 := (({ s with dev := d0.bwdTick (d0.planGate 0) } : State).mintBegin).forwardBegin.ledgerBegin
  { s1 with dev := s1.dev.streamsBegin }

/-- A tick at which the step goes on in its next frame. -/
def State.stepGoesOn (s : State) : State :=
  let j := s.dev.seq.stepFrame + 1
  { s with dev := { s.dev with
      seq := { s.dev.seq with waiting := false, cycle := 0, stepFrame := j, acting := [] }
      pwr := { s.dev.pwr with plan := some (s.dev.energyPlan j).1 } }.bwdTick (s.dev.planGate j) }

end Sys2Proof.Machine
end

