-- ==== Sys2Proof/Machine/Vault.lean ====
section
/-! DEFINITION. Vault traffic (10_protection_and_recovery.md): the streams it uses, its messages and their admission, the erasure
code of a snapshot, and the vault partition with its bay directory (R40, R457, R459, R468, R471, R472, R477). -/

namespace Sys2Proof.Machine

/-! ### Streams and partners (R457, R467) -/

/-- First valid stream of a class to or from a partner. -/
def Dev.vaultStream (d : Dev) (p cls : Nat) (recv : Bool) : Option Nat :=
  (d.streamsOf cls recv).find? (fun i => decide ((d.stream i).partner = p))

/-- A partner is usable for snapshots: present, with a CLASS 3 stream each way (R457). -/
def Dev.usable (d : Dev) (p : Nat) : Bool :=
  decide ((d.partner p).state = .present) && (d.vaultStream p 3 false).isSome && (d.vaultStream p 3 true).isSome

/-- A partner may take mirrors: present, with a CLASS 4 stream each way (R467). -/
def Dev.mirrors (d : Dev) (p : Nat) : Bool :=
  decide ((d.partner p).state = .present) && (d.vaultStream p 4 false).isSome && (d.vaultStream p 4 true).isSome

/-- Valid protection groups. -/
def Dev.protGroups (d : Dev) : List Nat := (List.range 64).filter (fun g => (d.protGroup g).valid)

/-- FEED of this chip (LNK.DOMAIN, Table 9.8). -/
def Dev.ownFeed (d : Dev) : Nat := d.regFld .lnkDomainLo 0 16

/-! ### Messages (Table 10.5) -/

structure VaultHdr where
  kind : Nat
  status : Nat := 0
  item : Nat := 0
  shard : Nat := 0
  k : Nat := 0
  gen : Nat := 0
  step : Nat := 0
  source : Nat := 0
  offset : Nat := 0
  length : Nat := 0
  reserved : Nat := 0
  deriving DecidableEq, Repr

def vaultHdr (b : BitVec 512) : VaultHdr :=
  { kind := fld b 0 8, status := fld b 8 8, item := fld b 16 16, shard := fld b 32 8, k := fld b 40 8, gen := fld b 48 16
    step := fld b 64 64, source := fld b 128 64, offset := fld b 192 64, length := fld b 256 32, reserved := fld b 288 224 }

def VaultHdr.bytes (h : VaultHdr) : List Byte :=
  leBytes 1 h.kind ++ leBytes 1 h.status ++ leBytes 2 h.item ++ leBytes 1 h.shard ++ leBytes 1 h.k ++ leBytes 2 h.gen ++
  leBytes 8 h.step ++ leBytes 8 h.source ++ leBytes 8 h.offset ++ leBytes 4 h.length ++ leBytes 28 0

/-- A message with its payload. -/
def VaultHdr.message (h : VaultHdr) (payload : List Byte) : List Byte := { h with length := payload.length }.bytes ++ payload

/-- ITEM of a group's generation record (DESIGN CHOICE, log entry 50). -/
def recordItem (g : Nat) : Nat := 0xC000 + g

/-! ### Admission (R40, R463, R468, R477) -/

/-- Neither side of a link has a run command active (R477): FLAGS bit 3 of the far side's control flits. -/
def Dev.linkQuiet (d : Dev) (l : Link) : Bool :=
  d.seq.run.isNone && (d.laneInfo l).all (fun (x : Lane) => !x.flags.testBit 3)

/-- Send a vault message now, or not at all. CLASS 3 traffic takes only the unspent link reserve (R40, R463), but refill
traffic any slot while neither side runs (R477). -/
def Dev.vaultSend (d : Dev) (p cls : Nat) (refill : Bool) (bytes : List Byte) : Bool × Dev :=
  match d.vaultStream p cls false with
  | none => (false, d)
  | some i =>
    match d.streamLink i with
    | none => (false, d)
    | some l =>
      let f := msgFlits bytes.length
      let free := cls ≠ 3 || (refill && d.linkQuiet l) ||
        decide (l.retries + l.snap + f ≤ linkReserve l.lanes.length d.frameLen)
      if !free then (false, d)
      else
        let r := d.trySend i d.frm.cycle bytes
        if r.1 && cls = 3 then (true, r.2.modLink l (fun x => { x with snap := x.snap + f })) else r

/-- Queue a vault message. -/
def Dev.vaultQueue (d : Dev) (p cls : Nat) (refill : Bool) (h : VaultHdr) (payload : List Byte) : Dev :=
  { d with prt := { d.prt with outbox := d.prt.outbox ++
      [({ partner := p, cls := cls, refill := refill, bytes := h.message payload } : VaultMsg)] } }

/-- Send what the outbox holds, in order on each stream, as far as it is admitted. -/
def Dev.vaultFlush (d : Dev) : Dev :=
  let x := d.prt.outbox.foldl (fun (acc : Dev × List VaultMsg) m =>
    if acc.2.any (fun y => decide (y.partner = m.partner ∧ y.cls = m.cls)) then (acc.1, acc.2 ++ [m])
    else
      let r := acc.1.vaultSend m.partner m.cls m.refill m.bytes
      if r.1 then (r.2, acc.2) else (acc.1, acc.2 ++ [m])) ({ d with prt := { d.prt with outbox := [] } }, [])
  { x.1 with prt := { x.1.prt with outbox := x.2 } }

/-! ### The erasure code (R459): systematic, generator (x − 1)(x − α), over the field of R363 (Shake.lean) -/

/-- Inverse of a non-zero element: a^254. -/
def gfInv (a : Nat) : Nat := (List.range 253).foldl (fun p _ => gfMul p a) a

/-- Coefficient position of shard `j` of k + 2: x^(k + 1 − j). -/
def shardRoot (k j : Nat) : Nat := gfPow (k + 1 - j)

/-- The syndromes of the shards known: their sum, and their sum weighted by α's powers. -/
def syndromes (k : Nat) (known : List (Nat × Nat)) : Nat × Nat :=
  (known.foldl (fun a x => a ^^^ x.2) 0, known.foldl (fun a x => a ^^^ gfMul x.2 (shardRoot k x.1)) 0)

/-- The bytes of at most two missing shards of k + 2. -/
def solveShards (k : Nat) (known : List (Nat × Nat)) (missing : List Nat) : List (Nat × Nat) :=
  let s := syndromes k known
  match missing with
  | [a] => [(a, s.1)]
  | [a, b] =>
    let xa := shardRoot k a
    let xb := shardRoot k b
    let ya := gfMul (s.2 ^^^ gfMul xb s.1) (gfInv (xa ^^^ xb))
    [(a, ya), (b, s.1 ^^^ ya)]
  | _ => []

/-- Parity shard `j` (k or k + 1) of the bytes of the data shards. -/
def parityByte (k j : Nat) (data : List Nat) : Nat :=
  tgetD (solveShards k (List.zip (List.range k) data) [k, k + 1]) j 0

/-- Shard `j` of `n` stripes of an image part whose bytes `b` start at a stripe (R459). -/
def shardOf (k j n : Nat) (b : List Byte) : List Byte :=
  let at_ := fun (i : Nat) => (b.getD i 0).toNat
  if j < k then (List.range n).flatMap (fun i => (List.range 64).map (fun x => b.getD (64 * (i * k + j) + x) 0))
  else (List.range n).flatMap (fun i => (List.range 64).map (fun x =>
    BitVec.ofNat 8 (parityByte k j ((List.range k).map (fun m => at_ (64 * (i * k + m) + x))))))

/-- Granules of an item's shard. -/
def shardGranules (size k : Nat) : Nat := ceilDiv size (64 * max 1 k)

/-- An item's image (R459): its bytes, padded with zero granules to a multiple of k granules. -/
def itemImage (k : Nat) (b : List Byte) : List Byte := b ++ List.replicate (64 * max 1 k * shardGranules b.length k - b.length) 0

/-- Decode an image of `size` bytes from shards: shard number and bytes. `none` with fewer than k shards. -/
def decodeImage (k size : Nat) (sh : List (Nat × List Byte)) : Option (List Byte) :=
  let have_ := (List.range (k + 2)).filter (fun j => sh.any (fun x => decide (x.1 = j)))
  if have_.length < k then none
  else
    let missing := (List.range (k + 2)).filter (fun j => !have_.contains j)
    let use := fun (i : Nat) => have_.map (fun j => (j, ((tgetD sh j []).getD i 0).toNat))
    let byte := fun (j i : Nat) =>
      if have_.contains j then (tgetD sh j []).getD i 0 else BitVec.ofNat 8 (tgetD (solveShards k (use i) missing) j 0)
    some (((List.range (shardGranules size k)).flatMap (fun i => (List.range k).flatMap (fun j =>
      (List.range 64).map (fun x => byte j (64 * i + x))))).take size)

/-! ### The vault partition (R471, Table 10.4) -/

/-- VAULT of the lowest valid protection group (DESIGN CHOICE, log entry 51). -/
def Dev.vaultAlloc (d : Dev) : Option Nat := d.protGroups.head?.map (fun g => (d.protGroup g).vault)

/-- The control die's firmware lands vault traffic as a protection engine. -/
def Who.vault : Who := { inst := 0, cls := 5, unit := 24 }

structure Bay where
  source : Nat
  offset : Nat
  size : Nat
  gen : Nat
  deriving DecidableEq, Repr

/-- The bay directory. -/
def State.bays (s : State) (a : Nat) : List Bay :=
  if s.peek a 0 4 = 0x54415642 then
    (List.range (s.peek a 4 2)).map (fun b =>
      let o := 32 + 32 * b
      { source := s.peek a o 8, offset := s.peek a (o + 8) 8, size := s.peek a (o + 16) 8, gen := s.peek a (o + 24) 2 })
  else []

/-- First byte above every bay. -/
def bayEnd (l : List Bay) : Nat := l.foldl (fun m b => max m (b.offset + b.size)) 4096

/-- Write the bay directory. -/
def State.putBays (s : State) (a : Nat) (l : List Bay) : State :=
  let b := leBytes 4 0x54415642 ++ leBytes 2 l.length ++ leBytes 2 0 ++ leBytes 8 (bayEnd l) ++ leBytes 16 0 ++
    l.flatMap (fun x => leBytes 8 x.source ++ leBytes 8 x.offset ++ leBytes 8 x.size ++ leBytes 2 x.gen ++ leBytes 6 0)
  (s.storeAlloc Who.vault a 0 b).2

/-- The directory after a claim of `n` bytes, in whole granules: a bay that is replaced stays in place when it fits there, else it moves behind
the others (DESIGN CHOICE, log entry 51). `none` when the space does not allow it. -/
def claimBay (l : List Bay) (cap src n : Nat) : Option (List Bay) :=
  let size := ceilDiv n 64 * 64
  let rest := l.filter (fun b => b.source ≠ src)
  match l.find? (fun b => b.source = src) with
  | some old =>
    let stop := rest.foldl (fun m b => if old.offset ≤ b.offset then min m b.offset else m) cap
    if old.offset + size ≤ stop then some (l.map (fun b => if b.source = src then { b with size := size } else b))
    else if bayEnd rest + size ≤ cap then some (rest ++ [{ source := src, offset := bayEnd rest, size := size, gen := old.gen }])
    else none
  | none =>
    if l.length < 127 ∧ bayEnd l + size ≤ cap then some (l ++ [{ source := src, offset := bayEnd l, size := size, gen := 0 }])
    else none

/-- What a reply to a vault message carries back. -/
def VaultHdr.reply (h : VaultHdr) (kind status : Nat) : VaultHdr := { h with kind := kind, status := status, length := 0 }

/-- Send a reply to the partner of a receive stream, on the class the message came by. -/
def Dev.vaultReply (d : Dev) (stream : Nat) (refill : Bool) (h : VaultHdr) (payload : List Byte) : Dev :=
  (d.vaultQueue (d.stream stream).partner (d.stream stream).cls refill h payload).vaultFlush

/-- A bay moves: the granules that its copies use are read and written again at the new place (DESIGN CHOICE, log entry 51). -/
def State.moveBay (s : State) (a src old new : Nat) : State :=
  let used := (s.dev.prt.held.filter (fun (x : Held) => x.src = src)).flatMap (fun x => x.grans.map Prod.snd)
  let r := used.foldl (fun (acc : List (Nat × (List Byte × Bool)) × State) g =>
    let q := acc.2.loadAlloc Who.vault a (old + 64 * g) 64
    (match q.1 with
      | none => acc.1
      | some b => acc.1 ++ [(g, b)], q.2)) ([], s)
  r.1.foldl (fun (u : State) x => (u.storeAlloc Who.vault a (new + 64 * x.1) x.2.1 x.2.2).2) r.2

/-- A granted bay takes its new place and size: what it holds moves along, and a copy that a smaller bay has no room for goes. -/
def State.settleBay (s : State) (a : Nat) (was now : Option Bay) : State :=
  match was, now with
  | some b, some c =>
    let u := if b.offset = c.offset then s else s.moveBay a b.source b.offset c.offset
    { u with dev := { u.dev with prt := { u.dev.prt with held := u.dev.prt.held.filter (fun (x : Held) =>
        decide (x.src ≠ b.source) || x.grans.all (fun q => decide (64 * (q.2 + 1) ≤ c.size))) } } }
  | _, _ => s

/-- A received BAY_CLAIM: its payload is the size, 8 bytes (DESIGN CHOICE, log entry 50). Where R376 refuses the write of the directory,
the claim is refused. -/
def State.bayClaim (s : State) (stream : Nat) (h : VaultHdr) (payload : List Byte) : State :=
  let refuse := { s with dev := (s.dev.raise 0x8017 24 0 0).vaultReply stream false (h.reply 2 1) [] }
  match s.dev.vaultAlloc with
  | none => refuse
  | some a =>
    match claimBay (s.bays a) (s.dev.alloc a).size h.source (leNat (payload.take 8)) with
    | none => refuse
    | some l =>
      let u := s.putBays a l
      let own := fun (m : List Bay) => m.find? (fun b => b.source = h.source)
      if u.bays a = l then
        let v := u.settleBay a (own (s.bays a)) (own l)
        { v with dev := v.dev.vaultReply stream false (h.reply 2 0) [] }
      else { u with dev := (u.dev.raise 0x8017 24 0 0).vaultReply stream false (h.reply 2 1) [] }

/-- Bays of partners whose entries have been freed are freed. -/
def State.freeBays (s : State) (fps : List Nat) : State :=
  match s.dev.vaultAlloc with
  | none => s
  | some a =>
    if fps.isEmpty || !(s.bays a).any (fun b => fps.contains b.source) then s
    else
      let u := s.putBays a ((s.bays a).filter (fun b => !fps.contains b.source))
      { u with dev := { u.dev with prt := { u.dev.prt with held := u.dev.prt.held.filter (fun (x : Held) => !fps.contains x.src) } } }

/-! ### Landing in a bay -/

/-- Shard code of a mirror slot in `Held`: mirror slots stand apart from shards 10 to 15. -/
def slotCode (c : Nat) : Nat := 256 + c

/-- Same copy: source, item, shard and, for a shard or a record, its generation. -/
def Held.is (x : Held) (src item shard gen : Nat) : Bool :=
  decide (x.src = src ∧ x.item = item ∧ x.shard = shard ∧ (256 ≤ shard ∨ x.gen = gen))

/-- What is held under a key. -/
def Dev.heldFind (d : Dev) (src item shard gen : Nat) : Option Held := d.prt.held.find? (fun (x : Held) => x.is src item shard gen)

/-- The lowest `n` granules of a bay that no copy of its source uses. No message gives a place in a bay (Table 10.5), so the receiver places
what it lands (DESIGN CHOICE, log entry 51). -/
def Dev.freeGrans (d : Dev) (src n : Nat) : List Nat :=
  let used := (d.prt.held.filter (fun (x : Held) => x.src = src)).flatMap (fun x => x.grans.map Prod.snd)
  ((List.range (used.length + n)).filter (fun g => !used.contains g)).take n

/-- Where byte `o` of a copy stands in the vault allocation. -/
def Held.place (x : Held) (bay : Bay) (o : Nat) : Nat := bay.offset + 64 * tgetD x.grans (o / 64) 0 + o % 64

/-- Bytes that a bay holds of a copy. -/
def State.heldBytes (s : State) (x : Held) (o n : Nat) : List Byte :=
  match s.dev.vaultAlloc with
  | none => []
  | some a =>
    match (s.bays a).find? (fun b => b.source = x.src) with
    | none => []
    | some bay => (List.range (min n (x.size - o))).flatMap (fun i => s.peekBytes a (x.place bay (o + i)) 1)

/-- The same as the partner's protection logic reads it to answer a FETCH: with the checks of R376 and the decoder, granule by granule. -/
def State.heldLoad (s : State) (x : Held) (o n : Nat) : Option (List Byte) × State :=
  match s.dev.vaultAlloc with
  | none => (some [], s)
  | some a =>
    match (s.bays a).find? (fun b => b.source = x.src) with
    | none => (some [], s)
    | some bay => (granPieces o (min n (x.size - o))).foldl (fun (acc : Option (List Byte) × State) p =>
        match acc.1 with
        | none => acc
        | some l =>
          let r := acc.2.loadAlloc Who.vault a (x.place bay p.1) p.2
          (r.1.map (fun b => l ++ b.1), r.2)) (some [], s)

/-- Items of a generation record with the generation of their copy: an entry starts with ITEM, slot, k and GEN, and one with
bit 7 of the slot set has 32 bytes more (DESIGN CHOICE, log entry 50). -/
structure RecordEntry where
  item : Nat
  slot : Nat
  k : Nat
  gen : Nat
  partner : Nat
  size : Nat
  digest : Nat
  home : Option Nat
  deriving DecidableEq, Repr

def recordEntry (b : List Byte) : RecordEntry :=
  { item := bytesAt b 0 2, slot := bytesAt b 2 1 % 128, k := bytesAt b 3 1, gen := bytesAt b 4 2, partner := bytesAt b 6 2
    size := bytesAt b 8 8, digest := bytesAt b 16 32, home := if bytesAt b 2 1 ≥ 128 then some (bytesAt b 48 32) else none }

def RecordEntry.bytes (e : RecordEntry) : List Byte :=
  leBytes 2 e.item ++ leBytes 1 (e.slot + 128 * b2n e.home.isSome) ++ leBytes 1 e.k ++ leBytes 2 e.gen ++ leBytes 2 e.partner ++
  leBytes 8 e.size ++ leBytes 32 e.digest ++ (match e.home with
    | some h => leBytes 32 h
    | none => [])

/-- Entries of a record, `n` at most. -/
def recordEntries : Nat → List Byte → List RecordEntry
  | 0, _ => []
  | n + 1, b => if b.length < 48 then [] else
      let e := recordEntry b
      e :: recordEntries n (b.drop (if e.home.isSome then 80 else 48))

/-- The generation whose copy of an item the landed records of a source name. -/
def State.recordedGen (s : State) (src item : Nat) : Option Nat :=
  (s.dev.prt.held.filter (fun (x : Held) => decide (x.src = src ∧ 0xC000 ≤ x.item) && x.whole)).findSome? (fun x =>
    let b := s.heldBytes x 0 x.size
    ((recordEntries b.length (b.drop 64)).find? (fun e => e.item = item)).map RecordEntry.gen)

/-- Make room for a copy under a new key: of the two slots of an item's shard, the one with the last complete copy stays. -/
def State.openHeld (s : State) (h : VaultHdr) (shard : Nat) : State :=
  if (s.dev.heldFind h.source h.item shard h.gen).isSome then s
  else
    let keep := s.recordedGen h.source h.item
    let l := s.dev.prt.held.filter (fun (x : Held) =>
      !decide (x.src = h.source ∧ x.item = h.item ∧ x.shard = shard) || 0xC000 ≤ h.item || some x.gen = keep)
    { s with dev := { s.dev with prt := { s.dev.prt with
        held := l ++ [({ src := h.source, item := h.item, shard := shard, gen := h.gen, step := h.step } : Held)] } } }

def Dev.modHeld (d : Dev) (src item shard gen : Nat) (f : Held → Held) : Dev :=
  { d with prt := { d.prt with held := d.prt.held.map (fun (x : Held) => if x.is src item shard gen then f x else x) } }

/-- Granules that `n` bytes from `o` touch. -/
def gransOf (o n : Nat) : List Nat := if n = 0 then [] else (List.range ((o + n - 1) / 64 - o / 64 + 1)).map (· + o / 64)

/-- A bay has one generation record of a group: where a new one finds no room beside the old, it takes its place (R471; DESIGN CHOICE, log
entry 51). -/
def State.recordRoom (s : State) (h : VaultHdr) (bay : Bay) (n : Nat) : State :=
  if 0xC000 ≤ h.item ∧ (s.dev.freeGrans h.source n).any (fun g => decide (bay.size < 64 * (g + 1))) then
    { s with dev := { s.dev with prt := { s.dev.prt with held := s.dev.prt.held.filter (fun (x : Held) =>
        !decide (x.src = h.source ∧ x.item = h.item ∧ x.gen ≠ h.gen)) } } }
  else s

/-- Land a block in the source's bay. Answers the STATUS of Table 10.5; `none` when the access is refused. -/
def State.landBlock (s : State) (h : VaultHdr) (shard : Nat) (payload : List Byte) : Option Nat × State :=
  match s.dev.vaultAlloc with
  | none => (some 1, s)
  | some a =>
    match (s.bays a).find? (fun b => b.source = h.source) with
    | none => (some 1, s)
    | some bay =>
      let s0 := s.openHeld h shard
      let x0 : Held := { src := h.source, item := h.item, shard := shard, gen := h.gen, step := h.step }
      let x := (s0.dev.heldFind h.source h.item shard h.gen).getD x0
      let new := (gransOf h.offset payload.length).filter (fun g => (tget x.grans g).isNone)
      let s1 := s0.recordRoom h bay new.length
      let at_ := List.zip new (s1.dev.freeGrans h.source new.length)
      if at_.any (fun q => decide (bay.size < 64 * (q.2 + 1))) then (some 2, s1)
      else
        let y := { x with grans := at_.foldl (fun (l : List (Nat × Nat)) (q : Nat × Nat) => tput l q.1 q.2) x.grans }
        let r := (granPieces h.offset payload.length).foldl (fun (acc : Bool × State) p =>
          if !acc.1 then acc
          else acc.2.storeAlloc Who.vault a (y.place bay p.1) ((payload.drop (p.1 - h.offset)).take p.2)) (true, s1)
        if !r.1 then (none, r.2)
        else if payload.isEmpty then (some 0, r.2)
        else (some 0, { r.2 with dev := r.2.dev.modHeld h.source h.item shard h.gen (fun z =>
          { z with grans := y.grans, size := max z.size (h.offset + payload.length), step := h.step, gen := h.gen
                   whole := if 256 ≤ shard then false else z.whole }) })

/-- The message is a shard's or a record's last: it carries less than 4,096 bytes (DESIGN CHOICE, log entry 50). -/
def lastPart (payload : List Byte) : Bool := decide (payload.length < 4096)

/-- Every granule of a copy, up to the end of its last part, has landed (R463). -/
def Dev.landed (d : Dev) (h : VaultHdr) (shard n : Nat) : Bool :=
  match d.heldFind h.source h.item shard h.gen with
  | none => false
  | some x => (List.range (ceilDiv (h.offset + n) 64)).all (fun g => (tget x.grans g).isSome)

/-- A received SHARD: a block that the bay cannot take is answered with its STATUS, and the last part with the RECEIPT, when every granule
of the shard has landed (R463). -/
def State.landShard (s : State) (stream : Nat) (h : VaultHdr) (payload : List Byte) : State :=
  let r := s.landBlock h h.shard payload
  match r.1 with
  | none => r.2
  | some st =>
    if st ≠ 0 then { r.2 with dev := r.2.dev.vaultReply stream false (h.reply 6 st) [] }
    else if lastPart payload && r.2.dev.landed h h.shard payload.length then
      let d := r.2.dev.modHeld h.source h.item h.shard h.gen (fun x => { x with whole := true })
      { r.2 with dev := d.vaultReply stream false (h.reply 6 0) [] }
    else r.2

/-- A received MIRROR block (R466): every block has its receipt. -/
def State.landMirror (s : State) (stream : Nat) (h : VaultHdr) (payload : List Byte) : State :=
  let r := s.landBlock h (slotCode h.shard) payload
  match r.1 with
  | none => r.2
  | some st => { r.2 with dev := r.2.dev.vaultReply stream false (h.reply 6 st) [] }

/-- A received SEAL (R466). -/
def Dev.landSeal (d : Dev) (stream : Nat) (h : VaultHdr) : Dev :=
  match d.heldFind h.source h.item (slotCode h.shard) h.gen with
  | none => d.vaultReply stream false (h.reply 6 3) []
  | some _ =>
    (d.modHeld h.source h.item (slotCode h.shard) h.gen (fun x => { x with whole := true, step := h.step, gen := h.gen })).vaultReply
      stream false (h.reply 6 0) []

/-- A received generation record (R463): stored, the older record of its group goes, and the bay entry takes its GEN. -/
def State.landRecord (s : State) (stream : Nat) (h : VaultHdr) (payload : List Byte) : State :=
  let r := s.landBlock h 0 payload
  match r.1 with
  | none => r.2
  | some st =>
    if st ≠ 0 then { r.2 with dev := r.2.dev.vaultReply stream false (h.reply 6 st) [] }
    else if !(lastPart payload && r.2.dev.landed h 0 payload.length) then r.2
    else
      let d := r.2.dev.modHeld h.source h.item 0 h.gen (fun x => { x with whole := true })
      let d1 := { d with prt := { d.prt with held := d.prt.held.filter (fun (x : Held) =>
        !decide (x.src = h.source ∧ x.item = h.item ∧ x.gen ≠ h.gen)) } }
      let u : State := { r.2 with dev := d1 }
      let v := match u.dev.vaultAlloc with
        | none => u
        | some a => u.putBays a ((u.bays a).map (fun (b : Bay) => if b.source = h.source then { b with gen := h.gen } else b))
      { v with dev := v.dev.vaultReply stream false (h.reply 6 0) [] }

/-! ### FETCH (R474, R483) -/

/-- The bytes of an item: allocation, first byte and size. A ledger half is half (STEP − 1) mod 2 (R448). -/
def Dev.itemRange (d : Dev) (item step : Nat) : Nat × Nat × Nat :=
  if 0x8000 ≤ item then (item - 0x8000, 0, (d.alloc (item - 0x8000)).size)
  else if 0x4000 ≤ item then
    (let a := (d.tensor (item - 0x4000)).alloc
    (a, (step + 1) % 2 * ((d.alloc a).size / 2), (d.alloc a).size / 2))
  else ((d.tensor item).alloc, 0, (d.alloc (d.tensor item).alloc).size)

/-- SHARD of a FETCH of a replica's own memory; mirror slots and memory are asked for with K 0 (DESIGN CHOICE, log entry 50). -/
def homeShard : Nat := 0xF

/-- A received FETCH is answered from the bay, or from this replica's memory while it serves the partner. -/
def State.fetch (s : State) (stream : Nat) (h : VaultHdr) : State :=
  let d := s.dev
  let serves := match d.prt.serving with
    | some x => decide (x.1 = (d.stream stream).partner)
    | none => false
  let n := min 4096 h.length
  if h.k = 0 ∧ h.shard = homeShard ∧ h.item < 0xC000 then
    if serves then
      let r := d.itemRange h.item h.step
      let m := min n (r.2.2 - h.offset)
      let x := s.loadAlloc Who.vault r.1 (r.2.1 + h.offset) m
      match x.1 with
      | none => { x.2 with dev := x.2.dev.vaultReply stream true (h.reply 9 3) [] }
      | some b => { x.2 with dev := x.2.dev.vaultReply stream true (h.reply 9 0) b.1 }
    else { s with dev := d.vaultReply stream true (h.reply 9 3) [] }
  else
    let slot := decide (h.k = 0 ∧ h.item < 0xC000)
    let code := if slot then slotCode h.shard else if 0xC000 ≤ h.item then 0 else h.shard
    let cand := d.prt.held.filter (fun (x : Held) => decide (x.src = h.source ∧ x.item = h.item ∧ x.shard = code) && x.whole &&
      (if slot && h.shard ≠ 0xC then decide (x.step = h.step) else decide (x.gen = h.gen) || (h.gen = 0 && decide (0xC000 ≤ h.item))))
    match cand.head? with
    | none => { s with dev := d.vaultReply stream true (h.reply 9 3) [] }
    | some x =>
      let r := s.heldLoad x h.offset n
      match r.1 with
      | none => { r.2 with dev := r.2.dev.vaultReply stream true (h.reply 9 3) [] }
      | some b => { r.2 with dev := r.2.dev.vaultReply stream true { h.reply 9 0 with gen := x.gen, step := x.step } b }

end Sys2Proof.Machine
end

