-- ==== Sys2Proof/Machine/Snapshot.lean ====
section
/-! DEFINITION. The risk score, vault snapshots and mirrors (R447 to R470). -/

namespace Sys2Proof.Machine

/-! ### The directory outside a run -/

/-- The ledger directory's allocation: the one of the last run, else the one that LDG.DIR_ALLOC names. -/
def Dev.dirNow (d : Dev) : Nat := if d.ldg.dir = 0xFFF then d.regFld .ldgDirAlloc 0 12 else d.ldg.dir

/-- The directory's STEP; 0 without a directory. -/
def State.stepNow (s : State) : Nat := if (s.dev.alloc s.dev.dirNow).valid then s.peek s.dev.dirNow 8 8 else 0

/-! ### The risk score (R452 to R454) -/

/-- Sum of a per-place count over the last 64 frames, at its largest place. -/
def largestSum (n : Nat) (f : RiskFrame → List Nat) (past : List RiskFrame) : Nat :=
  maxNat ((List.range n).map (fun i => sumNat (past.map (fun x => (f x).getD i 0))))

/-- The eight inputs x_i of Table 10.2. -/
def Dev.riskInputs (d : Dev) : List Nat :=
  let p := d.prt
  let margins := (d.lnk.lanes.filter (fun (x : Nat × Lane) => x.2.trained)).map (fun (x : Nat × Lane) => x.2.margin)
  let low := match margins with
    | [] => 30
    | m :: r => r.foldl min m
  [largestSum 12 RiskFrame.ce p.past, sumNat p.pastUe, largestSum 12 RiskFrame.fec p.past, largestSum 12 RiskFrame.retry p.past,
   30 - low, (10 - toSigned 8 (d.regFld .pwrTherm 16 8)).toNat, sumNat d.pwr.recent, p.age]

/-- term_i. -/
def riskTerm (x : Nat) (w : Nat × Nat) : Nat := min w.2 (x * w.1 / 16)

/-- A frame of counts ends. -/
def Prt.shiftRisk (p : Prt) : Prt :=
  { p with past := (p.now :: p.past).take 64, pastUe := (p.now.ue :: p.pastUe).take 4096, now := {} }

/-- Thresholds of the active charter. -/
def Dev.thresholds (d : Dev) : Option (Nat × Nat × Nat) := d.cht.active.map (fun c => (c.t1, c.t2, c.t3))

/-- The score of a tick, its flags and notices, and whether mirrors stream at every tick. R127 suppresses the actions only. -/
def Dev.riskTick (d : Dev) : Dev :=
  let d1 := { d with prt := d.prt.shiftRisk }
  let xs := d1.riskInputs
  let terms := (List.zip (List.range 8) (List.zip xs d1.prt.weights)).map (fun (y : Nat × (Nat × (Nat × Nat))) =>
    if y.1 = 7 && d1.prt.ageHeld then y.2.2.2 else riskTerm y.2.1 y.2.2)
  let score := min 1023 (sumNat terms)
  let reach := fun (f : Nat × Nat × Nat → Nat) => match d1.thresholds with
    | none => false
    | some t => decide (f t ≤ score)
  let t1 := reach (fun t => t.1)
  let t2 := reach (fun t => t.2.1)
  let t3 := reach (fun t => t.2.2)
  let d2 := { d1 with prt := { d1.prt with
    inputs := List.zip xs terms, score := score, t1 := t1, t2 := t2, t3 := t3, every := t2 && !d1.modeConfTest } }
  let note := fun (x : Dev) (now was : Bool) (code : Nat) => if now && !was then x.raise code 24 0 0 else x
  note (note (note d2 t1 d.prt.t1 0x8001) t2 d.prt.t2 0x8002) t3 d.prt.t3 0x8003

/-! ### Items (R447 to R451, R455, R467) -/

/-- The mirror partner of a protection group and whether it shares this chip's feed (R467). -/
def Dev.mirrorPartner (d : Dev) (g : Nat) : Option (Nat × Bool) :=
  let ps := (d.protGroup g).order.filter d.mirrors
  match ps.find? (fun p => (d.partner p).feed ≠ d.ownFeed) with
  | some p => some (p, false)
  | none => ps.head?.map (fun p => (p, true))

/-- A tensor of a protected class in a valid group. -/
def Dev.protectedTensor (d : Dev) (i : Nat) : Bool :=
  let t := d.tensor i
  [0, 4, 5, 6, 7].contains t.cls && t.prot ≠ 0 && (d.protGroup t.pgroup).valid

/-- The tensor's mirror partner is in this chip's feed. -/
def Dev.feedShared (d : Dev) (i : Nat) : Bool :=
  d.protectedTensor i && d.mirrored (d.tensor i) && (match d.mirrorPartner (d.tensor i).pgroup with
    | some p => p.2
    | none => false)

/-- Settle groups of the rewind set (R448): step t − 1 has been settled and not skipped. -/
def State.rewindGroups (s : State) : List GroupDesc :=
  match s.dev.ldg.record with
  | none => []
  | some e => if e.settled && decide (e.step + 1 = s.stepNow) then e.groups else []

/-- An item without its places. -/
structure ItemSpan where
  item : Nat
  alloc : Nat
  base : Nat
  size : Nat
  group : Nat
  deriving DecidableEq, Repr

/-- The item of a code at the chip's STEP. -/
def State.itemSpan (s : State) (item group : Nat) : ItemSpan :=
  let r := s.dev.itemRange item s.stepNow
  { item := item, alloc := r.1, base := r.2.1, size := r.2.2, group := group }

/-- The rewind set: escrow allocations, then ledger halves (R455). -/
def State.rewindItems (s : State) : List ItemSpan :=
  let gs := s.rewindGroups
  let grp := fun (g : GroupDesc) => (s.dev.tensor g.master).pgroup
  let esc := gs.foldl (fun l g => tput l g.escrow (grp g)) ([] : List (Nat × Nat))
  let half := gs.foldl (fun l g => tput l g.grad (grp g)) ([] : List (Nat × Nat))
  esc.map (fun x => s.itemSpan (0x8000 + x.1) x.2) ++ half.map (fun x => s.itemSpan (0x4000 + x.1) x.2)

/-- Home values that the rewind set replaces (R449): class 4 and 5 tensors that its groups name. -/
def State.rewindHomes (s : State) : List Nat := s.rewindGroups.flatMap GroupDesc.homes

/-- The items of a snapshot (R455), of valid groups. -/
def State.snapItems (s : State) : List ItemSpan :=
  let d := s.dev
  let homes := s.rewindHomes
  let ts := (List.range d.tensorCount).filter (fun i =>
    d.protectedTensor i && (decide (2 ≤ (d.tensor i).prot) || d.feedShared i) && !homes.contains i)
  ts.map (fun i => s.itemSpan i (d.tensor i).pgroup) ++ s.rewindItems.filter (fun x => (d.protGroup x.group).valid)

/-- Tensors of PROT 1, pinned at the mirror partner with a snapshot (R470). -/
def State.pinItems (s : State) : List (ItemSpan × Nat) :=
  (List.range s.dev.tensorCount).filterMap (fun i =>
    if s.dev.protectedTensor i && (s.dev.tensor i).prot = 1 then
      (s.dev.mirrorPartner (s.dev.tensor i).pgroup).map (fun p => (s.itemSpan i (s.dev.tensor i).pgroup, p.1))
    else none)

/-- The masters' step digest that goes with home values (R449): of the last settle list, or of every class 4 tensor. -/
def State.homeDigest (s : State) : Nat :=
  let gs := match s.dev.ldg.record with
    | some e => e.groups
    | none => []
  let all := (List.range s.dev.tensorCount).filter (fun i => (s.dev.tensor i).cls = 4)
  if gs.isEmpty then s.stepDigest (all.map (fun i => { groupDesc 0 with master := i })) else s.stepDigest gs

/-! ### Placement (R457, R458) -/

/-- Usable partners of a group in ORDER sequence. -/
def Dev.groupUsable (d : Dev) (g : Nat) : List Nat := (d.protGroup g).order.filter d.usable

/-- Partner of each shard. -/
def Dev.placement (d : Dev) (g : Nat) : List Nat :=
  let us := d.groupUsable g
  let k := (d.protGroup g).rsK
  let m := min us.length (k + 2)
  (List.range (k + 2)).map (fun j => us.getD (j % max 1 m) 0)

/-- The group takes part in a snapshot. -/
def Dev.qualifies (d : Dev) (g : Nat) : Bool :=
  let us := d.groupUsable g
  decide (3 ≤ us.length) && decide (3 ≤ (us.foldl (fun l p => sinsert l (d.partner p).feed) []).length)

/-- Home values of class 4 or 5, which go with their step digest (R449). -/
def Dev.homeItem (d : Dev) (item : Nat) : Bool :=
  decide (item < 0x4000) && ((d.tensor item).cls = 4 || (d.tensor item).cls = 5)

/-! ### The size of a bay (R471, PRT.GROUP.BAY) -/

/-- Bytes of the bay that this chip requires at a partner for a group (R471): two slots of its s shards of each item, slots A, B and P of
each tensor mirrored there, and the group's generation record. -/
def State.bayFor (s : State) (g p : Nat) : Nat :=
  let d := s.dev
  let k := (d.protGroup g).rsK
  let shards := ((d.placement g).filter (fun x => x = p)).length
  let items := s.snapItems.filter (fun x => x.group = g)
  let mir := if (d.mirrorPartner g).map Prod.fst = some p then
      (List.range d.tensorCount).filter (fun i => d.protectedTensor i && d.mirrored (d.tensor i) && (d.tensor i).pgroup = g)
    else []
  let sn := if d.usable p then sumNat (items.map (fun x => 2 * shards * (64 * shardGranules x.size k))) else 0
  sn + sumNat (mir.map (fun i => 3 * (d.alloc (d.tensor i).alloc).size)) +
    64 + 48 * (items.length + mir.length) + 32 * (items.filter (fun x => d.homeItem x.item)).length

/-- PRT.GROUP.BAY: the largest over the group's partners, in MiB. -/
def State.bayMiB (s : State) (g : Nat) : Nat :=
  min 65535 (maxNat ((s.dev.protGroup g).order.map (fun p => ceilDiv (s.bayFor g p) 1048576)))

/-- Claims for bays whose size has changed. -/
def State.claimBays (s : State) : State :=
  let d := s.dev
  let gs := d.protGroups
  let ps := gs.foldl (fun l g => (d.protGroup g).order.foldl (fun m p => if d.usable p then sinsert m p else m) l) []
  ps.foldl (fun (u : State) p =>
    let n := sumNat (gs.map (fun g => if (d.protGroup g).order.contains p then s.bayFor g p else 0))
    if (tget u.dev.prt.bays p).map Prod.fst = some n then u
    else
      let h : VaultHdr := { kind := 1, source := Config.fingerprint.toNat, step := s.stepNow }
      let e := { u.dev with prt := { u.dev.prt with bays := tput u.dev.prt.bays p (n, false) } }
      { u with dev := e.vaultQueue p 3 false h (leBytes 8 n) }) s

/-- A received GRANT for a bay. -/
def Dev.bayGranted (d : Dev) (p : Nat) (h : VaultHdr) : Dev :=
  { d with prt := { d.prt with bays := match tget d.prt.bays p with
      | some b => tput d.prt.bays p (b.1, decide (h.status = 0))
      | none => d.prt.bays } }

/-! ### Freezing -/

/-- Freeze blocks for an engine. -/
def Dev.freeze (d : Dev) (snap : Bool) (bs : List Nat) : Dev :=
  { d with prt := { d.prt with frozen := bs.foldl (fun f b =>
      tmod f b {} (fun (x : FrozenBlock) => if snap then { x with snap := true } else { x with mirror := true })) d.prt.frozen } }

/-- An engine has read blocks. -/
def Dev.thaw (d : Dev) (snap : Bool) (bs : List Nat) : Dev :=
  let p := { d.prt with frozen := d.prt.frozen.map (fun (f : Nat × FrozenBlock) =>
    if bs.contains f.1 then (f.1, if snap then { f.2 with snap := false } else { f.2 with mirror := false }) else f) }
  { d with prt := p.dropFreezes }

/-- The stack whose snapshot engine reads offset `o` of an allocation: the stack that holds it, or its stash die's paired stack (R361). -/
def Dev.engineStack (d : Dev) (a o : Nat) : Nat :=
  let e := d.alloc a
  if e.loc = 0 then d.placeOf e o else if e.loc = 1 then 3 * d.placeOf e o else 0

/-- Where an engine finds a byte of device memory: in its copy of a block that it froze, or in its place (R460). `some true` is the
snapshot's freeze, `some false` the mirrors', `none` memory as it stands. -/
def Dev.frozenAt (d : Dev) (engine : Option Bool) (a : Nat) : Nat :=
  match engine with
  | none => a
  | some snap => match (tget d.prt.frozen (a / 4096)).bind (fun (f : FrozenBlock) => if snap then f.snapCopy else f.mirrorCopy) with
    | none => a
    | some c => d.slotAddr c + a % 4096

/-- A snapshot engine reads bytes of an allocation, as frozen or as they stand: class 5, with the checks of R376 (captured in
MEM.ACCESS of its stack, R401) and the decoder's counts and faults. Poison does not travel in a vault message (log entry 69). -/
def State.engineRead (s : State) (a o n : Nat) (engine : Option Bool) : Option (List Byte) × State :=
  let k := s.dev.engineStack a o
  match s.dev.accessKind 5 a o n false with
  | some f => (none, { s with dev := s.dev.accessFault k 5 a f false (25 + k) o })
  | none =>
    let e := s.dev.alloc a
    let r := (granPieces o n).foldl (fun (acc : List Byte × State) p =>
      let q := acc.2.load (25 + k) a (s.dev.frozenAt engine (s.dev.translate e p.1)) p.2
      (acc.1 ++ q.1.1, q.2)) ([], s)
    (some r.1, r.2)

/-- No block of an item has been written since the freeze of its last complete copy (R462). -/
def Dev.untouched (d : Dev) (x : ItemSpan) : Bool :=
  let half := fun (h : Nat) => d.prt.touched.contains (2 * x.alloc + h)
  if 0x4000 ≤ x.item ∧ x.item < 0x8000 then !half (if x.base = 0 then 0 else 1) else !(half 0 || half 1)

/-- An item of a new snapshot: kept, or written into the other slot of its bay. -/
def State.newItem (s : State) (x : ItemSpan) : SnapItem :=
  let d := s.dev
  let places := d.placement x.group
  let old : Option (SnapItem × Nat) := match d.prt.complete with
    | none => none
    | some c => (c.items.find? (fun (y : SnapItem) => y.item = x.item && !y.pinned)).map (fun (y : SnapItem) => (y, y.kept.getD c.gen))
  let base : SnapItem :=
    { item := x.item, alloc := x.alloc, base := x.base, size := x.size, group := x.group, k := (d.protGroup x.group).rsK
      places := places, digest := shake256 (itemImage (d.protGroup x.group).rsK (s.peekBytes x.alloc x.base x.size)) }
  match old with
  | none => base
  | some y => if d.untouched x && y.1.places = places && y.1.size = x.size then { base with kept := some y.2, slot := y.1.slot }
      else { base with slot := 1 - y.1.slot }

/-- The snapshot freezes (R456): groups are judged, items frozen. Without a group that qualifies nothing freezes (DESIGN
CHOICE, log entry 52). -/
def State.freezeSnapshot (s : State) : State :=
  let d := s.dev
  let gs := d.protGroups
  let good := gs.filter d.qualifies
  let bad := gs.filter (fun g => !d.qualifies g)
  let d1 := bad.foldl (fun (x : Dev) _ => x.raise 0x8012 24 0 0) d
  let d2 := { d1 with prt := { d1.prt with
    skipped := bad, used := gs.map (fun g => (g, if good.contains g then min (d.groupUsable g).length ((d.protGroup g).rsK + 2) else 0)) } }
  if good.isEmpty then { s with dev := d2 }
  else
    let xs := ((s.snapItems.filter (fun x => good.contains x.group)).map s.newItem)
    let ps := (s.pinItems.filter (fun x => good.contains x.1.group)).map (fun x => ({
      item := x.1.item, alloc := x.1.alloc, base := 0, size := x.1.size, group := x.1.group, k := (d.protGroup x.1.group).rsK
      places := [x.2], pinned := true
      digest := shake256 (itemImage (d.protGroup x.1.group).rsK (s.peekBytes x.1.alloc 0 x.1.size)) } : SnapItem))
    let items := xs ++ ps
    let gen := if (d.prt.lastGen + 1) % 65536 = 0 then 1 else d.prt.lastGen + 1
    let home := some s.homeDigest
    let sent := items.filter (fun (y : SnapItem) => y.kept.isNone)
    let keys := items.flatMap (fun (y : SnapItem) => if 0x4000 ≤ y.item ∧ y.item < 0x8000 then [2 * y.alloc + (if y.base = 0 then 0 else 1)]
      else [2 * y.alloc, 2 * y.alloc + 1])
    let d3 := { d2 with prt := { d2.prt with
      snap := some { gen := gen, step := s.stepNow, frame := d.frm.frame, items := items, groups := good, home := home
                     before := d2.prt.touched }
      snapState := 1, lastGen := gen, armed := d2.prt.armed.filter (fun n => !(decide (n = 0) || decide (n = s.stepNow))), touched := d2.prt.touched.filter (fun k => !keys.contains k) } }
    { s with dev := sent.foldl (fun (x : Dev) y => x.freeze true (x.itemBlocks y.alloc y.base y.size)) d3 }

/-- A snapshot may freeze at this tick (R456). -/
def State.snapDue (s : State) : Bool :=
  let d := s.dev
  ((d.prt.t1 && decide (d.regFld .prtGap 0 16 ≤ d.prt.age)) || (match d.prt.armed with
    | none => false
    | some n => decide (n = 0) || decide (n = s.stepNow))) &&
  d.prt.snap.isNone && !d.modeConfTest && d.cht.active.isSome && d.cowPool.isSome &&
  (decide (d.ldg.state = .idle) || decide (d.ldg.state = .clearing))

/-! ### Shards (R459, R463) -/

/-- Chunks of 64 stripes in which an item's shards go out; the last is shorter than 64 and may be empty. -/
def SnapItem.chunks (x : SnapItem) : Nat := if x.pinned then ceilDiv x.size 4096 else shardGranules x.size x.k / 64 + 1

/-- Mark of a pinned slot's SEAL among an item's receipts. -/
def sealMark : Nat := 2 ^ 40

/-- Everything of the item has been sent. -/
def SnapItem.sent (x : SnapItem) : Bool := x.kept.isSome || decide (x.chunks + b2n x.pinned ≤ x.chunk)

/-- The item is safe at its places. -/
def SnapItem.safe (x : SnapItem) : Bool :=
  x.kept.isSome || (if x.pinned then x.receipts.contains sealMark else decide (x.k + 2 ≤ x.receipts.length))

/-- Partners that the snapshot uses, by group. -/
def Snapshot.partners (sn : Snapshot) : List (Nat × Nat) :=
  sn.items.foldl (fun l (x : SnapItem) => x.places.foldl (fun m p => if m.contains (x.group, p) then m else m ++ [(x.group, p)]) l) []

/-- The item's next message may go: a pinned slot's SEAL once every block of it has its receipt (R466), and what travels on CLASS 4 after
the program's own sends of the frame (R468). -/
def SnapItem.ready (d : Dev) (x : SnapItem) : Bool :=
  !x.pinned || (!d.canIssue && (decide (x.chunk < x.chunks) || (List.range x.chunks).all x.receipts.contains))

/-- The bytes of its allocation that an item's next message is made of: first byte and number. -/
def SnapItem.part (x : SnapItem) : Nat × Nat :=
  if x.pinned then (if x.chunk < x.chunks then (4096 * x.chunk, min 4096 (x.size - 4096 * x.chunk)) else (0, 0))
  else (x.base + 4096 * x.k * x.chunk, min (4096 * x.k) (x.size - 4096 * x.k * x.chunk))

/-- The next message of an item, made of the bytes `b` of its part: its partner and class, and the item after it. -/
def SnapItem.message (sn : Snapshot) (x : SnapItem) (b : List Byte) : Nat × Nat × List Byte × SnapItem :=
  let h : VaultHdr := { kind := 3, item := x.item, shard := x.shard, k := x.k, gen := sn.gen, step := sn.step
                        source := Config.fingerprint.toNat, offset := 4096 * x.chunk }
  if x.pinned then
    let p := x.places.headD 0
    if x.chunk < x.chunks then
      (p, 4, ({ h with kind := 4, shard := 0xC }).message b, { x with chunk := x.chunk + 1 })
    else (p, 4, ({ h with kind := 5, shard := 0xC, offset := x.size }).message [], { x with chunk := x.chunk + 1 })
  else
    let n := min 64 (shardGranules x.size x.k - 64 * x.chunk)
    (x.places.getD x.shard 0, 3, h.message (shardOf x.k x.shard n b),
      if x.shard + 1 < x.k + 2 then { x with shard := x.shard + 1 } else { x with shard := 0, chunk := x.chunk + 1 })

/-- Blocks that an item's engine needs no more: those that end below what is still to be sent. -/
def Dev.doneBlocks (d : Dev) (x : SnapItem) : List Nat :=
  let per := if x.pinned then 4096 else 4096 * x.k
  let stop := min x.size (per * x.chunk)
  let left := d.itemBlocks x.alloc (x.base + stop) (x.size - stop)
  (d.itemBlocks x.alloc x.base stop).filter (fun b => !left.contains b)

/-- The generation record of a group. -/
def Snapshot.record (sn : Snapshot) (d : Dev) (g : Nat) : List Byte :=
  let xs := sn.items.filter (fun (x : SnapItem) => x.group = g)
  leBytes 2 sn.gen ++ leBytes 1 g ++ leBytes 1 0 ++ leBytes 4 xs.length ++ leBytes 8 sn.step ++ leBytes 6 sn.frame ++ leBytes 42 0 ++
  xs.flatMap (fun x => ({
    item := x.item, slot := if x.pinned then 0xC else x.slot, k := x.k, gen := x.kept.getD sn.gen
    partner := if x.pinned then x.places.headD 0 else 0xFFFF, size := x.size, digest := x.digest % 2 ^ 256
    home := if d.homeItem x.item then sn.home else none } : RecordEntry).bytes)

/-- Parts of a record: the last is shorter than 4,096 bytes and may be empty. -/
def recordParts (b : List Byte) : List (Nat × List Byte) :=
  (List.range (b.length / 4096 + 1)).map (fun i => (4096 * i, (b.drop (4096 * i)).take 4096))

/-- Class on which a partner is told of records. -/
def Dev.recordClass (d : Dev) (p : Nat) : Nat := if (d.vaultStream p 3 false).isSome then 3 else 4

/-- The items of groups that took no part in a snapshot keep the copies of their previous generation (R458, R462). -/
def Snapshot.keeping (sn : Snapshot) (old : Option Snapshot) : Snapshot := match old with
  | none => sn
  | some c => { sn with items := sn.items ++
      ((c.items.filter (fun (x : SnapItem) => !x.pinned && !sn.groups.contains x.group)).map (fun (x : SnapItem) =>
        { x with kept := some (x.kept.getD c.gen) })) }

/-- The snapshot has completed (R463). -/
def Dev.snapComplete (d : Dev) (sn : Snapshot) : Dev :=
  let p := { d.prt with
    snap := none, snapState := 2, complete := some (sn.keeping d.prt.complete), age := 0, ageHeld := false
    frozen := d.prt.frozen.map (fun (f : Nat × FrozenBlock) => (f.1, { f.2 with snap := false })) }
  (({ d with prt := p.dropFreezes } : Dev).setPair .prtSnapStepLo .prtSnapStepHi sn.step).raise 0x8010 24 0 0

/-- Complete the snapshot once nothing is outstanding. -/
def Dev.snapSettle (d : Dev) : Dev :=
  match d.prt.snap with
  | none => d
  | some sn => if sn.recorded && sn.awaiting.isEmpty then d.snapComplete sn else d

/-- SHARD_SEND: the next message of the snapshot that is in progress; once every item is safe, the generation records. Under a stop
it pauses (R126). Where R376 refuses the engine's read, the snapshot is abandoned (DESIGN CHOICE, log entry 69). -/
def State.shardSend (s0 : State) : State :=
  let s := { s0 with dev := s0.dev.vaultFlush }
  match s.dev.prt.snap with
  | none => s
  | some sn =>
    if s.dev.flt.stop ≠ .running then s
    else match sn.items.findIdx? (fun (x : SnapItem) => !x.sent && x.ready s.dev) with
      | some i =>
        let x := sn.items.getD i { item := 0, alloc := 0, base := 0, size := 0, group := 0, k := 0, places := [] }
        let q := s.engineRead x.alloc x.part.1 x.part.2 (some true)
        match q.1 with
        | none => { q.2 with dev := q.2.dev.abandonSnapshot true }
        | some b =>
          let m := x.message sn b
          let r := q.2.dev.vaultSend m.1 m.2.1 false m.2.2.1
          if !r.1 then s
          else
            let y := m.2.2.2
            let d1 := { r.2 with prt := { r.2.prt with snap := some { sn with items := lmod sn.items i (fun _ => y) } } }
            { q.2 with dev := if y.chunk = x.chunk then d1 else d1.thaw true (d1.doneBlocks y) }
      | none =>
        if sn.recorded || !sn.items.all SnapItem.safe then s
        else
          let ps := sn.partners
          let d1 := { s.dev with prt := { s.dev.prt with snap := some { sn with recorded := true, awaiting := ps } } }
          let d2 := ps.foldl (fun (x : Dev) (gp : Nat × Nat) => (recordParts (sn.record d1 gp.1)).foldl (fun (y : Dev) part =>
            y.vaultQueue gp.2 (d1.recordClass gp.2) false
              { kind := 7, item := recordItem gp.1, k := (d1.protGroup gp.1).rsK, gen := sn.gen, step := sn.step, source := Config.fingerprint.toNat
                offset := part.1 } part.2) x) d1
          { s with dev := d2.vaultFlush.snapSettle }

/-! ### Mirrors (R465 to R469) -/

/-- Blocks of a tensor's allocation. -/
def Dev.tensorBlocks (d : Dev) (t : Nat) : Nat := ceilDiv (d.alloc (d.tensor t).alloc).size 4096

/-- Mirror units in step with the mirrored set and the partner table: a new unit, or one whose partner has changed, owes every
block. A unit whose generation is in progress stays as it is. 0x8014 and 0x8015 are raised when a tensor's choice first turns out so (DEDUCED, log entry 53). -/
def Dev.chooseMirrors (d : Dev) : Dev :=
  let ts := (List.range d.tensorCount).filter (fun i => d.protectedTensor i && d.mirrored (d.tensor i))
  let old := d.prt.mirrors
  let busy := old.filter MirrorItem.open_
  (ts.filter (fun t => !busy.any (fun (m : MirrorItem) => m.tensor = t))).foldl (fun (y : Dev) t =>
    match d.mirrorPartner (d.tensor t).pgroup with
    | none =>
      let z := { y with prt := { y.prt with noMirror := sinsert y.prt.noMirror t } }
      if d.prt.noMirror.contains t then z else z.raise 0x8015 24 0 0
    | some p =>
      let was := old.find? (fun (m : MirrorItem) => m.tensor = t)
      let same := match was with
        | some m => decide (m.partner = p.1)
        | none => false
      let unit : MirrorItem := match was with
        | some m => if same then { m with shared := p.2 } else { tensor := t, partner := p.1, shared := p.2 }
        | none => { tensor := t, partner := p.1, shared := p.2 }
      let a := (d.tensor t).alloc
      let dirty := if same then y.prt.dirty
        else (List.range (d.tensorBlocks t)).foldl (fun l b => tput l (2 ^ 28 * a + b) 7) y.prt.dirty
      let z := { y with prt := { y.prt with mirrors := y.prt.mirrors ++ [unit], dirty := dirty
                                            noMirror := y.prt.noMirror.filter (· ≠ t) } }
      let wasShared := match was with
        | some m => m.shared
        | none => false
      if p.2 && !wasShared then z.raise 0x8014 24 0 0 else z) { d with prt := { d.prt with mirrors := busy } }

/-- Blocks of a tensor that are dirty for a slot, ascending. -/
def Dev.dirtyFor (d : Dev) (t slot : Nat) : List Nat :=
  let a := (d.tensor t).alloc
  (d.prt.dirty.filter (fun x => decide (x.1 / 2 ^ 28 = a) && x.2.testBit slot)).map (fun x => x.1 % 2 ^ 28)

/-- Mirrors freeze and begin to stream (R465, R469), as at a commit. -/
def State.mirrorFreeze (s : State) : State :=
  let d := s.dev
  if d.modeConfTest || d.cowPool.isNone || d.cht.active.isNone then s
  else
    let d1 := (d.abandonMirror true).chooseMirrors
    if d1.prt.mirrors.isEmpty then { s with dev := d1 }
    else
      let ms := d1.prt.mirrors.map (fun (m : MirrorItem) =>
        { m with open_ := true, toSend := d1.dirtyFor m.tensor m.target, inFlight := [], sealSent := false })
      let d2 := { d1 with prt := { d1.prt with mirrors := ms, mirrorState := .streaming, mirrorStep := s.stepNow } }
      { s with dev := ms.foldl (fun (x : Dev) m =>
          let a := (d.tensor m.tensor).alloc
          m.toSend.foldl (fun (y : Dev) b => y.freeze false (y.itemBlocks a (4096 * b) (min 4096 ((y.alloc a).size - 4096 * b)))) x) d2 }

/-- The mirrors of a step that has been committed or skipped. -/
def State.mirrorCommit (s : State) : State :=
  if s.dev.prt.committed then
    ({ s with dev := { s.dev with prt := { s.dev.prt with committed := false } } } : State).mirrorFreeze
  else s

/-- From T2, at every other tick, what is dirty for the target slot goes out without a freeze (R465). A unit whose generation is in progress
waits for its SEAL: a later write's bytes do not belong to the step that its slot is sealed with (DEDUCED, log entry 196). -/
def Dev.mirrorEvery (d : Dev) : Dev :=
  if !d.prt.every then d
  else
    let d1 := d.chooseMirrors
    { d1 with prt := { d1.prt with mirrors := d1.prt.mirrors.map (fun (m : MirrorItem) =>
        if m.open_ then m else { m with toSend := (d1.dirtyFor m.tensor m.target).filter (fun b => !m.inFlight.contains b) }) } }

/-- Change the mirror unit of a tensor. -/
def Dev.modMirror (d : Dev) (t : Nat) (f : MirrorItem → MirrorItem) : Dev :=
  { d with prt := { d.prt with mirrors := d.prt.mirrors.map (fun (m : MirrorItem) => if m.tensor = t then f m else m) } }

/-- MIRROR_BLOCK_SEND (R466, R468): the next dirty block, or the SEAL once every block has its receipt, after the program's own sends of
the frame. Where R376 refuses the
engine's read, the mirror is abandoned (DESIGN CHOICE, log entry 69). -/
def State.mirrorBlockSend (s0 : State) : State :=
  let s := { s0 with dev := s0.dev.vaultFlush }
  let d := s.dev
  let hdr := fun (m : MirrorItem) (kind o : Nat) => ({ kind := kind, item := m.tensor, shard := 0xA + m.target
                                                       k := (d.protGroup (d.tensor m.tensor).pgroup).rsK, step := d.prt.mirrorStep
                                                       source := Config.fingerprint.toNat, offset := o } : VaultHdr)
  if d.canIssue then s
  else match d.prt.mirrors.find? (fun (m : MirrorItem) => !m.toSend.isEmpty) with
  | some m =>
    let a := (d.tensor m.tensor).alloc
    let b := m.toSend.headD 0
    let n := min 4096 ((d.alloc a).size - 4096 * b)
    let q := s.engineRead a (4096 * b) n (if m.open_ then some false else none)
    match q.1 with
    | none => { q.2 with dev := if m.open_ then q.2.dev.abandonMirror true (fun x => x.tensor = m.tensor) else q.2.dev.modMirror m.tensor (fun x => { x with toSend := [] }) }
    | some bytes =>
      let r := q.2.dev.vaultSend m.partner 4 false ((hdr m 4 (4096 * b)).message bytes)
      if !r.1 then s
      else
        let d1 := r.2.modMirror m.tensor (fun x => { x with toSend := x.toSend.drop 1, inFlight := sinsert x.inFlight b })
        { q.2 with dev := if m.open_ then d1.thaw false (d1.itemBlocks a (4096 * b) n) else d1 }
  | none =>
    match d.prt.mirrors.find? (fun (m : MirrorItem) => m.open_ && !m.sealSent && m.inFlight.isEmpty) with
    | none => s
    | some m =>
      let r := d.vaultSend m.partner 4 false ((hdr m 5 (d.alloc (d.tensor m.tensor).alloc).size).message [])
      if !r.1 then s else { s with dev := r.2.modMirror m.tensor (fun x => { x with sealSent := true }) }

/-- The receipt of a mirror slot: a block's clears its dirty bit, a SEAL's seals the mirror. -/
def Dev.mirrorReceipt (d : Dev) (p : Nat) (h : VaultHdr) : Dev :=
  let slot := h.shard - 0xA
  match d.prt.mirrors.find? (fun (m : MirrorItem) => decide (m.tensor = h.item ∧ m.partner = p)) with
  | none => d
  | some m =>
    let a := (d.tensor m.tensor).alloc
    let key := 2 ^ 28 * a + h.offset / 4096
    if h.offset < (d.alloc a).size then
      let v := tgetD d.prt.dirty key 0
      let w := if v.testBit slot then v - 2 ^ slot else v
      let d1 := { d with prt := { d.prt with dirty := if w = 0 then tdel d.prt.dirty key else tput d.prt.dirty key w } }
      d1.modMirror m.tensor (fun x => { x with inFlight := x.inFlight.filter (· ≠ h.offset / 4096) })
    else if m.open_ && m.sealSent && slot = m.target then
      let d1 := d.modMirror m.tensor (fun x => { x with open_ := false, sealedStep := some h.step, target := 1 - x.target })
      let d2 := { d1 with prt := { d1.prt with mirrorSealed := satAdd 16 d1.prt.mirrorSealed 1 } }
      if d2.prt.mirrors.any (fun (x : MirrorItem) => x.open_) then d2
      else { d2 with prt := { d2.prt with mirrorState := .sealed } }
    else d

/-! ### Receipts (R463, R466) -/

/-- The receipt of a shard, or of a pinned slot, of the snapshot in progress. -/
def Dev.itemReceipt (d : Dev) (p : Nat) (h : VaultHdr) (pinned : Bool) : Dev :=
  match d.prt.snap with
  | none => d
  | some sn =>
    if h.gen ≠ sn.gen then d
    else
      let d1 := { d with prt := { d.prt with snap := some { sn with items := sn.items.map (fun (x : SnapItem) =>
        if x.item ≠ h.item ∨ x.pinned ≠ pinned then x
        else if pinned then { x with receipts := sinsert x.receipts (if h.offset < x.size then h.offset / 4096 else sealMark) }
        else if x.places.getD h.shard 0xFF = p then { x with receipts := sinsert x.receipts h.shard } else x) } } }
      if pinned && decide (h.offset < (d.alloc (d.tensor h.item).alloc).size) then
        let key := 2 ^ 28 * (d.tensor h.item).alloc + h.offset / 4096
        let v := tgetD d.prt.dirty key 0
        let w := if v.testBit 2 then v - 4 else v
        { d1 with prt := { d1.prt with dirty := if w = 0 then tdel d1.prt.dirty key else tput d1.prt.dirty key w } }
      else d1

/-- The receipt of a generation record. -/
def Dev.recordReceipt (d : Dev) (p : Nat) (h : VaultHdr) : Dev :=
  match d.prt.snap with
  | none => d
  | some sn =>
    if h.gen ≠ sn.gen then d
    else ({ d with prt := { d.prt with snap := some { sn with
      awaiting := sn.awaiting.filter (fun x => x ≠ (h.item - 0xC000, p)) } } } : Dev).snapSettle

/-- A received RECEIPT from partner `p` on a stream of a class. -/
def Dev.receipt (d : Dev) (p cls : Nat) (h : VaultHdr) : Dev :=
  if h.status ≠ 0 then d
  else if 0xC000 ≤ h.item then d.recordReceipt p h
  else if cls = 4 then (if h.shard = 0xC then d.itemReceipt p h true else d.mirrorReceipt p h)
  else d.itemReceipt p h false

end Sys2Proof.Machine
end

