-- ==== Sys2Proof/Machine/HostIf.lean ====
section
/-! DEFINITION. Command rings and admission: which entries are well formed, which wait, the checks of Table 1.24 in order, and what
an admitted command starts (R26 to R36, R86, R527 to R537, R115, R257, R319, R386, R482). -/

namespace Sys2Proof.Machine

/-! ### Rings (R527 to R529) -/

/-- The ring's head entry is due: the ring is enabled and pending, and the entry's command of the previous lap has completed. -/
def Ring.due (r : Ring) : Bool := r.live && decide (r.head ≠ r.tail) && !r.open_.contains r.head

/-- The head entry as host memory holds it. -/
def State.headEntry (s : State) (i : Nat) : Entry :=
  BitVec.ofNat 1024 (leNat (s.host.read ((s.dev.ring i).cmdBase + 128 * (s.dev.ring i).head) 128))

/-- The head passes its entry, which belongs to a command from now on; the phase inverts after the last entry (R535). -/
def Dev.passHead (d : Dev) (i : Nat) : Dev :=
  d.modRing i (fun r =>
    let last := decide (r.head + 1 = 2 ^ r.n)
    { r with open_ := sinsert r.open_ r.head, head := if last then 0 else r.head + 1, phase := if last then !r.phase else r.phase })

/-- The command of a ring's head entry. -/
def Dev.cmdRef (d : Dev) (i : Nat) (e : Entry) : CmdRef :=
  let r := d.ring i
  { ring := i, index := r.head, opcode := e.opcode, irq := e.flags.testBit 0, tag := e.tag, admitted := d.frm.frame
    deadline := frameAfter d.frm.frame e.frames, phase := r.phase, comp := r.compBase }

/-- DOORBELL (R528): out of range or on a disabled ring it is ignored with notice 0xB004. -/
def Dev.doorbell (d : Dev) (i tail : Nat) : Dev :=
  let r := d.ring i
  if r.live && decide (tail < 2 ^ r.n) then d.modRing i (fun x => { x with tail := tail }) else d.raise 0xB004 37 i tail

/-- A write of RING_CFG of ring `i` takes effect (R527): at the tick at which ENABLE becomes 1, the ring's fields are sampled. A
LOG2_SIZE outside 4 to 12 counts as the nearer bound (DESIGN CHOICE, log entry 46), and a tail written before as 0 (DESIGN CHOICE, log entry
175). A ring that the write disables or enables has no RUN waiting (R532). -/
def Dev.ringConfig (d : Dev) (i v : Nat) : Dev :=
  let idle := !v.testBit 0 || !(d.ring i).enable
  let d0 := if idle then { d with hst := { d.hst with runWaiting := d.hst.runWaiting.filter (· ≠ i) } } else d
  d0.modRing i (fun r =>
    let x := { r with vector := nfld v 8 7, log2 := nfld v 4 4, enable := v.testBit 0 }
    if x.enable && !r.enable then
      { x with
        live := true, n := min 12 (max 4 x.log2), cmdBase := r.cmd, compBase := r.comp, head := 0, tail := 0, phase := true }
    else if !x.enable then { x with live := false } else x)

/-! ### Well-formed entries (R530) -/

/-- Bytes [lo, hi) of an entry are 0. -/
def Entry.clear (e : Entry) (lo hi : Nat) : Bool := decide (fld e (8 * lo) (8 * (hi - lo)) = 0)

/-- OPCODE, reserved fields and ranges of parameters (Tables 12.3, 12.4). -/
def Entry.wellFormed (e : Entry) : Bool :=
  e.clear 2 4 && decide (e.flags ≤ 1) &&
  (match e.opcode with
    | 1 => e.clear 28 32 && e.clear 96 128 && decide (1 ≤ e.steps) && decide (e.base < storeBundles) && decide (e.optab < storeBundles)
    | 2 => e.clear 28 32 && e.clear 38 128 && decide (e.addr % 64 = 0)
    | 3 =>
      e.clear 17 24 && decide (e.dir ≤ 2) &&
      (if e.dir = 2 then
        e.clear 24 40 && e.clear 42 44 && e.clear 56 128 && decide (e.copyAlloc < 4096) && decide (1 ≤ e.copyCount) && decide (e.copyIndex + e.copyCount ≤ storeBundles)
      else e.clear 40 128 && decide (e.hostAddr % 64 = 0))
    | 4 => e.clear 32 128 && decide (e.first < 4096) && decide (1 ≤ e.tallyCount) && decide (e.tallyCount ≤ 4096)
    | 5 => e.clear 25 128 && (e.decision = 1 || e.decision = 2)
    | 6 => e.clear 17 24 && e.clear 41 42 && e.clear 50 128 && decide (1 ≤ e.kind) && decide (e.kind ≤ 6) && decide (e.pgroup < 64) && decide (e.secBase < storeBundles)
    | 7 => e.clear 18 24 && e.clear 30 128 && decide (e.order < 64)
    | _ => false)

/-! ### Outcomes of examination (R30) -/

/-- What an admitted command takes from its checks. -/
structure Admit where
  /-- The scan of a run's program. -/
  scan : Scan := {}
  /-- The layout of a host copy. -/
  layout : Layout := layoutDesc 0
  /-- Committed end of a host copy. -/
  stop : Nat := 0

/-- What examination makes of an entry. -/
inductive Exam where
  /-- The entry stays at the head. -/
  | wait
  /-- Refused with a fault at notice severity; `create` is the operand-table index of a descriptor that failed its creation. -/
  | refuse (code : Nat) (create : Option Nat)
  | admitted (a : Admit)

/-- Outcome 2 (Table 1.3): run and load exclude each other and themselves; one securing request at a time. -/
def Dev.waits (d : Dev) (e : Entry) : Bool :=
  match e.opcode with
  | 1 => d.seq.run.isSome || d.cht.loader.isSome
  | 2 => d.seq.run.isSome || d.cht.loader.isSome
  | 6 => !d.prt.requests.isEmpty
  | _ => false

/-- Check 1 (R518). -/
def Dev.notRunning (d : Dev) : Bool := d.flt.stop ≠ .running || d.flt.halting.isSome

/-- Check 4 (R474, R482). -/
def Dev.rollback (d : Dev) : Bool :=
  d.prt.serving.isSome || 
    d.prt.states.any (fun (g : Nat × ProtState) => (d.protGroup g.1).valid && g.2 = .rollback)

/-- Check 5 (R357): a step is escrowed outside a run. -/
def Dev.escrowBusy (d : Dev) : Bool := d.ldg.state ≠ .idle && d.ldg.state ≠ .clearing

/-- Check 7 (R257). -/
def State.trackerOk (s : State) (a : Nat) : Bool :=
  let e := s.dev.alloc a
  let table := s.peek a 0 4 = 0x4B54524B && s.peek a 4 2 = 1
  let need := if table then s.peek a 32 8 + 2 * s.peek a 40 8 else 64
  e.valid && e.purpose = 0 && [0, 4, 7].all (fun c => e.mayRead c && e.mayWrite c) && decide (64 ≤ e.size) && decide (need ≤ e.size)

/-- The layout descriptor of a host copy, in host memory (R531). -/
def State.hostLayout (s : State) (e : Entry) : Layout := layoutDesc (BitVec.ofNat 1024 (leNat (s.host.read e.desc 128)))

/-- Creation of a host copy's descriptor (R386, R531): a descriptor that fails by itself, or one that is no destination. -/
def State.hostCreate (s : State) (e : Entry) : Option Nat :=
  let l := s.hostLayout e
  match s.dev.createLayout l true with
  | some c => some c
  | none => if l.econt ≠ 7 then some 0x6001 else if e.dir = 0 && !l.write then some 0x6006 else none

/-- Cost of a host copy of `n` granules or bundles (R33, Table 1.4, R532). -/
def hostCost (n : Nat) : Nat := 32 + 2 * n

/-- Fault checks in order: the first that fails. -/
def firstFault : List (Bool × Nat) → Option Nat
  | [] => none
  | (b, c) :: r => if b then some c else firstFault r

/-- A run's checks. -/
def State.examRun (s : State) (e : Entry) : Exam :=
  let d := s.dev
  let a := s.scan e.base e.optab e.loops
  let plain := firstFault [
    (d.notRunning, 0x1064), (decide (e.frames < e.steps * a.frames + 2), 0x1001), (d.cht.active.isNone, 0x105F), (d.rollback, 0x8024),
    (d.escrowBusy, 0x5019), (e.loops.any (· = 0), 0x1025),
    (!s.trackerOk (d.regFld .mntTrkAlloc 0 12), 0x4003), (!s.dirValid (d.regFld .ldgDirAlloc 0 12), 0x5003),
    (a.sends && !d.frm.aligned, 0x1008)]
  match plain with
  | some c => .refuse c none
  | none => match s.createRun e.optab a with
    | some f => .refuse f.1 (some f.2)
    | none => .admitted { scan := a }

/-- A load's checks. -/
def Dev.examLoad (d : Dev) (e : Entry) : Exam :=
  let m := d.loadFrames e.length
  match firstFault [
    (d.notRunning, 0x1064), (decide (e.frames < m), 0x1001),
    (e.effect ≠ 0 && (frameBefore e.effect (frameAfter d.frm.frame (m - 1)) || tickDue (frameAfter d.frm.frame e.frames) e.effect), 0x105E)] with
  | some c => .refuse c none
  | none => .admitted {}

/-- A copy's checks. -/
def State.examCopy (s : State) (e : Entry) : Exam :=
  let d := s.dev
  let stop := fun (n : Nat) => d.copyEnd hostEngine 0 (hostCost n)
  match firstFault [(d.notRunning, 0x1064), (decide (e.frames < 1), 0x1001)] with
  | some c => .refuse c none
  | none =>
    if e.dir = 2 then
      if d.seq.run.isSome || d.hst.runWaiting.any (fun i => (d.ring i).due) then .refuse 0xB007 none
      else if d.plannable < stop e.copyCount then .refuse 0x1002 none
      else .admitted { stop := stop e.copyCount }
    else match s.hostCreate e with
      | some c => .refuse c (some 0)
      | none =>
        let l := s.hostLayout e
        if d.plannable < stop l.count then .refuse 0x1002 none else .admitted { layout := l, stop := stop l.count }

/-- The outcomes of R30, with R567 between outcomes 2 and 3 (DEDUCED, log entry 47). -/
def State.examine (s : State) (e : Entry) : Exam :=
  let d := s.dev
  if !e.wellFormed then .refuse 0xB002 none
  else if d.waits e then .wait
  else if d.journalFull .host then .refuse 0xA021 none
  else match e.opcode with
    | 1 => s.examRun e
    | 2 => d.examLoad e
    | 3 => s.examCopy e
    | 6 => if e.frames < 2 then .refuse 0x1001 none else .admitted {}
    | _ => if e.frames < 1 then .refuse 0x1001 none else .admitted {}

/-! ### Refusal and admission -/

/-- Cycles that a command is charged (Table 14.5). -/
def Admit.cost (a : Admit) (e : Entry) : Nat :=
  if e.opcode = 3 then hostCost (if e.dir = 2 then e.copyCount else a.layout.count) else 0

/-- A refusal at admission, which FRM.ADM captures: one of Table 1.24, or of the stop check before it (R89). A malformed entry (0xB002) and
one that finds the journal without a slot (0xA021) are refused before admission. -/
def admissionCode (c : Nat) : Bool := decide (c ≠ 0xB002 ∧ c ≠ 0xA021)

/-- Cost and end of a copy that its frame cannot hold (check 13 of Table 1.24): what its trace record states. -/
def State.refusedCost (s : State) (e : Entry) (code : Nat) : Nat × Nat :=
  if code = 0x1002 ∧ e.opcode = 3 then
    let n := hostCost (if e.dir = 2 then e.copyCount else (s.hostLayout e).count)
    (n, s.dev.copyEnd hostEngine 0 n)
  else (0, 0)

/-- Where a refusal for a descriptor is recorded: a stream descriptor's with its stream's port (R445). -/
def State.refusedPlace (s : State) (e : Entry) (code : Nat) (create : Option Nat) : Nat × Nat :=
  match create with
  | some x =>
    if code = 0x7010 then
      let p := (s.dev.stream (nfld (s.descAt e.optab x 16) 0 12)).port
      (linkUnit p, linkWhere p 0)
    else (24, 0)
  | none => (24, 0)

/-- The head entry is refused: its fault at notice severity, its journal entry and its record (R28, R530, R537). LAY.CREATE latches
the checks of layout creation, 0x6001 to 0x6006, only (R386, Table 8.15). -/
def Dev.refuse (d : Dev) (i : Nat) (e : Entry) (code : Nat) (create : Option Nat) (cost : Nat × Nat := (0, 0))
    (place : Nat × Nat := (24, 0)) : Dev :=
  let c := d.cmdRef i e
  let d0 := match create with
    | some x => if code / 256 = 0x60 then d.latchCreate code x else d
    | none => d
  let r := match create with
    | some x => d0.raiseRecAs .notice code place.1 place.2 x
    | none => d0.raiseRecAs .notice code 37 i c.index
  let d1 := if admissionCode code then r.2.captureAdm code 0x7F else r.2
  let d2 := (d1.traceAdmit 37 0 2 code cost.1 cost.2 c.deadline).journalCmd c 2 code
  let d3 := d2.passHead i
  if e.opcode = 5 ∧ e.wellFormed then d3.finish { cmd := c, status := stRefused, step := e.step, fault := r.1 }
  else d3.complete c stRefused r.1

/-- The head entry is admitted. -/
def State.enter (s : State) (i : Nat) (e : Entry) (a : Admit) : CmdRef × State :=
  let c := s.dev.cmdRef i e
  let d := ((s.dev.traceAdmit 37 0 2 0 (a.cost e) a.stop c.deadline).journalCmd c 1 0).passHead i
  ({ s with dev := d } : State).openRecord c

/-! ### What admitted commands start -/

/-- RUN (R31, R47, R391): the sequencer takes the program; its first step begins at the next tick. -/
def State.startRun (s : State) (c : CmdRef) (e : Entry) (a : Scan) : State :=
  let d := s.dev
  let r : RunCmd :=
    { cmd := c, base := e.base, optab := e.optab, n := e.steps, loops := e.loops, s := a.frames, first := frameAfter d.frm.frame 1
      boxes := s.runBoxes e.optab a }
  { s with dev := ({ d with
      seq := { d.seq with run := some r, inStep := false, stepEnded := false, waiting := true }
      mnt := { d.mnt with table := d.regFld .mntTrkAlloc 0 12 }
      ldg := { d.ldg with dir := d.regFld .ldgDirAlloc 0 12 } } : Dev).streamsRun }

/-- Who moves a host copy (class 6), and who loads bundles (class 7). -/
def Who.hostCopy : Who := { inst := 0, cls := 6, unit := 37 }

/-- A granule of a copy into a ledger allocation: each of its entries is added as an L64 value (R312), once the access has passed
R376. -/
def State.hostAddGranule (s : State) (a o : Nat) (b : List Byte) : Bool × State :=
  let w := Who.hostCopy
  match s.dev.accessKind w.cls a o 64 true with
  | some k => (false, { s with dev := s.dev.accessFault w.inst w.cls a k true w.unit o })
  | none => (true, (List.range 8).foldl (fun (u : State) j =>
      u.hostAdd a (o + 8 * j) (l64Value (leNat ((b.drop (8 * j)).take 8)))) s)

/-- Move tuple `i` of a host copy; `false` once an access has failed. -/
def State.hostMove (s : State) (e : Entry) (l : Layout) (i : Nat) : Bool × State :=
  let x := l.elem (l.tuple i)
  if e.dir = 0 ∧ (s.dev.alloc l.alloc).purpose = 1 then s.hostAddGranule l.alloc (l.bitPos x / 8) (s.host.read (e.hostAddr + 64 * i) 64)
  else if e.dir = 0 then s.setElem Who.hostCopy l x (leNat (s.host.read (e.hostAddr + 64 * i) 64)) false
  else
    let r := s.elem Who.hostCopy l x
    match r.1 with
    | none => (false, r.2)
    | some v =>
      if v.2 then (false, r.2) else (true, { r.2 with host := r.2.host.write (e.hostAddr + 64 * i) (leBytes 64 v.1) })

/-- Move every tuple in ascending order until an access fails. -/
def State.hostTuples (s : State) (e : Entry) (l : Layout) : Bool × State :=
  (List.range l.count).foldl (fun (acc : Bool × State) i => if acc.1 then acc.2.hostMove e l i else acc) (true, s)

/-- The bytes that a host-to-device copy writes, as ranges of model addresses. -/
def Dev.hostRanges (d : Dev) (e : Entry) (l : Layout) : List (Nat × Nat) :=
  if e.dir = 0 then (List.range l.count).map (fun i => d.elemRange l (l.elem (l.tuple i))) else []

/-- COPY with DIR 2 (R532, R556): bundles from their allocation into the bundle store, after the signature where one is required. -/
def State.copyBundles (s : State) (e : Entry) (sigOk : Bool) : Bool × State :=
  let n := 64 * e.copyCount
  let r := s.loadAlloc Who.control e.copyAlloc (64 * e.copyOffset) n
  match r.1 with
  | none => (false, r.2)
  | some b =>
    if b.2 then (false, r.2)
    else if (s.dev.reg .secPolicy).testBit 0 then
      let q := r.2.loadAlloc Who.control e.copyAlloc (64 * e.copyOffset + n) sigBytes
      match q.1 with
      | none => (false, q.2)
      | some g =>
        if !g.2 && q.2.dev.blockOk g.1 (shake512 b.1) 2 sigOk then (true, q.2.storeRaw (storeAddr (64 * e.copyIndex)) b.1)
        else (false, { q.2 with dev := q.2.dev.raise 0xA010 24 0 0 })
    else (true, r.2.storeRaw (storeAddr (64 * e.copyIndex)) b.1)

/-- COPY (R531, R532, R536): the data move at admission; the command completes when the host copy engine reaches the copy's end.
`hostOk` is false when host memory fails or delivers poison. -/
def State.startCopy (s : State) (c : CmdRef) (e : Entry) (a : Admit) (hostOk sigOk : Bool) : State :=
  let s0 := { s with dev := s.dev.admitCopy hostEngine hostEngine a.stop }
  let ends := fun (ok : Bool) (r : Option FaultRec) (u : State) =>
    ({ u with dev := { u.dev with hst := { u.dev.hst with
      copies := u.dev.hst.copies ++ [{ cmd := c, status := if ok then stCompleted else stFailed, fault := r }] } } } : State)
  if e.dir ≠ 2 ∧ !hostOk then
    let r := s0.dev.raiseRecAs .notice 0xB003 37 c.ring c.index
    ends false r.1 { s0 with dev := r.2 }
  else
    let x := if e.dir = 2 then s0.copyBundles e sigOk else s0.hostTuples e a.layout
    let u := if e.dir = 2 then x.2 else s0.settleRace x.2 hostEngine (s0.dev.hostRanges e a.layout)
    ends x.1 (if x.1 then none else s0.dev.newFault x.2.dev) u

/-- The tracker table that holds the tally records: the one of the last run, else the one that MNT.TRK_ALLOC names. -/
def Dev.tallyTable (d : Dev) : Nat := if d.mnt.table = 0xFFF then d.regFld .mntTrkAlloc 0 12 else d.mnt.table

/-- Where tensor `t`'s tally record stands in the table whose header is `b` (R253), and whether the table has it. -/
def Dev.tallyPlace (d : Dev) (b : List Byte) (t : Nat) : Nat × Bool :=
  let off := leNat ((b.drop 48).take 8) + 304 * t
  (off, decide (leNat (b.take 4) = 0x4B54524B ∧ leNat ((b.drop 4).take 2) = 1 ∧ t < d.tensorCount ∧ off + 304 ≤ (d.alloc d.tallyTable).size))

/-- The table that holds the tally records can hold a header. -/
def Dev.tallyHeader (d : Dev) : Bool := (d.alloc d.tallyTable).valid && decide (64 ≤ (d.alloc d.tallyTable).size)

/-- The 304 bytes of a tensor's tally record (R253, R533): zeros where there is none. -/
def State.tallyRecord (s : State) (t : Nat) : List Byte :=
  let p := s.dev.tallyPlace (s.peekBytes s.dev.tallyTable 0 64) t
  if s.dev.tallyHeader && p.2 then s.peekBytes s.dev.tallyTable p.1 304 else List.replicate 304 0

/-- Where the directory holds the step record of the last step whose clearing completed, once the step has been committed: its allocation
and offset. -/
def State.lastStepPlace (s : State) : Option (Nat × Nat) :=
  match s.dev.ldg.record with
  | none => none
  | some e =>
    let a := s.dev.ldg.dir
    let o := s.peek a 56 4 + 64 * (e.step % 64)
    if s.dev.ldg.state = .idle && s.dirValid a && s.peek a o 8 = e.step && decide (e.step < s.peek a 8 8) then some (a, o) else none

/-- The step record of the last step whose clearing completed (R533): the directory's once the step has been committed. -/
def State.lastStepRecord (s : State) : List Byte :=
  match s.dev.ldg.record with
  | none => List.replicate 64 0
  | some e => match s.lastStepPlace with
    | some p => s.peekBytes p.1 p.2 64
    | none => e.recordBytes false

/-- READ_TALLIES reads a table as the control die, class 7, with the checks of R376 and what the decoder finds (R364, R367); `none` where the
access is refused or delivers poison. -/
def State.tableBytes (s : State) (a o n : Nat) : Option (List Byte) × State :=
  let r := s.loadAlloc Who.control a o n
  (match r.1 with
    | some b => if b.2 then none else some b.1
    | none => none, r.2)

/-- The tally records of a READ_TALLIES, in ascending tensor number: the table's header is read first, then each record that the table has. -/
def State.readTallies (s : State) (e : Entry) : Option (List Byte) × State :=
  let a := s.dev.tallyTable
  if !s.dev.tallyHeader then (some (List.replicate (304 * e.tallyCount) 0), s)
  else
    let h := s.tableBytes a 0 64
    match h.1 with
    | none => (none, h.2)
    | some b =>
      (List.range e.tallyCount).foldl (fun (acc : Option (List Byte) × State) i =>
        match acc.1 with
        | none => acc
        | some x =>
          let p := s.dev.tallyPlace b (e.first + i)
          if p.2 then
            let q := acc.2.tableBytes a p.1 304
            (q.1.map (x ++ ·), q.2)
          else (some (x ++ List.replicate 304 0), acc.2)) (some [], h.2)

/-- The step record of a READ_TALLIES. -/
def State.readLastStep (s : State) : Option (List Byte) × State :=
  match s.lastStepPlace with
  | some p => s.tableBytes p.1 p.2 64
  | none => (some s.lastStepRecord, s)

/-- READ_TALLIES (R533, R536). A table that the H1 may not read, or that is poisoned, fails the command with the access's fault. -/
def State.startTallies (s : State) (c : CmdRef) (e : Entry) (hostOk : Bool) : State :=
  if !hostOk then
    let r := s.dev.raiseRecAs .notice 0xB003 37 c.ring c.index
    { s with dev := r.2.complete c stFailed r.1 }
  else
    let x := s.readTallies e
    let y := match x.1 with
      | none => x
      | some b => let q := x.2.readLastStep; (q.1.map (b ++ ·), q.2)
    match y.1 with
    | none => { y.2 with dev := y.2.dev.complete c stFailed (s.dev.newFault y.2.dev) }
    | some b => { y.2 with host := y.2.host.write e.addr b, dev := y.2.dev.complete c stCompleted none }

/-- DECIDE (R351, R356): release or skip, or refused with 0x501A. -/
def State.startDecide (s : State) (c : CmdRef) (e : Entry) : State :=
  let ends := fun (u : State) (st : Nat) (r : Option FaultRec) =>
    ({ u with dev := u.dev.finish { cmd := c, status := st, step := e.step, fault := r } } : State)
  if s.dev.heldFor e.step then
    ends (if e.decision = 1 then { s with dev := s.dev.releaseHeld } else s.skipStep.mirrorCommit) stCompleted none
  else
    let r := s.dev.raiseRecAs .notice 0x501A 24 0 e.step
    ends { s with dev := r.2 } stRefused r.1

/-- SECURE (R486): the request acts at the next tick. -/
def Dev.startSecure (d : Dev) (c : CmdRef) (e : Entry) : Dev :=
  { d with prt := { d.prt with requests := d.prt.requests ++ [(c, e)] } }

/-- Start what has been admitted. -/
def State.start (s : State) (c : CmdRef) (e : Entry) (a : Admit) (hostOk sigOk : Bool) : State :=
  match e.opcode with
  | 1 => s.startRun c e a.scan
  | 2 => { s with dev := s.dev.loadBegin c e.addr e.length e.effect }
  | 3 => s.startCopy c e a hostOk sigOk
  | 4 => s.startTallies c e hostOk
  | 5 => s.startDecide c e
  | _ => { s with dev := s.dev.startSecure c e }

/-- Examine the entry at the head of ring `i` (R30). -/
def State.examineHead (s : State) (i : Nat) (e : Entry) (hostOk sigOk : Bool) : State :=
  let note := fun (u : Dev) (w : Bool) => ({ u with hst := { u.hst with
    runWaiting := if w then sinsert u.hst.runWaiting i else u.hst.runWaiting.filter (· ≠ i) } } : Dev)
  match s.examine e with
  | .wait => { s with dev := note s.dev (decide (e.opcode = 1)) }
  | .refuse code x => { s with dev := (note s.dev false).refuse i e code x (s.refusedCost e code) (s.refusedPlace e code x) }
  | .admitted a =>
    let r := ({ s with dev := note s.dev false } : State).enter i e a
    r.2.start r.1 e a hostOk sigOk

/-! ### Stop commands (R534) -/

/-- The order of a STOP entry. -/
def Dev.stopOrder (d : Dev) (c : CmdRef) (e : Entry) : Order :=
  { src := .host, bits := e.order, key := e.key, at_ := e.stopAt, arrival := d.frm.frame, cmd := some c, pos := d.arrived }

/-- Table 11.5 step 3: a stop command at the head of ring `i` becomes a host order; a malformed one, or one that finds the journal
without a slot, is refused. Its own journal entry is made with the order's (R537). -/
def Dev.takeStop (d : Dev) (i : Nat) (e : Entry) : Dev :=
  if !e.wellFormed then d.refuse i e 0xB002 none
  else if d.sec.unexported ≥ 65536 then d.refuse i e 0xA021 none
  else
    let c := d.cmdRef i e
    let d1 := d.passHead i
    { d1 with flt := { d1.flt with orders := d1.flt.orders ++ [d.stopOrder c e] } }

/-- A head entry that host memory does not deliver completes its command as failed (R536). -/
def Dev.headLost (d : Dev) (i : Nat) : Dev :=
  let c := d.cmdRef i 0
  let r := ({ d with hst := { d.hst with runWaiting := d.hst.runWaiting.filter (· ≠ i) } } : Dev).raiseRecAs .notice 0xB003 37 i c.index
  (r.2.passHead i).complete c stFailed r.1

/-- A ring command row: the entry is the head of its ring, examined at this tick. A STOP entry, or one of another command than the
row's, is not the row's. -/
def State.ringCommand (s : State) (i : Nat) (e : Entry) (mine hostOk sigOk : Bool) : State :=
  if (s.dev.ring i).due && mine then s.examineHead i e hostOk sigOk else s

end Sys2Proof.Machine
end

