-- ==== Sys2Proof/Machine/Refill.lean ====
section
/-! DEFINITION. Refill, restore, reconcile, the protection states and the securing requests (R473 to R486), and the dispatch of
received vault messages. -/

namespace Sys2Proof.Machine

/-! ### Protection states (R481, Tables 10.6 and 10.7) -/

/-- PRT.GROUP.STATE. -/
def ProtState.val : ProtState → Nat
  | .whole => 0
  | .degraded => 1
  | .refilling => 2
  | .doubly => 3
  | .rollback => 4

def Dev.protState (d : Dev) (g : Nat) : ProtState := tgetD d.prt.states g .whole

/-- A group's state changes: notice 0x8040 and a journal entry (KIND 6). With no journal slot free the change is refused (R567). -/
def Dev.setProt (d : Dev) (g : Nat) (s : ProtState) : Dev :=
  let old := d.protState g
  if old = s then d
  else if d.journalSpent then d.raise 0xA021 24 0 g
  else
    (({ d with prt := { d.prt with states := tput d.prt.states g s } } : Dev).raise 0x8040 24 0 0).journal 3 6
      false g 0 old.val s.val

/-- The state that the replicas lost and the refills running give a group. -/
def Dev.protBy (d : Dev) (g : Nat) : ProtState :=
  match (tgetD d.prt.lost g []).length with
  | 0 => .whole
  | 1 => if (tgetD d.prt.refills g []).any (fun f => (tgetD d.prt.lost g []).any (fun p => (d.partner p).fp = f)) then .refilling else .degraded
  | _ => .doubly

/-- A group moves to the state that its replicas give it, by the rows of Table 10.7: from whole it passes degraded; from degraded, RESTORED
leads on only through a refill. -/
def Dev.protMove (d : Dev) (g : Nat) : Dev :=
  match d.protState g, d.protBy g with
  | .rollback, _ => d
  | .whole, .refilling => (d.setProt g .degraded).setProt g .refilling
  | .whole, .doubly => (d.setProt g .degraded).setProt g .doubly
  | .degraded, .whole => if d.prt.begun.contains g then (d.setProt g .refilling).setProt g .whole else d
  | _, x => d.setProt g x

/-- Groups outside the rollback state follow their replicas. -/
def Dev.protFollow (d : Dev) : Dev := d.protGroups.foldl Dev.protMove d

/-- The chip enters the rollback state, at a tick. -/
def Dev.enterRollback (d : Dev) : Dev :=
  d.protGroups.foldl (fun (x : Dev) g => x.setProt g .rollback)
    { d with prt := { d.prt with ready := false, passed := false, rollDue := d.journalSpent } }

/-- Groups whose REPLICAS hold a chip. -/
def Dev.groupsOf (d : Dev) (fp : Nat) : List Nat :=
  d.protGroups.filter (fun g => (d.protGroup g).replicas.any (fun p => (d.partner p).fp = fp))

/-- A refill for a lost replica is known to run, or has ended. -/
def Dev.noteRefill (d : Dev) (fp : Nat) (running : Bool) : Dev :=
  (d.groupsOf fp).foldl (fun (x : Dev) g => { x with prt := { x.prt with refills := tmod x.prt.refills g [] (fun l =>
    if running then sinsert l fp else l.filter (· ≠ fp)) } }) d

/-! ### Refill (R473 to R480) -/

/-- First 32 bytes of the SHAKE256 digests of the charter's TENSORS and ALLOCATIONS sections (R474). -/
def Dev.sectionDigests (d : Dev) : List Byte := match d.cht.active with
  | none => leBytes 64 0
  | some c => leBytes 32 (shake256 (c.tensors.flatMap (wordBytes 16))) ++ leBytes 32 (shake256 (c.allocs.flatMap (wordBytes 32)))

/-- Header of a message of this chip. -/
def ownHdr (kind item : Nat) : VaultHdr := { kind := kind, item := item, source := Config.fingerprint.toNat }

/-- Ask the next partner in REPLICAS, other than F_lost, to serve the refill. Without one the refill has failed; `lost` says that a
source has been lost, which raises 0x8022 (R479). -/
def Dev.askSource (d : Dev) (lost : Bool) : Dev :=
  match d.prt.refill with
  | none => d
  | some r =>
    match (d.protGroup r.group).replicas.find? (fun p => !r.tried.contains p && decide ((d.partner p).fp ≠ r.fp) && d.usable p) with
    | none =>
      let x := { d with prt := { d.prt with refill := none, refillState := 4 } }
      if lost then x.raise 0x8022 24 0 0 else x
    | some p =>
      let x := { d with prt := { d.prt with refill := some { r with source := some p, accepted := false, asked := false, tried := r.tried ++ [p] } } }
      (x.vaultQueue p 3 true { ownHdr 10 (recordItem r.group) with source := r.fp, k := (d.protGroup r.group).rsK } d.sectionDigests).vaultFlush

/-- CLEAR_SUM and DIGEST of the record of a step. -/
def State.recordOf (s : State) (step : Nat) : Nat × Nat :=
  let a := s.dev.dirNow
  let o := s.peek a 56 4 + 64 * (step % 64)
  if (s.dev.alloc a).valid then (s.peek a (o + 24) 8, s.peek a (o + 32) 32) else (0, 0)

/-- A received REFILL_BEGIN: a request from a target carries its section digests, 64 bytes; the source tells the other members with
the target's fingerprint, 8 bytes (DESIGN CHOICE, log entry 50). -/
def State.refillBegin (s : State) (stream : Nat) (h : VaultHdr) (payload : List Byte) : State :=
  let d := s.dev
  let p := (d.stream stream).partner
  if payload.length = 8 then
    let d1 := { d with prt := { d.prt with announced := (leNat payload, h.source) :: d.prt.announced } }
    { s with dev := d1.noteRefill h.source true }
  else
    let free := match d.prt.serving with
      | none => true
      | some x => decide (x.1 = p)
    let ok := free && d.seq.run.isNone && decide (d.ldg.state = .idle) && d.cht.active.isSome && decide (payload = d.sectionDigests)
    if !ok then { s with dev := d.vaultReply stream true (h.reply 2 3) [] }
    else
      let t := s.stepNow
      let x := if t = 0 then (0, 0) else s.recordOf (t - 1)
      let items := s.rewindItems.map ItemSpan.item
      let homes := s.rewindHomes
      let body := leBytes 8 x.1 ++ leBytes 32 x.2 ++ leBytes 32 s.homeDigest ++ leBytes 2 items.length ++ items.flatMap (leBytes 2) ++ leBytes 2 homes.length ++
        homes.flatMap (leBytes 2)
      let d1 := { d with prt := { d.prt with serving := some (p, h.source), refillState := 2 } }
      let d2 := d1.vaultReply stream true { h.reply 2 0 with step := t } body
      let others := ((d2.groupsOf h.source).flatMap (fun g => (d2.protGroup g).replicas)).filter (fun q =>
        decide (q ≠ p) && decide ((d2.partner q).fp ≠ h.source) && d2.usable q)
      let d3 := (dedup [] others).foldl (fun (y : Dev) q =>
        y.vaultQueue q 3 true { ownHdr 10 h.item with source := h.source } (leBytes 8 (d.partner p).fp)) d2
      { s with dev := d3.vaultFlush.noteRefill h.source true }

/-- Blocks of an item of a refill. -/
def RefillItem.blocks (x : RefillItem) : Nat := ceilDiv x.size 4096

/-- Bits of the refill bitmap. -/
def RefillRun.bits (r : RefillRun) : Nat := sumNat (r.items.map RefillItem.blocks)

/-- PRT.REFILL_ALLOC. -/
def Dev.refillAlloc (d : Dev) : Nat := d.regFld .prtRefillAlloc 0 12

/-- The refill position: the lowest clear bit (R476). -/
def State.refillPos (s : State) (r : RefillRun) : Nat :=
  ((List.range r.bits).find? (fun i => !(s.peek s.dev.refillAlloc (i / 8) 1).testBit (i % 8))).getD r.bits

/-- The item and the block in it of a bit. -/
def refillAt : List RefillItem → Nat → Option (RefillItem × Nat)
  | [], _ => none
  | x :: r, i => if i < x.blocks then some (x, i) else refillAt r (i - x.blocks)

/-- Shard code under which an item is asked for: a mirror slot, or the source's memory. -/
def RefillItem.via (x : RefillItem) : Nat := (x.tries.head?.map Prod.snd).getD homeShard

/-- The items that a refill copies (R475): those of R455, then every other tensor of a protected class; the rewind set of the source
stands for the home values that it names. A tensor of PROT 1 or 3 is asked for at the usable partners of ORDER, slots A and B: only the one
that mirrored F_lost holds a generation sealed at the source's STEP. -/
def State.refillItems (s : State) (rewind homes : List Nat) (step : Nat) : List RefillItem :=
  let d := s.dev
  let tries := fun (i : Nat) =>
    let t := d.tensor i
    if t.prot = 1 || t.prot = 3 then (d.groupUsable t.pgroup).flatMap (fun p => [(p, 0xA), (p, 0xB)]) else []
  let ts := (List.range d.tensorCount).filter (fun i => [0, 4, 5, 6, 7].contains (d.tensor i).cls && !homes.contains i)
  let first := ts.filter (fun i => d.protectedTensor i && (decide (2 ≤ (d.tensor i).prot) || d.feedShared i))
  let item := fun (l : List (Nat × Nat)) (c : Nat) =>
    let r := d.itemRange c step
    ({ item := c, alloc := r.1, base := r.2.1, size := r.2.2, tries := l } : RefillItem)
  first.map (fun i => item (tries i) i) ++ rewind.map (item []) ++ (ts.filter (fun i => !first.contains i)).map (fun i => item (tries i) i)

/-- The refill is complete (R478): a RECONCILE request comes next. -/
def State.refillComplete (s : State) (r : RefillRun) : State :=
  let d := { s.dev with prt := { s.dev.prt with refill := none, refillState := 3, ready := true, restoredFor := some (r.fp, r.group) } }
  { s with dev := d.setPair .prtRefillPosLo .prtRefillPosHi r.bits }

/-- An item of a refill without the mirror slots whose partners can no longer be asked. -/
def RefillItem.live (d : Dev) (x : RefillItem) : RefillItem := { x with tries := x.tries.dropWhile (fun q => !d.usable q.1) }

/-- Ask for the block at the refill position, which PRT.REFILL_POS shows, or complete the refill. -/
def State.refillNext (s : State) : State :=
  match s.dev.prt.refill with
  | none => s
  | some r0 =>
    let pos := s.refillPos r0
    let r := { r0 with items := r0.items.map (RefillItem.live s.dev) }
    match refillAt r.items pos with
    | none => s.refillComplete r
    | some x =>
      let d := ({ s.dev with prt := { s.dev.prt with refill := some { r with asked := true } } } : Dev).setPair .prtRefillPosLo .prtRefillPosHi pos
      let p := (x.1.tries.head?.map Prod.fst).getD (r.source.getD 0)
      let step := match r.known with
        | some k => k.1
        | none => 0
      let h : VaultHdr := { kind := 8, item := x.1.item, shard := x.1.via, step := step, source := r.fp, offset := 4096 * x.2 }
      let n := min 4096 (x.1.size - 4096 * x.2)
      let m : VaultMsg := { partner := p, cls := 3, refill := true, bytes := { h with length := n }.bytes }
      { s with dev := ({ d with prt := { d.prt with outbox := d.prt.outbox ++ [m] } } : Dev).vaultFlush }

/-- The items hold home values, which go with their step digest (R449). -/
def Dev.homeCarried (d : Dev) (items : List Nat) : Bool := items.any d.homeItem

/-- A received GRANT that answers REFILL_BEGIN (R474, R479). -/
def State.refillGranted (s : State) (p : Nat) (h : VaultHdr) (payload : List Byte) : State :=
  match s.dev.prt.refill with
  | none => s
  | some r =>
    if r.restore || r.accepted || decide (r.source ≠ some p) then s
    else
      let src := (h.step, bytesAt payload 0 8, bytesAt payload 8 32)
      let again := r.known.isSome
      if h.status ≠ 0 ∨ (again ∧ r.known ≠ some src) then { s with dev := s.dev.askSource again }
      else
        let n := bytesAt payload 72 2
        let rewind := (List.range n).map (fun i => bytesAt payload (74 + 2 * i) 2)
        let homes := (List.range (bytesAt payload (74 + 2 * n) 2)).map (fun i => bytesAt payload (76 + 2 * n + 2 * i) 2)
        let items := if again then r.items else s.refillItems rewind homes h.step
        let r1 := { r with accepted := true, known := some src, items := items }
        let d1 := { s.dev with prt := { s.dev.prt with
          refill := some r1
          rewind := if again then s.dev.prt.rewind else !rewind.isEmpty
          homeDigest := if again then s.dev.prt.homeDigest else if s.dev.homeCarried (items.map RefillItem.item) then some (bytesAt payload 40 32) else none } }
        let s1 : State := { s with dev := if again then d1.raise 0x8021 24 0 0 else d1 }
        let s2 := if again then s1
          else (s1.storeAlloc Who.vault s1.dev.refillAlloc 0 (List.replicate (ceilDiv r1.bits 8) 0)).2
        s2.refillNext

/-- A block of a refill has arrived whole (R476), or is not held where it was asked for. -/
def State.refillData (s : State) (r : RefillRun) (h : VaultHdr) (payload : List Byte) : State :=
  let pos := s.refillPos r
  match refillAt r.items pos with
  | none => s
  | some x =>
    if !r.asked ∨ h.item ≠ x.1.item ∨ h.shard ≠ x.1.via ∨ h.offset ≠ 4096 * x.2 then s
    else if h.status ≠ 0 ∨ payload.length ≠ min 4096 (x.1.size - 4096 * x.2) then
      if x.1.via = homeShard then { s with dev := s.dev.askSource true }
      else
        let items := r.items.map (fun (y : RefillItem) => if y.item = x.1.item then { y with tries := y.tries.drop 1 } else y)
        ({ s with dev := { s.dev with prt := { s.dev.prt with refill := some { r with items := items, asked := false } } } } : State).refillNext
    else
      let w := s.storeAlloc Who.vault x.1.alloc (x.1.base + 4096 * x.2) payload
      if !w.1 then w.2
      else
        let a := w.2.dev.refillAlloc
        let v := w.2.peek a (pos / 8) 1
        let u := (w.2.storeAlloc Who.vault a (pos / 8) (leBytes 1 (v ||| 2 ^ (pos % 8)))).2
        ({ u with dev := { u.dev with prt := { u.dev.prt with refill := some { r with asked := false } } } } : State).refillNext

/-! ### Restore (R483) -/

/-- What a restore wants first is not to be had from the partner asked: the next partner is asked, and a shard that no partner holds is made
up for by a parity shard. -/
def RefillRun.miss (d : Dev) (r : RefillRun) : RefillRun :=
  match r.wants with
  | [] => r
  | w :: rest =>
    match w.tries.drop 1 with
    | [] =>
      let k := (d.protGroup w.group).rsK
      let more := [k, k + 1].filter (fun j => decide (w.size ≠ 0) && !w.pinned &&
        !(r.wants.any (fun x => decide (x.item = w.item ∧ x.shard = j) && !x.pinned)) &&
        !(r.shards.any (fun x => decide (x.1 = w.item ∧ x.2.1 = j))) && decide (w.shard < j))
      { r with wants := rest ++ (more.take 1).map (fun j => { w with shard := j, tries := d.groupUsable w.group, got := [] }) }
    | t => { r with wants := { w with tries := t, got := [] } :: rest }

/-- Pass over partners that cannot be asked any more, at most `n`. -/
def RefillRun.skip (d : Dev) : Nat → RefillRun → RefillRun
  | 0, r => r
  | n + 1, r => match r.wants with
    | [] => r
    | w :: _ => if w.tries.head?.any d.usable then r else RefillRun.skip d n (r.miss d)

/-- More than the misses that a restore can still have: its wants have two parity shards to follow each. -/
def RefillRun.missLimit (r : RefillRun) : Nat := sumNat (r.wants.map (fun w => w.tries.length + 1)) + 2 * 65 * r.wants.length

/-- Ask for the first thing a restore wants. -/
def Dev.askWant (d : Dev) (r : RefillRun) : Dev :=
  match r.wants with
  | [] => { d with prt := { d.prt with refill := some r } }
  | w :: _ =>
    let n := if w.size = 0 then 4096 else min 4096 (w.size - w.got.length)
    let k := if w.pinned then 0 else (d.protGroup w.group).rsK
    let h : VaultHdr := { kind := 8, item := w.item, shard := w.shard, k := k, gen := w.gen, source := r.fp, offset := w.got.length }
    let m : VaultMsg := { partner := w.tries.headD 0, cls := 3, refill := true, bytes := { h with length := n }.bytes }
    ({ d with prt := { d.prt with outbox := d.prt.outbox ++ [m], refill := some { r with asked := true } } } : Dev).vaultFlush

/-- Generation and entries of a record. -/
def recordGen (b : List Byte) : Nat := bytesAt b 0 2
def recordStep (b : List Byte) : Nat := bytesAt b 8 8
def recordList (b : List Byte) : List RecordEntry := recordEntries (bytesAt b 4 4) (b.drop 64)

/-- The highest generation, or the named one, that every group can supply. -/
def Dev.chooseGen (d : Dev) (r : RefillRun) : Option Nat :=
  let gensOf := fun (g : Nat) => (r.records.filter (fun x => x.2.1 = g)).map (fun x => recordGen x.2.2)
  let gs := d.protGroups
  let all := (r.records.map (fun x => recordGen x.2.2)).filter (fun n => gs.all (fun g => (gensOf g).contains n))
  if r.gen ≠ 0 then (if all.contains r.gen then some r.gen else none)
  else if all.isEmpty then none else some (maxNat all)

/-- Record of a group in the chosen generation. -/
def RefillRun.record (r : RefillRun) (g gen : Nat) : List Byte :=
  ((r.records.find? (fun x => decide (x.2.1 = g ∧ recordGen x.2.2 = gen))).map (fun x => x.2.2)).getD []

/-- What a restore of a generation fetches: data shards first, from their places, and slot P of the pinned tensors, from the partner that the
record names and then from the others of ORDER: a spare's partner table may number them otherwise (DEDUCED, log entry 197). -/
def Dev.restoreWants (d : Dev) (r : RefillRun) (gen : Nat) : List Want :=
  d.protGroups.flatMap (fun g =>
    let us := d.groupUsable g
    let m := max 1 (min us.length ((d.protGroup g).rsK + 2))
    (recordList (r.record g gen)).flatMap (fun e =>
      if e.slot = 0xC then [({ item := e.item, shard := 0xC, gen := e.gen, group := g, size := e.size, pinned := true
                               tries := us.filter (· = e.partner) ++ us.filter (· ≠ e.partner) } : Want)]
      else (List.range e.k).map (fun j =>
        ({ item := e.item, shard := j, gen := e.gen, group := g, size := 64 * shardGranules e.size e.k
           tries := us.drop (j % m) ++ us.take (j % m) } : Want))))

/-- What comes next in a restore: the next thing it wants; once the records have come in, the generation and its items. -/
def Dev.restoreStage (d : Dev) : Dev :=
  match d.prt.refill with
  | none => d
  | some r0 =>
    let r := r0.skip d r0.missLimit
    if !r.wants.isEmpty || r.chosen then d.askWant r
    else match d.chooseGen r with
      | none => d.askWant r
      | some gen =>
        let q := { r with gen := gen, chosen := true, wants := d.restoreWants r gen }
        d.askWant (q.skip d q.missLimit)

/-- An answer to what a restore has asked for. -/
def Dev.restoreData (d : Dev) (r : RefillRun) (h : VaultHdr) (payload : List Byte) : Dev :=
  match r.wants with
  | [] => d
  | w :: rest =>
    if !r.asked ∨ h.item ≠ w.item ∨ h.shard ≠ w.shard ∨ h.offset ≠ w.got.length then d
    else
      let go := fun (x : RefillRun) => ({ d with prt := { d.prt with refill := some { x with asked := false } } } : Dev).restoreStage
      let got := w.got ++ payload
      if h.status ≠ 0 ∨ (w.size ≠ 0 ∧ payload.isEmpty) then go (r.miss d)
      else if w.size = 0 then
        (if payload.length < 4096 then go { r with wants := rest, records := r.records ++ [(w.tries.headD 0, w.group, got)] }
          else go { r with wants := { w with got := got } :: rest })
      else if w.size ≤ got.length then go { r with wants := rest, shards := r.shards ++
        [(w.item, if w.pinned then slotCode 0xC else w.shard, got.take w.size)] }
      else go { r with wants := { w with got := got } :: rest }

/-- The image of an entry of the chosen generation: decoded, or slot P. -/
def RefillRun.image (r : RefillRun) (e : RecordEntry) : Option (List Byte) :=
  let sh := (r.shards.filter (fun x => x.1 = e.item)).map (fun x => x.2)
  match (if e.slot = 0xC then tget sh (slotCode 0xC) else decodeImage e.k e.size sh) with
  | none => none
  | some x => if shake256 (itemImage e.k x) % 2 ^ 256 = e.digest then some x else none

/-- Write an image over an item, 4,096 bytes at a time. -/
def State.putImage (s : State) (a base : Nat) (b : List Byte) : Bool × State :=
  (recordParts b).foldl (fun (acc : Bool × State) part =>
    if !acc.1 || part.2.isEmpty then acc else acc.2.storeAlloc Who.vault a (base + part.1) part.2) (true, s)

/-- A restore ends with 0x8032, and the state stays rollback (R483). -/
def Dev.restoreFails (d : Dev) : Dev := ({ d with prt := { d.prt with refill := none, refillState := 4 } } : Dev).raise 0x8032 24 0 0

/-- RESTORE_COMPLETE: every item is decoded and checked against its digest, and then written home, or the restore fails. -/
def State.restoreComplete (s : State) : State :=
  match s.dev.prt.refill with
  | none => s
  | some r =>
    if !r.restore || !r.wants.isEmpty then s
    else
      let es := if r.chosen then s.dev.protGroups.flatMap (fun g => (recordList (r.record g r.gen))) else []
      let step := match s.dev.protGroups with
        | [] => 0
        | g :: _ => recordStep (r.record g r.gen)
      if !(r.chosen && es.all (fun e => (r.image e).isSome)) then { s with dev := s.dev.restoreFails }
      else
        let x := es.foldl (fun (acc : Bool × State) e =>
          if !acc.1 then acc
          else
            let y := acc.2.dev.itemRange e.item step
            acc.2.putImage y.1 y.2.1 ((r.image e).getD [])) (true, s)
        let d := x.2.dev
        if x.1 then
          { x.2 with dev := { d with prt := { d.prt with
              refill := none, refillState := 3, ready := true, restoredFor := some (r.fp, 64)
              rewind := es.any (fun e => decide (0x4000 ≤ e.item)), homeDigest := es.findSome? RecordEntry.home } } }
        else { x.2 with dev := d.restoreFails }

/-! ### Reconcile (R484, R485) -/

/-- Parameters with which step t − 1 used a group: the bank that is not current, or A0, L0 and 1.0. -/
def State.replayParams (s : State) (g : GroupDesc) : OptParams :=
  let b := 1 - s.dirBank
  let o := s.gradOffDir g.grad
  let l := s.layerOffDir (let x := s.dev.groupLayer g; if x = s.dev.layerCount then 0xFFFF else x)
  let hist := (s.dir (o + 8) 1).testBit b
  let A := toSigned 16 (if hist then s.dir (o + 4 + 2 * b) 2 else s.dir (o + 2) 2)
  let p := if hist then (s.dir (o + 12 + 4 * b) 4, s.dir (o + 20 + 4 * b) 4) else (0x3F800000, 0x3F800000)
  groupParams g p A (toSigned 16 (if (s.dir (l + 6) 1).testBit b then s.dir (l + 2 + 2 * b) 2 else s.dir l 2))

/-- Settle entry `i` of a group again from its escrow image. -/
def State.replayOne (s : State) (g : GroupDesc) (p : OptParams) (step i : Nat) : State :=
  let d := s.dev
  let E := d.gradEntries g.grad
  let w := d.settleWho g i
  let v := s.settleRead w (d.tensor g.grad).alloc (step % 2 * E + i) 8
  let ws := (List.range g.homes.length).foldl (fun (acc : Option (List (Nat × Bool)) × State) k =>
    match acc.1 with
    | none => acc
    | some l =>
      let r := acc.2.settleRead w g.escrow (k * E + i) 4
      (r.1.map (fun x => l ++ [x]), r.2)) (some [], v.2)
  match v.1, ws.1 with
  | some x, some l =>
    let c := fun (k : Nat) => (l.getD k (0, false)).1
    let draw := if d.modeSrnd then some (settleRandom g.seed (g.master * 2 ^ 40 + i) step) else none
    let o := settleEntry p (l64Value x.1) (c 0) (c 1) (c 2) draw
    let bad := x.2 || l.any Prod.snd
    (List.zip g.homes [o.w.code, o.m.code, o.u2.code]).foldl (fun (u : State) (q : Nat × Nat) =>
      (u.settleWrite w (u.dev.tensor q.1).alloc i q.2 bad).2) ws.2
  | _, _ => ws.2

/-- The groups of a settle list of a program, with their backward copies. -/
def State.listAt (s : State) (base slist : Nat) : List GroupDesc × List CopyImage :=
  let run : RunCmd := { cmd := {}, base := base, optab := base, n := 1, loops := [], s := 1, first := 0 }
  let t : State := { s with dev := { s.dev with seq := { s.dev.seq with run := some run } } }
  (t.settleList slist, (t.settleList slist).filterMap (fun g => t.bcopyImage g.bcopy))

/-- Check 1's work: step t − 1 is settled again, the forward copies are minted and the backward copies run. -/
def State.replayStep (s : State) (gs : List GroupDesc) (cs : List CopyImage) (step : Nat) : State :=
  let s1 := gs.foldl (fun (u : State) g =>
    let p := u.replayParams g
    (List.range (u.dev.gradEntries g.grad)).foldl (fun (v : State) i => v.replayOne g p step i) u) s
  let s2 := gs.foldl (fun (u : State) g =>
    (List.range (ceilDiv (u.dev.gradEntries g.grad) 32)).foldl (fun (v : State) j => v.remintBlock g j) u) s1
  cs.foldl (fun (u : State) c => u.runImage c) s2

/-- CLEAR_SUM over half `h` (R327). -/
def State.halfSum (s : State) (h : Nat) : Nat :=
  wrap 64 (s.dev.gradTensors.foldl (fun (acc : Int) t =>
    (List.range (s.dev.gradEntries t)).foldl (fun a i => a + s.grad t h i) acc) 0)

/-- The directory and the tracker table that a reconcile reads. -/
def State.reconcileTables (s : State) : State :=
  let d := { s.dev with
    ldg := { s.dev.ldg with dir := s.dev.regFld .ldgDirAlloc 0 12 }
    mnt := { s.dev.mnt with table := s.dev.regFld .mntTrkAlloc 0 12 } }
  let u : State := { s with dev := d }
  { u with dev := { d with mnt := { d.mnt with bank := if u.trkListed then u.trkHdr.bank else 0, warmup := u.trkCold } } }

/-- Table 10.8: the check that fails, 0 for none, and the state after the work. -/
def State.reconcileChecks (s0 : State) (base slist : Nat) : Nat × State :=
  let a := s0.dev.regFld .ldgDirAlloc 0 12
  if !s0.dirValid a || !s0.trackerOk (s0.dev.regFld .mntTrkAlloc 0 12) then (5, s0)
  else
    let s := s0.reconcileTables
    let t := s.dirStep
    let o := s.dir 56 4 + 64 * ((t - 1) % 64)
    if t = 0 ∨ s.dir o 8 ≠ t - 1 then (5, s)
    else
      let skipped := (s.dir (o + 12) 4).testBit 12
      let replay := !skipped && s.dev.prt.rewind
      let l := s.listAt base slist
      let s1 := if replay then s.replayStep l.1 l.2 (t - 1) else s
      let loss := ({ s1 with dev := { s1.dev with ldg := { s1.dev.ldg with lossSum := toSigned 64 (s1.dir (o + 16) 8) } } } : State).stepLoss
      if replay ∧ s1.halfSum ((t - 1) % 2) ≠ s1.dir (o + 24) 8 then (1, s1)
      else if replay ∧ s1.stepDigest l.1 ≠ s1.dir (o + 32) 32 then (2, s1)
      else if loss ≠ s1.dir (o + 8) 4 then (3, s1)
      else match s1.dev.prt.homeDigest with
        | none => (0, s1)
        | some g => if s1.stepDigest l.1 = g then (0, s1) else (4, s1)

/-- Tell every partner in REPLICAS that a chip's state is restored: after a refill (R478), and after a restore those of every group, as its
replicas count it lost until then (R481; DEDUCED, log entry 174). -/
def Dev.sendRestored (d : Dev) : Dev :=
  match d.prt.restoredFor with
  | none => d
  | some x =>
    let gs := if x.2 = 64 then d.protGroups else [x.2]
    let ps := dedup [] ((gs.flatMap (fun g => (d.protGroup g).replicas)).filter d.usable)
    let e := ps.foldl (fun (y : Dev) p => y.vaultQueue p 3 true { ownHdr 11 0 with source := x.1 } []) d
    ({ e with prt := { e.prt with restoredFor := none } } : Dev).vaultFlush

/-- RECONCILE_RESULT (R485). The protection states follow at the next tick (R481). -/
def State.reconcileResult (s : State) : State :=
  match s.dev.prt.reconcile with
  | none => s
  | some r =>
    let x := s.reconcileChecks r.1 r.2
    let t := x.2.stepNow
    let d := { x.2.dev with prt := { x.2.dev.prt with
      reconcile := none, recon := if x.1 = 0 then 1 else 2, reconCheck := x.1, reconStep := t - 1 } }
    if x.1 = 0 then
      let d1 := ({ d with prt := { d.prt with ready := false }, ldg := { d.ldg with outOfDate := false } } : Dev).raise 0x8030 24 0 0
      { x.2 with dev := ({ d1 with prt := { d1.prt with passed := true } } : Dev).sendRestored }
    else
      let due := d.protGroups.any (fun g => decide (d.protState g ≠ .rollback))
      { x.2 with dev := ({ d with prt := { d.prt with rollDue := due } } : Dev).raise 0x8031 24 0 0 }

/-- A received RESTORED (R481): the replica counts as current again; the refill that this chip served has ended. -/
def Dev.restored (d : Dev) (p : Nat) (h : VaultHdr) : Dev :=
  let d1 := { d with prt := { d.prt with
    begun := (d.prt.refills.filter (fun (x : Nat × List Nat) => x.2.contains h.source)).foldl (fun l (x : Nat × List Nat) => sinsert l x.1) d.prt.begun
    lost := d.prt.lost.map (fun (x : Nat × List Nat) => (x.1, x.2.filter (fun q => decide ((d.partner q).fp ≠ h.source) && decide (q ≠ p))))
    refills := d.prt.refills.map (fun (x : Nat × List Nat) => (x.1, x.2.filter (· ≠ h.source)))
    announced := d.prt.announced.filter (fun (x : Nat × Nat) => x.2 ≠ h.source)
    stale := d.prt.stale.filter (fun q => decide ((d.partner q).fp ≠ h.source) && decide (q ≠ p)) } }
  let d2 := match d1.prt.serving with
    | none => d1
    | some x => if x.2 = h.source then { d1 with prt := { d1.prt with serving := none, refillState := 0 } } else d1
  d2

/-! ### Securing requests (R486) -/

/-- A refill runs on this chip as its target. -/
def Dev.refilling (d : Dev) : Bool := d.prt.refill.any (fun r => !r.restore)

/-- The request is refused (Table 10.9). -/
def State.secureRefused (s : State) (e : Entry) : Bool :=
  let d := s.dev
  let ra := d.alloc d.refillAlloc
  let free := d.seq.run.isSome || d.cht.active.isNone
  match e.kind with
  | 1 => d.prt.snap.isSome || d.prt.armed.isSome || d.modeConfTest
  | 2 => d.modeConfTest || decide (d.ldg.state ≠ .idle)
  | 3 => free || !(ra.valid && ra.purpose = 0 && ra.mayWrite 5) || d.refilling
  | 4 => free
  | 5 => d.seq.run.isSome || !d.prt.ready
  | _ => d.prt.armed.isNone && d.prt.snap.isNone && !d.refilling

/-- A securing request acts. -/
def State.secureAct (s : State) (e : Entry) : State :=
  let d := s.dev
  match e.kind with
  | 1 => { s with dev := { d with prt := { d.prt with armed := some e.secStep } } }
  | 2 => s.mirrorFreeze
  | 3 =>
    let x := { d with prt := { d.prt with refill := some { restore := false, fp := e.fp, group := e.pgroup }, refillState := 1 } }
    { s with dev := (x.setPair .prtRefillPosLo .prtRefillPosHi 0).enterRollback.askSource false }
  | 4 =>
    let wants := d.protGroups.flatMap (fun g => (d.groupUsable g).map (fun p =>
      ({ item := recordItem g, shard := 0, gen := e.gen, group := g, size := 0, tries := [p] } : Want)))
    let x := { d with prt := { d.prt with
      refill := some { restore := true, fp := e.fp, group := e.pgroup, gen := e.gen, wants := wants }, refillState := 1 } }
    { s with dev := x.enterRollback.restoreStage }
  | 5 => { s with dev := { d with prt := { d.prt with reconcile := some (e.secBase, e.slist) } } }
  | _ =>
    let x := { d with prt := { d.prt with armed := none } }.abandonSnapshot true
    { s with dev := if x.refilling then { x with prt := { x.prt with refill := none, refillState := 0 } } else x }

/-- A securing request at its tick: it starts, arms, or is refused with 0x8020. -/
def State.secure (s : State) (c : CmdRef) (e : Entry) : State :=
  if s.secureRefused e then
    let r := s.dev.raiseRec 0x8020 24 e.kind c.index
    { s with dev := r.2.complete c stRefused r.1 }
  else
    let u := s.secureAct e
    { u with dev := u.dev.complete c (if e.kind = 1 then stArmed else stStarted) none }

/-- The securing requests admitted at the last tick act. -/
def State.secureTick (s : State) : State :=
  s.dev.prt.requests.foldl (fun (u : State) r => u.secure r.1 r.2) { s with dev := { s.dev with prt := { s.dev.prt with requests := [] } } }

/-! ### Partners lost, and the tick of the protection block -/

/-- Partners in the lost state. -/
def Dev.lostPartners (d : Dev) : List Nat :=
  (d.lnk.partners.filter (fun (x : Nat × Partner) => x.2.state = .lost)).map Prod.fst

/-- A partner has entered the lost state (R453, R464, R479 to R481). -/
def Dev.partnerGone (d : Dev) (p : Nat) : Dev :=
  let fp := (d.partner p).fp
  let uses := fun (sn : Option Snapshot) => match sn with
    | none => false
    | some x => x.items.any (fun (y : SnapItem) => x.groups.contains y.group && y.places.contains p)
  let d1 := if uses d.prt.snap then d.abandonSnapshot true else d
  let d2 := if uses d1.prt.complete then ({ d1 with prt := { d1.prt with ageHeld := true } } : Dev).raise 0x8013 24 0 0 else d1
  let d3 := match d2.prt.refill with
    | none => d2
    | some r => if !r.restore && r.source = some p then d2.askSource true else d2
  let serves := match d3.prt.serving with
    | none => false
    | some x => decide (x.1 = p)
  let target := serves || d3.prt.announced.any (fun x => decide (x.1 = fp))
  let lostFps := (d3.prt.announced.filter (fun x => decide (x.1 = fp))).map Prod.snd ++ (match d3.prt.serving with
    | none => []
    | some x => if serves then [x.2] else [])
  let d4 := if target then
      let x := { d3 with prt := { d3.prt with
        serving := if serves then none else d3.prt.serving, refillState := if serves then 0 else d3.prt.refillState
        announced := d3.prt.announced.filter (fun y => decide (y.1 ≠ fp)) } }
      (lostFps.foldl (fun (y : Dev) f => y.noteRefill f false) x).raise 0x8023 24 0 0
    else d3
  d4.protGroups.foldl (fun (x : Dev) g =>
    if (x.protGroup g).replicas.contains p then { x with prt := { x.prt with lost := tmod x.prt.lost g [] (fun l => sinsert l p) } } else x) d4

/-- The partner asked for a block of a mirror, or for what a restore wants, has entered the lost state: the next one is asked. -/
def State.fetchLost (s : State) (p : Nat) : State :=
  match s.dev.prt.refill with
  | none => s
  | some r =>
    let again : State := { s with dev := { s.dev with prt := { s.dev.prt with refill := some { r with asked := false } } } }
    if !r.asked then s
    else if r.restore then
      (if (r.wants.head?.bind (fun w => w.tries.head?)) = some p then { again with dev := again.dev.restoreStage } else s)
    else if ((refillAt r.items (s.refillPos r)).bind (fun x => x.1.tries.head?)).map Prod.fst = some p then again.refillNext
    else s

/-- A reconcile has passed: whole, degraded or doubly degraded, by the replicas lost at this tick (Table 10.7). -/
def Dev.leaveRollback (d : Dev) : Dev :=
  if !d.prt.passed then d
  else d.protGroups.foldl (fun (y : Dev) g =>
    if y.protState g ≠ .rollback then y
    else y.setProt g (match y.protBy g with
      | .refilling => .degraded
      | p => p)) { d with prt := { d.prt with passed := d.journalSpent } }

/-- The protection block at a tick, after the links: partners lost, replicas out of date, the states, the risk score, and the freezes
that it or a commit calls for; `freed` are the fingerprints of partner entries that the tick has freed. -/
def State.protectTick (s : State) (freed : List Nat) : State :=
  let s1 := s.freeBays freed
  let d := s1.dev
  let now := d.lostPartners
  let d1 := (now.filter (fun p => !d.prt.gone.contains p)).foldl (fun (x : Dev) p => (x.partnerGone p).protFollow) d
  let d2 := { d1 with prt := { d1.prt with gone := now } }
  let d3 := d2.protGroups.foldl (fun (x : Dev) g =>
    ((x.protGroup g).replicas.filter (fun p => x.prt.stale.contains p)).foldl (fun (y : Dev) p =>
      ({ y with prt := { y.prt with lost := tmod y.prt.lost g [] (fun m => sinsert m p) } } : Dev).protFollow) x) d2
  let d4 := if d3.prt.rollDue || (d3.ldg.outOfDate && d3.protGroups.any (fun g => d3.protState g ≠ .rollback)) then d3.enterRollback
    else d3.leaveRollback
  let d5 := d4.protFollow
  let fetch := (now.filter (fun p => !d.prt.gone.contains p)).foldl State.fetchLost
    { s1 with dev := { d5 with prt := { d5.prt with begun := [] } } }
  let s2 : State := { fetch with dev := fetch.dev.riskTick }
  let s3 := if s2.snapDue then s2.freezeSnapshot else s2
  let s4 := if s3.dev.prt.committed then s3.mirrorCommit else { s3 with dev := s3.dev.mirrorEvery }
  let s5 := s4.claimBays
  { s5 with dev := s5.dev.vaultFlush }

/-- What a halt-now does to protection (R126, R514); the rollback state is entered at the next tick (R481, Table 10.7). -/
def Dev.protectHalt (d : Dev) : Dev :=
  let x := (d.abandonSnapshot false).abandonMirror false
  if x.ldg.state = .settling then { x with prt := { x.prt with rollDue := true } } else x

/-! ### Received vault messages (R472) -/

/-- A vault message on a stream: KIND, and whether it is well formed. -/
def Dev.vaultOk (d : Dev) (stream : Nat) (h : VaultHdr) (payload : List Byte) : Bool :=
  let e := d.stream stream
  d.frm.aligned && e.valid && e.recv && (e.cls = 3 || e.cls = 4) && h.reserved = 0 && decide (h.length ≤ 4096) &&
  (h.kind = 8 || decide (payload.length = h.length))

/-- GRANT (R471, R474). -/
def State.vaultGrant (s : State) (stream : Nat) (h : VaultHdr) (payload : List Byte) : State :=
  let p := (s.dev.stream stream).partner
  if 0xC000 ≤ h.item then s.refillGranted p h payload else { s with dev := s.dev.bayGranted p h }

/-- FETCH_DATA (R476, R483). -/
def State.vaultData (s : State) (h : VaultHdr) (payload : List Byte) : State :=
  match s.dev.prt.refill with
  | none => s
  | some r => if r.restore then { s with dev := s.dev.restoreData r h payload } else s.refillData r h payload

/-- A received vault message acts by its KIND; a malformed one, or one of a reserved KIND, is discarded (DESIGN CHOICE, log entry 50). -/
def State.vaultMessage (s : State) (stream : Nat) (h : VaultHdr) (payload : List Byte) : State :=
  if !s.dev.vaultOk stream h payload then s
  else
    let e := s.dev.stream stream
    match h.kind with
    | 1 => s.bayClaim stream h payload
    | 2 => s.vaultGrant stream h payload
    | 3 => s.landShard stream h payload
    | 4 => s.landMirror stream h payload
    | 5 => { s with dev := s.dev.landSeal stream h }
    | 6 => { s with dev := s.dev.receipt e.partner e.cls h }
    | 7 => s.landRecord stream h payload
    | 8 => s.fetch stream h
    | 9 => s.vaultData h payload
    | 10 => s.refillBegin stream h payload
    | 11 => { s with dev := s.dev.restored e.partner h }
    | _ => s

/-- The bytes of a message that has arrived on a vault stream. -/
def State.vaultArrival (s : State) (stream : Nat) (b : List Byte) : State :=
  s.vaultMessage stream (vaultHdr (BitVec.ofNat 512 (leNat (b.take 64)))) (b.drop 64)

/-- A message of one KIND. -/
def State.vaultKind (s : State) (kind stream : Nat) (hdr : BitVec 512) (payload : List Byte) : State :=
  if (vaultHdr hdr).kind = kind then s.vaultMessage stream (vaultHdr hdr) payload else s

end Sys2Proof.Machine
end

