-- ==== Sys2Proof/Machine/Arrivals.lean ====
section
/-! DEFINITION. Where complete messages go, and the commands of the links (R413 to R445, R29, R321, R325, R472). -/

namespace Sys2Proof.Machine

/-! ### Delivery -/

/-- A complete message that is not held goes to its class (Table 2.4): a landing slot, the clearing engine's inbox, the escrow protocol, or
the vault engine. -/
def State.deliver (s : State) (a : Arrival) : State :=
  match (s.dev.stream a.stream).cls with
  | 0 => s.landMessage a
  | 1 =>
    let d := s.dev.modStream a.stream (fun x => { x with inbox := x.inbox ++ [(a.frame, a.bytes)] })
    { s with dev := d.traceStream a.stream 2 a.mseq a.bytes.length a.frame }
  | 2 =>
    let d := s.dev.traceStream a.stream 2 a.mseq a.bytes.length a.frame
    { s with dev := d.reportReceived a.stream (BitVec.ofNat 256 (leNat (a.bytes.take 32))) }
  | _ => ({ s with dev := s.dev.traceStream a.stream 2 a.mseq a.bytes.length a.frame } : State).vaultArrival a.stream a.bytes

/-- Deliver messages in order. -/
def State.deliverAll (s : State) (as : List Arrival) : State := as.foldl State.deliver s

/-- Land what the landing buffer held because of a stop, once the chip has resumed (R508). -/
def State.releaseLanding (s : State) : State :=
  (s.dev.lnk.streams.map Prod.fst).foldl (fun (u : State) i =>
    let r := u.dev.releaseMessages i
    ({ u with dev := r.2 } : State).deliverAll r.1) s

/-- FLIT_RECEIVE: the flit at its link, and the messages that it completes. A codeword that the decoder cannot correct, or a flit whose
CRC fails, is dropped (R407). -/
def State.flitReceive (s : State) (port lane : Nat) (decoded : Bool) (symbols hdr : Nat) (body : List Byte) : State :=
  let payload := body.take 624
  let crc := leNat (body.drop 624)
  let r := s.dev.flitReceive port lane (decoded && decide (crc = crc32c (leBytes 12 hdr ++ payload))) symbols hdr payload
  ({ s with dev := r.2 } : State).deliverAll r.1

/-! ### The commands -/

/-- FLIT_RECEIVE (R414). -/
def execFlitReceive (port : Fin 12) (lane : Fin 8) (decoded : Bool) (symbols : Nat) (hdr : BitVec 96) (body : List Byte) (s : State) :
    Host.Outcome State Fault Refusal :=
  .next (s.flitReceive port.val lane.val decoded symbols hdr.toNat body)

/-- ACK_TIMEOUT_RESEND (R415). -/
def execAckTimeoutResend (port : Fin 12) (fseq : BitVec 16) (s : State) : Host.Outcome State Fault Refusal :=
  .next { s with dev := s.dev.ackTimeoutResend port.val fseq.toNat }

/-- MESSAGE_DEADLINE_DISCARD (R29). -/
def execMessageDeadlineDiscard (port : Fin 12) (s : State) : Host.Outcome State Fault Refusal :=
  .next { s with dev := s.dev.messageDeadlineDiscard port.val }

/-- LANE_TRAINED (R417). -/
def execLaneTrained (port : Fin 12) (lane : Fin 8) (peer : Fingerprint) (peerPort : BitVec 4) (s : State) :
    Host.Outcome State Fault Refusal :=
  .next { s with dev := s.dev.laneTrained port.val lane.val peer.toNat peerPort.toNat }

/-- LANE_TRAIN_TIMEOUT (R417). -/
def execLaneTrainTimeout (port : Fin 12) (lane : Fin 8) (s : State) : Host.Outcome State Fault Refusal :=
  .next { s with dev := s.dev.laneTrainTimeout port.val lane.val }

/-- CONTROL_FLIT_MISSED (R418). -/
def execControlFlitMissed (port : Fin 12) (lane : Fin 8) (s : State) : Host.Outcome State Fault Refusal :=
  .next { s with dev := s.dev.controlFlitMissed port.val lane.val }

/-- CODEWORD_LOCK_LOSS (R418). -/
def execCodewordLockLoss (port : Fin 12) (lane : Fin 8) (s : State) : Host.Outcome State Fault Refusal :=
  .next { s with dev := s.dev.codewordLockLoss port.val lane.val }

/-- HAIL_SEND (R429). -/
def execHailSend (port : Fin 12) (s : State) : Host.Outcome State Fault Refusal :=
  .next { s with dev := s.dev.hailSend port.val }

/-- HAIL (R430). -/
def execHail (port : Fin 12) (body : List Byte) (certOk sigOk : Bool) (s : State) : Host.Outcome State Fault Refusal :=
  .next { s with dev := s.dev.hail port.val body certOk sigOk }

/-- UPDATE_HAIL (R430). -/
def execUpdateHail (port : Fin 12) (body : List Byte) (certOk sigOk : Bool) (s : State) : Host.Outcome State Fault Refusal :=
  .next { s with dev := s.dev.updateHail port.val body certOk sigOk }

/-- FAREWELL (R436). -/
def execFarewell (port : Fin 12) (body : List Byte) (certOk sigOk : Bool) (s : State) : Host.Outcome State Fault Refusal :=
  .next { s with dev := s.dev.farewell port.val body certOk sigOk }

/-- FEED_A_LOSS (R406). -/
def execFeedALoss (die : Fin 4) (s : State) : Host.Outcome State Fault Refusal :=
  .next { s with dev := s.dev.feedALoss die.val }

/-- FEED_B_LOSS (R406). -/
def execFeedBLoss (die : Fin 4) (s : State) : Host.Outcome State Fault Refusal :=
  .next { s with dev := s.dev.feedBLoss die.val }

/-- BOTH_FEEDS_LOST (R406). -/
def execBothFeedsLost (die : Fin 4) (s : State) : Host.Outcome State Fault Refusal :=
  .next { s with dev := s.dev.bothFeedsLost die.val }

/-- FEED_RETURN (R406). -/
def execFeedReturn (die : Fin 4) (feed : Fin 2) (s : State) : Host.Outcome State Fault Refusal :=
  .next { s with dev := s.dev.feedReturn die.val feed.val }

/-- RECEIVE_MARGIN_LOW (R445). -/
def execReceiveMarginLow (port : Fin 12) (lane : Fin 8) (s : State) : Host.Outcome State Fault Refusal :=
  .next { s with dev := s.dev.receiveMarginLow port.val lane.val }

end Sys2Proof.Machine
end

