-- ==== Sys2Proof/Machine/HostMem.lean ====
section
/-! DEFINITION. CXL.mem: the HDM decoders, host reads and writes of device memory with their checks, snoops, the scrubbers and the write-back
of corrected granules (R364 to R369, R378, R379, R522 to R524). -/

namespace Sys2Proof.Machine

/-! ### HDM decoders (R524) -/

/-- The device physical address of a host address. -/
def Hst.decode (h : Hst) (a : Nat) : Option Nat :=
  let one := fun (x : Option Hdm) => match x with
    | none => none
    | some m => if m.base ≤ a ∧ a < m.base + m.size then some (m.start + (a - m.base)) else none
  (one h.hdm0).orElse (fun _ => one h.hdm1)

/-- Where the range of decoder `i` starts. -/
def Hst.rangeStart (h : Hst) (i skip_ : Nat) : Nat :=
  if i = 0 then skip_
  else match h.hdm0 with
    | none => skip_
    | some m => m.start + m.size + skip_

/-- Commit decoder `i`: base and size in units of 256 MiB, DPA skip in bytes. -/
def Dev.hdmCommit (d : Dev) (i base size skip_ : Nat) : Dev :=
  let start := d.hst.rangeStart i skip_
  let ok := decide (start + 0x10000000 * size ≤ dpaEnd)
  let m : Option Hdm := if ok then some { base := 0x10000000 * base, size := 0x10000000 * size, start := start } else none
  ({ d with hst := if i = 0 then { d.hst with hdm0 := m } else { d.hst with hdm1 := m } } : Dev).emit (.commit ok)

/-! ### The allocation behind a device physical address (R373, R378) -/

/-- The offset of allocation `e` whose translation is device physical address `p`. -/
def Dev.offsetAt (d : Dev) (e : AllocEntry) (p : Nat) : Option Nat :=
  let k := p / 0xC00000000
  let l := p % 0xC00000000
  let ps := e.placeList
  let lo := 4096 * e.base
  match ps.idxOf? k with
  | none => none
  | some j =>
    if e.valid && decide (e.loc = 0) && decide (lo ≤ l) && decide (l < lo + d.share e) then
      let o := ((l - lo) / e.unit * ps.length + j) * e.unit + (l - lo) % e.unit
      if o < e.size then some o else none
    else none

/-- The stack allocation that holds a device physical address, and the offset. -/
def Dev.allocAt (d : Dev) (p : Nat) : Option (Nat × Nat) :=
  match d.cht.active with
  | none => none
  | some c => (List.range c.allocs.length).findSome? (fun a => (d.offsetAt (d.alloc a) p).map (fun o => (a, o)))

/-- The allocation and offset of a granule that the host may reach. An address that no decoder maps lies in no allocation (DESIGN CHOICE, log
entry 15). -/
def Dev.hostTarget (d : Dev) (haddr : Nat) (write : Bool) : Option (Nat × Nat) :=
  match d.hst.decode (haddr / 64 * 64) with
  | none => none
  | some p => match d.allocAt p with
    | none => none
    | some x => if (if write then (d.alloc x.1).mayWrite 6 else (d.alloc x.1).mayRead 6) then some x else none

/-- Fault 0x6030, at notice severity. -/
def Dev.hostDenied (d : Dev) (haddr : Nat) : Dev := d.raiseAs .notice 0x6030 37 0 (haddr / 64 * 64)

/-- `errs` symbols of a granule's codeword are found in error. A zero mark and stored poison have no codeword to correct. -/
def Dev.upset (d : Dev) (g errs : Nat) : Dev :=
  if errs = 0 ∨ d.stk.zero.contains (g / 64) ∨ d.stk.poison.contains g then d
  else { d with stk := { d.stk with upsets := tput d.stk.upsets g errs } }

/-! ### Reads (R367, R378) -/

/-- CXL_MEM_READ. -/
def State.memRead (s : State) (haddr errs : Nat) : State :=
  match s.dev.hostTarget haddr false with
  | none => { s with dev := (s.dev.hostDenied haddr).emit (.memData 0 true) }
  | some x =>
    let g := s.dev.translate (s.dev.alloc x.1) x.2 / 64
    let d := s.dev.upset g errs
    let r := d.decodeGran g
    let d1 := d.countGran g r
    let data : BitVec 512 := BitVec.ofNat 512 (leNat (s.rd (64 * g) 64))
    let answer := fun (y : Dev) (v : BitVec 512) (bad : Bool) => ({ s with dev := y.emit (.memData v bad) } : State)
    let fault := d1.raiseAs .notice 0x6020 (25 + 64 * g / 0xC00000000) x.1 (64 * g)
    match r with
    | .clean => answer d1 data false
    | .corrected => answer d1 data false
    | .wrong w => answer d1 w false
    | .uncorrectable => answer fault data true
    | .storedPoison => answer fault data true

/-! ### Writes (R379) -/

/-- The 64 enables of entry `j`'s eight bytes. -/
def entryEnables (enables j : Nat) : Nat := nfld enables (8 * j) 8

/-- A CXL.mem write into a ledger allocation: whole entries are added, parts are dropped with 0x6030 once. -/
def State.hostLedger (s : State) (haddr a o enables : Nat) (data : BitVec 512) : State :=
  let s1 := (List.range 8).foldl (fun (u : State) j =>
    if entryEnables enables j = 255 then u.hostAdd a (o + 8 * j) (l64Value (fld data (64 * j) 64)) else u) s
  if (List.range 8).any (fun j => decide (entryEnables enables j ≠ 0 ∧ entryEnables enables j ≠ 255)) then
    { s1 with dev := s1.dev.hostDenied haddr }
  else s1

/-- A write into any other allocation: a part of a granule is merged with what the codeword holds, poison included. -/
def State.hostStore (s : State) (a o enables : Nat) (data : BitVec 512) (poison : Bool) : State :=
  let whole := decide (enables % 2 ^ 64 = 2 ^ 64 - 1)
  let g := s.dev.translate (s.dev.alloc a) o / 64
  let r := s.dev.decodeGran g
  let old := match r with
    | .wrong w => wordBytes 64 w
    | _ => s.rd (64 * g) 64
  let bad := !whole && (match r with
    | .uncorrectable => true
    | .storedPoison => true
    | _ => false)
  let d1 := if whole then s.dev else s.dev.countGran g r
  let merged := (List.range 64).map (fun i => if enables.testBit i then BitVec.ofNat 8 (fld data (8 * i) 8) else old.getD i 0)
  ({ s with dev := d1 } : State).poke a o merged (poison || bad)

/-- CXL_MEM_WRITE. A poisoned write into a ledger allocation adds nothing and leaves its granule poisoned (DESIGN CHOICE, log entry 16). -/
def State.memWrite (s : State) (haddr enables : Nat) (data : BitVec 512) (poison : Bool) : State :=
  let s1 := match s.dev.hostTarget haddr true with
    | none => { s with dev := s.dev.hostDenied haddr }
    | some x =>
      if enables = 0 then s
      else if (s.dev.alloc x.1).purpose = 1 then
        (if poison then s.poke x.1 x.2 (s.peekBytes x.1 x.2 64) true else s.hostLedger haddr x.1 x.2 enables data)
      else s.hostStore x.1 x.2 enables data poison
  { s1 with dev := s1.dev.emit .memDone }

/-! ### Scrubbing and spare rows (R368, R369) -/

/-- Granules of a stack. -/
def stackGranules : Nat := 0xC00000000 / 64

/-- The first granule at or after `g` that lies under no zero mark. -/
def Stk.skipMarked (k : Stk) : Nat → Nat → Nat
  | 0, g => g
  | n + 1, g => if k.zero.contains (g / 64) then k.skipMarked n (g / 64 * 64 + 64) else g

/-- A spare row takes the row of a granule of stack `i`. -/
def Dev.spareRow (d : Dev) (i g : Nat) : Dev :=
  let die := 16 * i + Config.dramDie g % 16
  let n := tgetD d.stk.spares die 0
  if 32 ≤ n then d
  else
    let d1 := { d with stk := { d.stk with spares := tput d.stk.spares die (n + 1), upsets := tdel d.stk.upsets g, writeback := d.stk.writeback.filter (· ≠ g) } }
    if n + 1 = 32 then
      ({ d1 with stk := { d1.stk with spareOut := sinsert d1.stk.spareOut die } } : Dev).raise 0x6024 (25 + i) i (die % 16)
    else d1

/-- What the scrubber does with what it finds. -/
def Dev.scrubFound (d : Dev) (i g : Nat) : Dev :=
  let r := d.decodeGran g
  let d1 := d.countGran g r
  match r with
  | .corrected =>
    let d2 := { d1 with stk := { d1.stk with correctedNow := sinsert d1.stk.correctedNow g } }
    if d.stk.corrected.contains g then d2.spareRow i g else d2
  | .uncorrectable => d1.raise 0x6021 (25 + i) i (64 * g)
  | _ => d1

/-- The scrub position of stack `i` moves past granule `p`; at the end of the stack a pass is complete. -/
def Dev.scrubOn (d : Dev) (i p : Nat) : Dev :=
  if p + 1 < stackGranules then { d with stk := { d.stk with scrub := lmod d.stk.scrub i (fun _ => p + 1) } }
  else
    let mine := fun (g : Nat) => decide (stackOf (64 * g) = some i)
    let k := d.stk
    ({ d with stk := { k with
        scrub := lmod k.scrub i (fun _ => 0)
        corrected := k.corrected.filter (fun g => !mine g) ++ k.correctedNow.filter mine
        correctedNow := k.correctedNow.filter (fun g => !mine g) } } : Dev).bumpFld .memScrub 0 16 1 i

/-- SCRUB_READ: the scrubber of a trained stack reads its next granule that lies under no zero mark. -/
def Dev.scrubRead (d : Dev) (i errs : Nat) : Dev :=
  if !d.hst.trained.testBit i then d
  else
    let base := stackAddr i 0 / 64
    let g := d.stk.skipMarked d.stk.zero.length (base + d.stk.scrub.getD i 0)
    if base + stackGranules ≤ g then d.scrubOn i (stackGranules - 1)
    else ((d.upset g errs).scrubFound i g).scrubOn i (g - base)

/-- CORRECTED_WRITEBACK (R365): the oldest corrected granule of a stack that has not been written since is written back. -/
def Dev.writeBack (d : Dev) (i : Nat) : Dev :=
  match d.stk.writeback.find? (fun g => decide (stackOf (64 * g) = some i)) with
  | none => d
  | some g => { d with stk := { d.stk with writeback := d.stk.writeback.filter (· ≠ g), upsets := tdel d.stk.upsets g } }

/-! ### The commands -/

/-- HDM_DECODER_COMMIT (R524). -/
def execHdmDecoderCommit (i : Fin 2) (base size skip_ : Nat) (s : State) : Host.Outcome State Fault Refusal :=
  .next { s with dev := s.dev.hdmCommit i.val base size skip_ }

/-- CXL_MEM_READ (R378). -/
def execCxlMemRead (haddr errs : Nat) (s : State) : Host.Outcome State Fault Refusal :=
  .next (s.memRead haddr errs)

/-- CXL_MEM_WRITE (R379). -/
def execCxlMemWrite (haddr : Nat) (enables : BitVec 64) (data : BitVec 512) (poison : Bool) (s : State) : Host.Outcome State Fault Refusal :=
  .next (s.memWrite haddr enables.toNat data poison)

/-- HOST_SNOOP (R522): the H1 holds no host line, so it answers every snoop with no data. -/
def execHostSnoop (_haddr : Nat) (_kind : SnoopKind) (s : State) : Host.Outcome State Fault Refusal :=
  .next { s with dev := s.dev.emit .snoopMiss }

/-- SCRUB_READ (R368). -/
def execScrubRead (stack : Fin 12) (errs : Nat) (s : State) : Host.Outcome State Fault Refusal :=
  .next { s with dev := s.dev.scrubRead stack.val errs }

/-- CORRECTED_WRITEBACK (R365). -/
def execCorrectedWriteback (stack : Fin 12) (s : State) : Host.Outcome State Fault Refusal :=
  .next { s with dev := s.dev.writeBack stack.val }

end Sys2Proof.Machine
end

