-- ==== Sys2Proof/Machine/Ahead.lean ====
section
/-! DEFINITION. Fill work that runs ahead (R67 to R70): what the slots of a program write, whether an item's inputs have had their
last write before its rigid window, and the slack that a tile spends. -/

namespace Sys2Proof.Machine

/-! ### What a slot writes -/

/-- What a slot writes: allocations, and byte ranges of tile SRAM (forward or backward, tile, offset, length). -/
structure Writes where
  allocs : List Nat := []
  ranges : List (Bool × Nat × Nat × Nat) := []

/-- A write touches one of the allocations. -/
def Writes.hit (w : Writes) (d : Dev) (inputs : List Nat) : Bool :=
  inputs.any (fun a => w.allocs.contains a || w.ranges.any (fun r => d.tileHits r.1 r.2.1 r.2.2.1 r.2.2.2 a))

/-- The allocations of a layout that is written with its companions. -/
def Layout.written (l : Layout) : List Nat := if l.comp = 0 then [l.alloc] else [l.alloc, l.calloc]

/-- Ranges that a window leaves written on each tile of its group (R211, R246, R252). -/
def Window.written (w : Window) (ms : List Nat) : Writes :=
  { ranges := ms.flatMap (fun t =>
      (if w.d.replay then [] else [(true, t, w.d.logOff, 16)]) ++
      (if w.d.last then [(true, t, w.fin.outOff, w.outBytes - 32), (true, t, w.fin.oscOff + 4, 32)] else [])) }

/-- Ranges that a backward window leaves written on each tile of its group: the codes, their companion and the records of a
LAST activation-gradient window. -/
def BwdDesc.written (d : BwdDesc) (ms : List Nat) : Writes :=
  if d.last && d.mode = 0 then
    { ranges := ms.flatMap (fun t =>
        [(false, t, d.outOff, 16384 * ((bwdFmt d.ofmt).container / 8) + 512), (false, t, d.oscOff + 64, 64)]) }
  else {}

/-- Where a walk through the program stands: the sequencer, the actions of the items it has queued by group and ITEM, the
streams it has bound, and the optimizer groups whose settlement it has met. -/
structure Walk where
  seq : Seq
  queued : List (Nat × Nat × Nat) := []
  binds : List (Nat × Nat) := []
  groups : List GroupDesc := []

/-- The action of an item of a group: one queued by the walk, or one that the group holds. -/
def State.actionOf (s : State) (w : Walk) (g item : Nat) : Option Nat :=
  match w.queued.find? (fun x => decide (x.1 = g ∧ x.2.1 = item)) with
  | some x => some x.2.2
  | none => ((s.dev.fwdGroup g).fill.find? (fun i => i.item = item)).map FillItem.action

/-- The allocation to which a stream is bound. -/
def State.boundAlloc (s : State) (w : Walk) (i : Nat) : List Nat :=
  match w.binds.find? (fun x => x.1 = i) with
  | some x => [x.2]
  | none => match (s.dev.streamState i).bound with
    | some b => [b.alloc]
    | none => []

/-- What a slot of the program writes. -/
def State.slotWrites (s : State) (w : Walk) (x : Slot) : Writes :=
  let d := s.dev
  if x.target < 0x40 then
    (let ms := d.fwdMembers x.target
    if (d.group x.target).kind = 1 then
      (match x.op with
      | 2 => (s.window x.arg).written ms
      | 0x1B => (match s.actionOf w x.target x.arg with
        | some a => (s.window a).written ms
        | none => {})
      | _ => {})
    else match x.op with
      | 2 => (s.bwdDescAt x.arg).written (d.bwdMembers x.target)
      | 5 => { allocs := [(d.tensor (s.depDescAt x.arg).tensor).alloc] }
      | _ => {})
  else if x.target < 0x4C then
    (let o := s.mintOp x.arg
    match x.op with
      | 2 => { allocs := o.dst.written }
      | 3 => { allocs := o.dst.written ++ (if o.d.stats && o.src.comp ≠ 0 then [o.src.calloc] else []) }
      | 4 => { allocs := o.dst.written }
      | _ => {})
  else if x.target < 0x64 then
    (if x.op = 2 then { allocs := [(s.layoutAt (copyDesc (BitVec.ofNat 128 (s.opnd x.arg 16))).dst).alloc] } else {})
  else if x.target < 0x68 then
    (if x.op = 3 then { allocs := s.boundAlloc w (expectDesc (s.opnd x.arg 16)).stream } else {})
  else if x.target < 0x6C then
    (let r := s.rowDescAt x.arg
    if x.op = 2 then
      { allocs := ([r.out0, r.out1].filter (fun i => i ≠ 0xFFFF)).flatMap (fun i => (s.layoutAt i).written) ++
          ([r.dgamma, r.dbeta].filter (fun t => t ≠ 0xFFF)).map (fun t => (d.tensor t).alloc) }
    else {})
  else if x.target = 0x6D then
    (match x.op with
    | 2 =>
      let r := s.roundAt x.arg
      { allocs := (d.tensor r.tensor).alloc :: (if r.last then [d.mnt.table] else []) }
    | 3 => { allocs := w.groups.flatMap (fun g => g.escrow :: (g.fwd :: g.homes).map (fun t => (d.tensor t).alloc)) }
    | _ => {})
  else {}

/-- What the walk takes along from a slot. -/
def State.walkSlot (s : State) (w : Walk) (x : Slot) : Walk :=
  if x.target < 0x40 ∧ x.op = 0x19 ∧ (s.dev.group x.target).kind = 1 then
    (let f := fillDesc (BitVec.ofNat 128 (s.opnd x.arg 16))
    { w with queued := (x.target, f.item, f.action) :: w.queued })
  else if 0x64 ≤ x.target ∧ x.target < 0x68 ∧ x.op = 4 then
    (let b := bindDesc (s.opnd x.arg 16)
    { w with binds := (b.stream, b.alloc) :: w.binds })
  else if x.target = 0x6D ∧ x.op = 2 ∧ (s.roundAt x.arg).last then
    { w with groups := w.groups ++ s.settleList (s.roundAt x.arg).slist }
  else w

/-- The slot is the rigid window of an item of a group (R65). -/
def Slot.isRigid (x : Slot) (g item : Nat) : Bool := decide (x.target = g ∧ x.op = 0x1A ∧ x.arg = item)

/-- From where a walk stands, the program writes none of the inputs before the item's rigid window, its STEP_END, or a bundle
that fails its header checks. A loop is walked once: its passes have the same slots. -/
def State.quietUntil (s : State) (g item : Nat) (inputs : List Nat) : Nat → Walk → Bool
  | 0, _ => true
  | n + 1, w =>
    let b := s.bundle w.seq.index
    if b.kind = 4 || (s.dev.headerFault b (w.seq.index - s.dev.programBase)).isSome || w.seq.loopFault b then true
    else if b.slots.any (fun x => x.isRigid g item) then true
    else if b.slots.any (fun x => (s.slotWrites w x).hit s.dev inputs) then false
    else
      let w1 := b.slots.foldl s.walkSlot w
      s.quietUntil g item inputs n { w1 with seq := w1.seq.advance b (List.replicate 16 1) }

/-- Every input of an item has received its last write scheduled before the item's rigid window (R67): no slot ahead in the
program writes one, no expected message still has to land in one, and no clearing round in progress adds to one. A copy writes
its bytes as it issues in the model (log entry 75), so that no copy in progress counts. The walk takes each open loop through
one more pass at the most (DEDUCED, log entry 150). -/
def State.inputsFinal (s : State) (g : Nat) (i : FillItem) : Bool :=
  let q := s.dev.seq
  let gs := match s.dev.ldg.record with
    | some e => e.groups
    | none => []
  let w : Walk := { seq := { q with counters := q.counters.map (min 2) }, groups := gs }
  !s.dev.lnk.expects.any (fun x => (s.boundAlloc w x.stream).any i.inputs.contains) &&
  !s.dev.ldg.rounds.any (fun r => !r.applied && i.inputs.contains (s.dev.tensor (s.roundAt r.arg).tensor).alloc) &&
  s.quietUntil g i.item i.inputs (2 ^ 30) w

/-! ### Slack (R67 to R70) -/

/-- The item that a tile takes next in its slack: a paused item resumes first; else the soonest item that may start there. A
start needs a free shadow slot, final inputs, and a window that passes the checks of its rigid window on the tile. -/
def State.nextItem (s : State) (g t : Nat) : Option FillItem :=
  let q := s.dev.fwdGroup g
  let open_ := q.fill.filter (fun i => !i.doneOn t)
  match open_.find? (fun i => (tget i.progress t).isSome) with
  | some i => some i
  | none => soonest (open_.filter (fun i =>
      (i.started || q.slotFree i.item) && (s.windowFault (s.window i.action) [t]).isNone && s.inputsFinal g i))

/-- Spend slack of a tile on fill work, item after item. -/
def State.fillSlack (s : State) (g m t : Nat) : Nat → Nat → State
  | 0, _ => s
  | f + 1, n =>
    if n = 0 then s
    else match s.nextItem g t with
      | none => s
      | some i =>
        let isNew := (tget i.progress t).isNone
        let r := s.fillAdvance g m t n i
        let d := r.2.dev
        let d1 := { d with fwd := { d.fwd with bnd := { d.fwd.bnd with
          ahead := satAdd 32 d.fwd.bnd.ahead (b2n isNew), slack := satAdd 64 d.fwd.bnd.slack r.1 } } }
        State.fillSlack { r.2 with dev := d1 } g m t f (n - r.1)

/-- The span in progress leaves the tiles of a forward group their slack: its bundle names the group in a forward compute window
or a FILL_WINDOW (R69). -/
def Dev.slackOpen (d : Dev) (g : Nat) : Bool :=
  d.seq.inStep && decide (d.frm.cycle < d.seq.lastCycle + d.seq.lastSpan) &&
  d.seq.acting.any (fun (a : Nat × Nat × Nat) => decide (a.1 = g ∧ (a.2.1 = 2 ∨ a.2.1 = 0x1A)))

/-- FILL_RUN_AHEAD_START: a tile of the group spends up to `cycles` of the slack it has (R67 to R70). -/
def State.fillRunAhead (s : State) (g tile cycles : Nat) : State :=
  let ms := s.dev.fwdMembers g
  match ms.findIdx? (· = tile) with
  | none => s
  | some m =>
    if !s.dev.runAhead || !s.dev.slackOpen g then s
    else
      let n := min cycles (s.dev.fwdTile tile).slack
      let s1 := { s with dev := s.dev.modFwdTile tile (fun x => { x with slack := x.slack - n }) }
      s1.fillSlack g m tile 33 n

end Sys2Proof.Machine
end

