-- ==== Sys2Proof/Machine/ProgramCommands.lean ====
section
/-! DEFINITION. The commands of a program: bundles, slots, copies' ends, clearing and settlement. -/

namespace Sys2Proof.Machine

/-- RUN_BUNDLE (R49): the next bundle issues when it is a RUN bundle; one of a reserved KIND raises its fault here (R58). -/
def execRunBundle (s : State) : Host.Outcome State Fault Refusal :=
  .next (s.next (fun k => decide (k = 0 ∨ 5 ≤ k)))

/-- LOOP_OPEN (R55). -/
def execLoopOpen (s : State) : Host.Outcome State Fault Refusal :=
  .next (s.next (fun k => decide (k = 1)))

/-- LOOP_CLOSE (R55). -/
def execLoopClose (s : State) : Host.Outcome State Fault Refusal :=
  .next (s.next (fun k => decide (k = 2)))

/-- TICK_WAIT (R52). -/
def execTickWait (s : State) : Host.Outcome State Fault Refusal :=
  .next (s.next (fun k => decide (k = 3)))

/-- STEP_END (R53). -/
def execStepEnd (s : State) : Host.Outcome State Fault Refusal :=
  .next (s.next (fun k => decide (k = 4)))

/-- CONTINUE (R50): the unit carries on its current action. -/
def execContinue (target : BitVec 7) (span : Nat) (s : State) : Host.Outcome State Fault Refusal :=
  .next (s.slotAlone { target := target.toNat, op := 1, arg := 0 } span)

/-- SET_TAG (R76, R77). -/
def execSetTag (group : Fin 64) (arg : BitVec 16) (span : Nat) (s : State) : Host.Outcome State Fault Refusal :=
  .next (s.slotAlone { target := group.val, op := 0x18, arg := arg.toNat } span)

/-- FILL_QUEUE (R61). -/
def execFillQueue (group : Fin 64) (arg : BitVec 16) (span : Nat) (s : State) : Host.Outcome State Fault Refusal :=
  .next (s.slotAlone { target := group.val, op := 0x19, arg := arg.toNat } span)

/-- FILL_WINDOW (R65). -/
def execFillWindow (group : Fin 64) (arg : BitVec 16) (span : Nat) (s : State) : Host.Outcome State Fault Refusal :=
  .next (s.slotAlone { target := group.val, op := 0x1A, arg := arg.toNat } span)

/-- FILL_RETIRE (R66). -/
def execFillRetire (group : Fin 64) (arg : BitVec 16) (span : Nat) (s : State) : Host.Outcome State Fault Refusal :=
  .next (s.slotAlone { target := group.val, op := 0x1B, arg := arg.toNat } span)

/-- FILL_RUN_AHEAD_START (R67, R68). -/
def execFillRunAheadStart (group : Fin 64) (tile cycles : Nat) (s : State) : Host.Outcome State Fault Refusal :=
  .next (s.fillRunAhead group.val tile cycles)

/-- FWD_WINDOW (R183). On a backward group the operation number is another command's. -/
def execFwdWindow (group : Fin 64) (arg : BitVec 16) (span : Nat) (s : State) : Host.Outcome State Fault Refusal :=
  .next (if (s.dev.group group.val).kind = 2 then s
    else s.slotAlone { target := group.val, op := 2, arg := arg.toNat } span)

/-- FWD_WLOAD (R181). -/
def execFwdWload (group : Fin 64) (arg : BitVec 16) (span : Nat) (s : State) : Host.Outcome State Fault Refusal :=
  .next (if (s.dev.group group.val).kind = 2 then s
    else s.slotAlone { target := group.val, op := 3, arg := arg.toNat } span)

/-- FWD_CLEAR (R181). -/
def execFwdClear (group : Fin 64) (arg : BitVec 16) (span : Nat) (s : State) : Host.Outcome State Fault Refusal :=
  .next (if (s.dev.group group.val).kind = 2 then s
    else s.slotAlone { target := group.val, op := 4, arg := arg.toNat } span)

/-- BWD_WINDOW (R275). On a forward group the operation number is another command's. -/
def execBwdWindow (group : Fin 64) (arg : BitVec 16) (span : Nat) (s : State) : Host.Outcome State Fault Refusal :=
  .next (if (s.dev.group group.val).kind = 1 then s
    else s.slotAlone { target := group.val, op := 2, arg := arg.toNat } span)

/-- BWD_BLOAD (R270). -/
def execBwdBload (group : Fin 64) (arg : BitVec 16) (span : Nat) (s : State) : Host.Outcome State Fault Refusal :=
  .next (if (s.dev.group group.val).kind = 1 then s
    else s.slotAlone { target := group.val, op := 3, arg := arg.toNat } span)

/-- BWD_CLEAR (R269). -/
def execBwdClear (group : Fin 64) (arg : BitVec 16) (span : Nat) (s : State) : Host.Outcome State Fault Refusal :=
  .next (if (s.dev.group group.val).kind = 1 then s
    else s.slotAlone { target := group.val, op := 4, arg := arg.toNat } span)

/-- BWD_DEPOSIT (R283). On a forward group the operation is reserved (R58). -/
def execBwdDeposit (group : Fin 64) (arg : BitVec 16) (span : Nat) (s : State) : Host.Outcome State Fault Refusal :=
  .next (s.slotAlone { target := group.val, op := 5, arg := arg.toNat } span)

/-- MINT_LOAD (R239). -/
def execMintLoad (stack : Fin 12) (arg : BitVec 16) (span : Nat) (s : State) : Host.Outcome State Fault Refusal :=
  .next (s.slotAlone { target := 0x40 + stack.val, op := 2, arg := arg.toNat } span)

/-- MINT_STORE (R239). -/
def execMintStore (stack : Fin 12) (arg : BitVec 16) (span : Nat) (s : State) : Host.Outcome State Fault Refusal :=
  .next (s.slotAlone { target := 0x40 + stack.val, op := 3, arg := arg.toNat } span)

/-- MINT_SCALES (R239). -/
def execMintScales (stack : Fin 12) (arg : BitVec 16) (span : Nat) (s : State) : Host.Outcome State Fault Refusal :=
  .next (s.slotAlone { target := 0x40 + stack.val, op := 4, arg := arg.toNat } span)

/-- DMA_COPY (R397). -/
def execDmaCopy (stack : Fin 12) (arg : BitVec 16) (span : Nat) (s : State) : Host.Outcome State Fault Refusal :=
  .next (s.slotAlone { target := 0x58 + stack.val, op := 2, arg := arg.toNat } span)

/-- LAY_COPY (R398). -/
def execLayCopy (stack : Fin 12) (arg : BitVec 16) (span : Nat) (s : State) : Host.Outcome State Fault Refusal :=
  .next (s.slotAlone { target := 0x4C + stack.val, op := 2, arg := arg.toNat } span)

/-- COPY_COMPLETE (R35). -/
def execCopyComplete (engine : Fin 37) (s : State) : Host.Outcome State Fault Refusal :=
  .next ({ s with dev := s.dev.engineDone engine.val })

/-- STREAM_SEND (R439). -/
def execStreamSend (die : Fin 4) (arg : BitVec 16) (span : Nat) (s : State) : Host.Outcome State Fault Refusal :=
  .next (s.slotAlone { target := 0x64 + die.val, op := 2, arg := arg.toNat } span)

/-- STREAM_EXPECT (R443). -/
def execStreamExpect (die : Fin 4) (arg : BitVec 16) (span : Nat) (s : State) : Host.Outcome State Fault Refusal :=
  .next (s.slotAlone { target := 0x64 + die.val, op := 3, arg := arg.toNat } span)

/-- STREAM_EXPECT_DEADLINE (R443). -/
def execStreamExpectDeadline (s : State) : Host.Outcome State Fault Refusal :=
  .next ({ s with dev := s.dev.streamExpectDeadline })

/-- STREAM_BIND (R440). -/
def execStreamBind (die : Fin 4) (arg : BitVec 16) (span : Nat) (s : State) : Host.Outcome State Fault Refusal :=
  .next (s.slotAlone { target := 0x64 + die.val, op := 4, arg := arg.toNat } span)

/-- ROW_RUN (R293). -/
def execRowRun (die : Fin 4) (arg : BitVec 16) (span : Nat) (s : State) : Host.Outcome State Fault Refusal :=
  .next (s.slotAlone { target := 0x68 + die.val, op := 2, arg := arg.toNat } span)

/-- LOSS_ADD (R329). -/
def execLossAdd (arg : BitVec 16) (span : Nat) (s : State) : Host.Outcome State Fault Refusal :=
  .next (s.slotAlone { target := 0x6C, op := 2, arg := arg.toNat } span)

/-- CLEAR (R324). -/
def execClear (arg : BitVec 16) (span : Nat) (s : State) : Host.Outcome State Fault Refusal :=
  .next (s.slotAlone { target := 0x6D, op := 2, arg := arg.toNat } span)

/-- CLEARING_MESSAGE_APPLY (R325). -/
def execClearingMessageApply (stream : BitVec 12) (s : State) : Host.Outcome State Fault Refusal :=
  .next (s.clearingMessageApply stream.toNat)

/-- CLEARING_ROUND_DEADLINE (R325). -/
def execClearingRoundDeadline (s : State) : Host.Outcome State Fault Refusal :=
  .next s.clearingRoundDeadline

/-- CLEARING_COMPLETE (R326). -/
def execClearingComplete (s : State) : Host.Outcome State Fault Refusal :=
  .next (s.clearingComplete)

/-- REPORT (R338). -/
def execReport (arg : BitVec 16) (span : Nat) (s : State) : Host.Outcome State Fault Refusal :=
  .next (s.slotAlone { target := 0x6D, op := 4, arg := arg.toNat } span)

/-- DEFERRED_REPORT_SEND (R338). -/
def execDeferredReportSend (s : State) : Host.Outcome State Fault Refusal :=
  .next ({ s with dev := s.dev.deferredReportSend })

/-- REPORT_RECEIVED (R321). -/
def execReportReceived (stream : BitVec 12) (msg : BitVec 256) (s : State) : Host.Outcome State Fault Refusal :=
  .next ({ s with dev := s.dev.reportReceived stream.toNat msg })

/-- SETTLE (R342). -/
def execSettle (arg : BitVec 16) (span : Nat) (s : State) : Host.Outcome State Fault Refusal :=
  .next (s.slotAlone { target := 0x6D, op := 3, arg := arg.toNat } span)

/-- SETTLE_CHUNK_COMPLETE (R333). -/
def execSettleChunkComplete (s : State) : Host.Outcome State Fault Refusal :=
  .next (s.settleChunkComplete)

/-- SETTLEMENT_OUTSIDE_PROGRAM (R341). -/
def execSettlementOutsideProgram (s : State) : Host.Outcome State Fault Refusal :=
  .next (s.settlementOutside)

/-- SETTLE_TIMEOUT_EXPIRY (R336). -/
def execSettleTimeoutExpiry (s : State) : Host.Outcome State Fault Refusal :=
  .next (s.settleTimeoutExpiry)

/-- REVERT_COMPLETE (R353). -/
def execRevertComplete (s : State) : Host.Outcome State Fault Refusal :=
  .next (s.revertComplete)

end Sys2Proof.Machine
end

