-- ==== Sys2Proof/Machine/Observe.lean ====
section
/-! DEFINITION. Counters and trace as they are commanded: enabling counts, pausing, draining and dumping the trace, ARM and TRIGGER
(R578, R586 to R592). -/

namespace Sys2Proof.Machine

/-- OBS.CNT_CTL.ENABLE takes effect at a tick (R578, R579). -/
def Dev.countEnable (d : Dev) (on : Bool) : Dev :=
  if on = d.obs.counting then d
  else if on then
    { d with obs := { d.obs with
      counting := true, shown := none
      counters := d.obs.counters.map (fun (c : Nat × Counter) => (c.1, { c.2 with high := 0, accepted := 0, sum := 0 })) } }
  else
    { d with obs := { d.obs with
      counting := false, shown := some d.entries
      frozen := d.obs.frozen ++ [(d.obs.nextRecord, d.entries, d.frm.frame)] } }

/-! ### Pauses (R125, R590) -/

/-- Recording pauses. -/
def Dev.tracePause (d : Dev) : Dev :=
  let x := d.traceFlush
  match x.obs.state with
  | .recording => { x with obs := { x.obs with state := .paused, before := .recording } }
  | .armed => { x with obs := { x.obs with state := .paused, before := .armed } }
  | .triggered => { x with obs := { x.obs with state := .paused, before := .triggered } }
  | _ => x

/-- Recording resumes. -/
def Dev.traceResume (d : Dev) : Dev :=
  if d.obs.state = .paused then { d with obs := { d.obs with state := d.obs.before } } else d

/-! ### Drain and dump (R587, R588, R591) -/

/-- Write records from number `j` on into the trace allocation. -/
def State.putRecords (s : State) (a c j : Nat) : List Nat → State
  | [] => s
  | r :: rest => State.putRecords (s.poke a (j % max 1 c * 32) (leBytes 32 r)) a c (j + 1) rest

/-- Records in whole granules of two (R588). -/
def padRecords (rs : List Nat) : List Nat := if rs.length % 2 = 0 then rs else rs ++ [0]

/-- TRACE_DRAIN: the two oldest records that have not been drained are written on, at the place of their number since the drain began (R587);
one alone is padded with an EMPTY record. -/
def State.traceDrain (s : State) : State :=
  let o := s.dev.obs
  let n := min o.undrained o.buffer.length
  match s.dev.traceAlloc with
  | none => s
  | some x =>
    if s.dev.modeTrc ≠ 3 ∨ n = 0 then s
    else
      let rs := padRecords (((o.buffer.take n).reverse).take 2)
      let s1 := s.putRecords x.1 x.2 o.drained rs
      { s1 with dev := { s1.dev with obs := { s1.dev.obs with
          buffer := o.buffer.take (n - 2), undrained := n - 2, drained := o.drained + rs.length, head := o.drained + rs.length } } }

/-- Drain everything that has been recorded up to a stop (R125). -/
def State.drainAll : Nat → State → State
  | 0, s => s
  | k + 1, s => if s.dev.obs.undrained = 0 then s else State.drainAll k s.traceDrain

/-- A write of DUMP: the buffer, oldest record first, into the trace allocation from record 0; ignored in a state that forbids it, with
DUMPREF, or without the allocation, with BADALLOC; where both hold, both bits are set. -/
def State.traceDump (s : State) : State :=
  let o := s.dev.obs
  if o.state = .off ∨ o.state = .full ∨ o.state = .paused then
    match s.dev.traceAlloc with
    | none => { s with dev := s.dev.setFld .obsTrcStatus 10 1 1 }
    | some x =>
      let rs := padRecords o.buffer.reverse
      let s1 := s.putRecords x.1 x.2 0 rs
      { s1 with dev := { s1.dev with obs := { s1.dev.obs with head := rs.length } } }
  else
    let d := s.dev.setFld .obsTrcStatus 11 1 1
    { s with dev := if d.traceAlloc.isNone then d.setFld .obsTrcStatus 10 1 1 else d }

/-- A write of ARM under the pin policy: the buffer is emptied and the armed state starts again, once recording resumes where it is
paused. -/
def Dev.traceArm (d : Dev) : Dev :=
  if d.modeTrc ≠ 2 then d
  else
    let x := d.traceFlush
    { x with obs := { x.obs with
        buffer := [], undrained := 0, wrapped := false, lost := 0, gap := 0, overwritten := 0, slots := 0, trigger := none
        state := if x.obs.state = .paused then .paused else .armed, before := .armed } }

/-- A write of TRIGGER: the trigger of an armed pin, with code 0. -/
def Dev.traceTrigger (d : Dev) : Dev := d.tracePin 0

end Sys2Proof.Machine
end

