-- ==== Sys2Proof/Machine/Stops.lean ====
section
/-! DEFINITION. Orders and their precedence, stops and halts, resuming, the end of a run, the fault sequencer, and what a reset or a loss
of power keeps (R26, R45, R495 to R519, R541, R545). -/

namespace Sys2Proof.Machine

/-! ### The end of a run (R26, R45, R309, R507, R536) -/

/-- What a cancelled step leaves in the arrays and the fill queues is discarded (R26, R45). The counters of the fill and retire queues drop
to 0 with their items (DEDUCED, log entry 203). -/
def Dev.dropArrays (d : Dev) : Dev :=
  let d1 := (List.range 64).foldl (fun (x : Dev) g => (x.cntClear (73 + g)).cntClear (137 + g)) d
  { d1 with
    fwd := { d1.fwd with
      tiles := d1.fwd.tiles.map (fun (t : Nat × FwdTile) => (t.1, { t.2 with acc := [], undrained := none, spare := none, passes := [], slack := 0 }))
      groups := d1.fwd.groups.map (fun (g : Nat × GroupState) => (g.1, { g.2 with fill := [] })) }
    bwd := { d1.bwd with
      tiles := d1.bwd.tiles.map (fun (t : Nat × BwdTile) =>
        (t.1, { t.2 with acc := [], file := none, spare := none, deposit := none, busyUntil := 0, moveAt := 0 })) } }

/-- STEP of the step that would begin at this tick: a commit that is due counts (R309, R612). -/
def State.nextStep (s : State) : Nat :=
  if s.dev.ldg.state = .settled ∧ s.dev.releaseMet then s.dirStep + 1 else s.dirStep

/-- A step is in progress and has not ended. -/
def Dev.midStep (d : Dev) : Bool := d.seq.inStep && !d.seq.stepEnded

/-- The run leaves the sequencer with a status, the number of its step and the fault behind it; the backward dies are gated from then on
(R548). -/
def Dev.leaveRun (d : Dev) (status step : Nat) (fault : Option FaultRec) : Dev :=
  match d.seq.run with
  | none => d
  | some r =>
    let x : Completion :=
      { cmd := r.cmd, status := status, stepFlags := if r.cleared then d.reg .mntFlags % 256 else 0, step := step, fault := fault }
    ({ d with
      seq := { d.seq with run := none, inStep := false, stepEnded := false, waiting := true, nest := [], acting := [] }
      bwd := { d.bwd with gated := true }, row := { d.row with spans := [] } } : Dev).finish x

/-- The run is cut short: a step in progress, whose last frame is `last`, is cancelled and gives its number; between steps the next
step's number is given (R507, R495). A fault cancels the step of its frame even when its STEP_END has issued there (`ended`): what the
step accepted completes only at the tick (R26, R45; DEDUCED, log entry 168). -/
def State.cutRun (s : State) (ended : Bool) (status last : Nat) (fault : Option FaultRec) (lands : Bool := false) : State :=
  match s.dev.seq.run with
  | none => s
  | some r =>
    let d := s.dev
    let cut := d.midStep || (ended && d.seq.inStep)
    let d1 := if cut then (d.streamsCancel (frameLess last d.seq.stepFrame) last lands).dropArrays else d
    { s with dev := (d1.escrowCancel).leaveRun status (if cut then r.lastStep else s.nextStep) fault }

/-! ### Orders (R501 to R506) -/

def Order.stop (o : Order) : Bool := o.bits.testBit 0
def Order.now (o : Order) : Bool := o.bits.testBit 1
def Order.boundary (o : Order) : Bool := o.bits.testBit 2
def Order.fabric (o : Order) : Bool := o.bits.testBit 3
def Order.resume (o : Order) : Bool := o.bits.testBit 4
def Order.reset (o : Order) : Bool := o.bits.testBit 5

/-- R502 on an order applied in frame `f`, and R534 on a stop command. -/
def Order.bad (o : Order) (f : Nat) : Bool :=
  decide (o.key ≠ 0xA5) || decide (b2n o.stop + b2n o.resume + b2n o.reset ≠ 1) || ((o.now || o.boundary || o.fabric) && !o.stop) ||
    (o.fabric && o.boundary) || (decide (o.at_ ≠ 0) && frameBefore o.at_ (if o.fabric then frameAfter f 17 else f)) ||
    (o.cmd.isSome && (o.resume || o.reset))

/-- Outcomes of an order (Table 13.14). -/
inductive Outcome where
  | applied
  | overruled
  | refused
  | withoutEffect
  deriving DecidableEq, Repr

def Outcome.val : Outcome → Nat
  | .applied => 1
  | .overruled => 2
  | .refused => 3
  | .withoutEffect => 4

/-- The journal entry of an order (R506, Table 13.14). -/
def Dev.journalOrder (d : Dev) (o : Order) (x : Outcome) (code effect : Nat) : Dev :=
  d.journal (masterNum o.src) 2 false (o.bits % 256 + 2 ^ 8 * o.key) o.who
    (o.arrival % 2 ^ 48 + 2 ^ 64 * (o.at_ % 2 ^ 48) + 2 ^ 128 * o.origin) (x.val + 2 ^ 16 * code + 2 ^ 64 * (effect % 2 ^ 48))

/-- Code of a fault record, 0 for none. -/
def faultCode (fault : Option FaultRec) : Nat := match fault with
  | none => 0
  | some r => r.code

/-- The stop command that an order came from is entered in the journal, refused where the order is (R537), and completes (R534). -/
def Dev.orderCmd (d : Dev) (o : Order) (x : Outcome) (fault : Option FaultRec) : Dev :=
  match o.cmd with
  | none => d
  | some c =>
    (d.journalCmd c (if x = .refused then 2 else 1) (faultCode fault)).complete c (if x = .applied then stCompleted else stRefused) fault

/-- An order has its outcome: its journal entry, and those of the stop command that it came from (R506, R534). -/
def Dev.orderDone (d : Dev) (o : Order) (x : Outcome) (fault : Option FaultRec) (effect : Nat) : Dev :=
  (d.orderCmd o x fault).journalOrder o x (faultCode fault) effect

/-- An order is refused with notice 0x1062. -/
def Dev.orderRefused (d : Dev) (o : Order) : Dev :=
  let r := d.raiseRec 0x1062 24 0 0
  r.2.orderDone o .refused r.1 0

/-- A write of FLT.ORDER arrives (R501 to R503): management and the host may order. -/
def Dev.orderWrite (d : Dev) (src : Master) (value : Nat) : Dev :=
  if src = .management ∨ src = .host then
    { d with flt := { d.flt with orders := d.flt.orders ++
        [({ src := src, bits := value % 64, key := value / 2 ^ 24 % 256, at_ := d.pair .fltAtLo .fltAtHi, arrival := d.frm.frame,
            pos := d.arrived } : Order)] } }
  else d

/-- A marker in a control flit that arrives intact on a link that is up becomes a peer order of the next tick (R512). -/
def Dev.hearMarker (d : Dev) (port lane : Nat) (flit : List Byte) : Dev :=
  match d.linkAt port lane with
  | none => d
  | some l =>
    if l.up && decide (bytesAt flit 36 1 = 1) then
      let o : Order :=
        { src := .peer, bits := 9 + 2 * b2n ((bytesAt flit 37 1).testBit 0), key := 0, at_ := bytesAt flit 38 6, arrival := d.frm.frame
          who := l.fp, origin := bytesAt flit 44 8, issue := bytesAt flit 52 6, pos := d.arrived }
      if d.flt.orders.any (fun (x : Order) => decide ({ x with pos := d.arrived } = o)) then d
      else { d with flt := { d.flt with orders := d.flt.orders ++ [o] } }
    else d

/-- The first tick, from `f` on, at which a stop can take effect (R507). -/
def PendingStop.earliest (p : PendingStop) (f : Nat) : Nat := if frameBefore p.t f then f else p.t

/-- Of two stops seen at tick `f`, `a` takes effect before `b`: earlier, or at the same tick as a halt where `b` is none (R505). -/
def PendingStop.before (a b : PendingStop) (f : Nat) : Bool :=
  frameBefore (a.earliest f) (b.earliest f) || (a.earliest f = b.earliest f && a.now && !b.now)

/-- A marker stands before another (R512). -/
def Marker.before (a b : Marker) : Bool :=
  frameBefore a.t b.t || (a.t = b.t && ((a.now && !b.now) || (a.now == b.now && decide (a.origin < b.origin))))

/-- A stop that waited for a boundary is overruled (R506). -/
def Dev.overrule (d : Dev) (b : PendingStop) : Dev := match b.order with
  | none => d
  | some o => d.journalOrder o .overruled 0 0

/-- A stop at a boundary joins the pending ones; `false` when one that waits takes effect no later (R505). -/
def Dev.pendBoundary (d : Dev) (p : PendingStop) : Bool × Dev :=
  let f := d.frm.frame
  let plain := match d.flt.pending with
    | none => false
    | some q => tickDue q.t (p.earliest f)
  if plain then (false, d)
  else match d.flt.boundary with
    | none => (true, { d with flt := { d.flt with boundary := some p } })
    | some b =>
      if p.before b f then
        let d1 := d.overrule b
        (true, { d1 with flt := { d1.flt with boundary := some p } })
      else (false, d)

/-- A stop at a tick joins the pending ones. One that waits for a boundary is replaced where the new stop comes before any boundary it can
have; where either may come first, both wait, and the first to come stops the chip (R505; DESIGN CHOICE, log entry 179). -/
def Dev.pendPlain (d : Dev) (p : PendingStop) : Bool × Dev :=
  let f := d.frm.frame
  let set := fun (x : Dev) => ({ x with flt := { x.flt with pending := some p } } : Dev)
  let later := match d.flt.pending with
    | none => false
    | some q => !p.before q f
  if later then (false, d)
  else match d.flt.boundary with
    | none => (true, set d)
    | some b =>
      if tickDue (p.earliest f) (b.earliest f) && !b.before p f then
        let d1 := d.overrule b
        (true, set { d1 with flt := { d1.flt with boundary := none } })
      else (true, set d)

/-- A stop joins the pending ones; `false` when it replaces none (R505). -/
def Dev.pendStop (d : Dev) (p : PendingStop) : Bool × Dev := if p.boundary then d.pendBoundary p else d.pendPlain p

/-- A marker joins the pending fabric stop (R512): `none` when it equals it. -/
def Dev.pendFabric (d : Dev) (m : Marker) : Option Bool × Dev :=
  match d.flt.fabric with
  | none => (some true, { d with flt := { d.flt with fabric := some m } })
  | some q =>
    if m.t = q.t ∧ m.now = q.now ∧ m.origin = q.origin then (none, d)
    else if m.before q then (some true, { d with flt := { d.flt with fabric := some m } }) else (some false, d)

/-- The chip has taken, or is taking, a stop that this one cannot precede. -/
def Dev.stopped (d : Dev) (now : Bool) : Bool :=
  d.flt.chipStop || d.flt.halting.isSome || decide (d.flt.stop ≠ .running ∧ (d.flt.stop ≠ .stopping ∨ !now))

/-- A stop order is applied (R505, R507, R510). An order names its kind by NOW; with NOW 0 it is a stop at tick, and the STOP mode bit is
read for chip-stop faults only (DEDUCED, log entry 164). A stop at a boundary is journalled when it takes effect. A chip that has stopped finds nothing to do in a stop of this tick; a stop
of a later tick waits for it, and a fabric stop is passed on. -/
def Dev.applyStop (d : Dev) (o : Order) : Dev :=
  let f := d.frm.frame
  if !o.fabric && (d.flt.chipStop || (d.stopped o.now && tickDue o.at_ f)) then d.orderDone o .withoutEffect none 0
  else if o.fabric then
    let t := if o.at_ = 0 then frameAfter f 17 else o.at_
    let r := d.pendFabric { now := o.now, t := t, origin := Config.fingerprint.toNat, issue := f, src := masterNum o.src }
    if r.1 = some true then r.2.orderDone o .applied none t else r.2.orderDone o .overruled none 0
  else
    let t := if o.at_ = 0 then f else o.at_
    let r := d.pendStop
      { t := t, now := o.now, boundary := o.boundary, src := masterNum o.src, order := if o.boundary then some o else none }
    if !r.1 then r.2.orderDone o .overruled none 0
    else if o.boundary then r.2.orderCmd o .applied none
    else r.2.orderDone o .applied none t

/-- A marker is applied (R512); one that has arrived at or after its own T is applied at this tick, with degrade 0x1063 (R513). -/
def Dev.applyMarker (d : Dev) (o : Order) : Dev :=
  let f := d.frm.frame
  if tickDue o.at_ o.arrival then
    let d1 := d.raise 0x1063 24 0 0
    let r := d1.pendStop { t := f, now := o.now, boundary := false, src := 2 }
    if r.1 then r.2.orderDone o .applied none f else r.2.orderDone o .overruled none 0
  else
    let r := d.pendFabric { now := o.now, t := o.at_, origin := o.origin, issue := o.issue, src := 2 }
    match r.1 with
    | none => r.2
    | some true => r.2.orderDone o .applied none o.at_
    | some false => r.2.orderDone o .overruled none 0

/-- A waiting resume is overruled, and waits no more (R506). -/
def Dev.dropResume (d : Dev) : Dev := match d.flt.resume with
  | none => d
  | some p =>
    let d1 := d.orderDone p .overruled none 0
    { d1 with flt := { d1.flt with resume := none } }

/-- A resume order is applied (R505, R517); it is journalled when it takes effect. One with a later AT waits for that tick. -/
def Dev.applyResume (d : Dev) (o : Order) (stopping : Bool) : Dev :=
  let waits := decide (o.at_ ≠ 0) && frameBefore d.frm.frame o.at_
  if d.flt.chipStop then d.orderRefused o
  else if !waits && decide (d.flt.stop = .running ∧ d.flt.halting.isNone) then
    d.orderDone o (if d.flt.pending.isSome || d.flt.boundary.isSome || d.flt.fabric.isSome then .overruled else .withoutEffect) none 0
  else if !waits && stopping then d.orderDone o .overruled none 0
  else
    let d1 := d.dropResume
    { d1 with flt := { d1.flt with resume := some o } }

/-- An order finds the journal without room (R567): a stop or a reset order may use the last 256 slots. -/
def Dev.orderFull (d : Dev) (o : Order) : Bool :=
  if o.stop || o.reset then decide (d.sec.unexported ≥ 65536) else d.journalFull o.src

/-- An order of this tick is refused (R502, R567). -/
def Dev.refusesOrder (d : Dev) (o : Order) : Bool := d.orderFull o || (decide (o.src ≠ .peer) && o.bad d.frm.frame)

/-- It is refused: with notice 0xA021 where the journal has no room for it, else with 0x1062. -/
def Dev.refuseOrder (d : Dev) (o : Order) : Dev :=
  if d.orderFull o then
    let r := d.raiseRec 0xA021 24 0 0
    r.2.orderCmd o .refused r.1
  else d.orderRefused o

/-- An order of this tick is applied, or refused; `stopping` where a stop is among the tick's orders (R504, R505). -/
def Dev.applyOrder (d : Dev) (stopping : Bool) (o : Order) : Dev :=
  if d.refusesOrder o then d.refuseOrder o
  else if o.src = .peer then d.applyMarker o
  else if o.stop then d.applyStop o
  else d.applyResume o stopping

/-- The reset order of a tick overrules every other (R505); the last one stands. -/
def Dev.applyReset (d : Dev) (os : List Order) : Dev :=
  let last := os.foldl (fun (l : Option Order) o => if o.src ≠ .peer ∧ o.reset ∧ !d.refusesOrder o then some o else l) none
  let d1 := os.foldl (fun (x : Dev) o =>
    if d.refusesOrder o then x.refuseOrder o
    else if some o = last then x.orderDone o .applied none x.frm.frame else x.orderDone o .overruled none 0) d
  let d2 := (match d1.flt.boundary with
    | none => d1
    | some b => d1.overrule b).dropResume
  { d2 with flt := { d2.flt with pending := none, boundary := none, fabric := none, resetNow := true } }

/-! ### Stops and halts (R507 to R516) -/

/-- D_max (R509). -/
def Dev.dMax (d : Dev) : Nat := max 1 (maxNat (d.validStreams.map (fun i => (d.stream i).d)))

/-- Tick f follows a STEP_END, or no run command is active (R507). -/
def Dev.atBoundary (d : Dev) : Bool := d.seq.run.isNone || d.seq.stepEnded

/-- Admitted copies end without completing, and host copies and securing requests complete as cancelled (R26, R514). -/
def Dev.cancelItems (d : Dev) (fault : Option FaultRec) : Dev :=
  let d1 := d.engines.foldl (fun (x : Dev) (e : Nat × Engine) => x.cntLeave e.1 e.2.jobs.length) d
  let d2 := { d1 with engines := d1.engines.map (fun (e : Nat × Engine) => (e.1, { e.2 with jobs := [] })) }
  let cs := d2.hst.copies.map (fun (c : Completion) => c.cmd) ++ d2.prt.requests.map (fun (r : CmdRef × BitVec 1024) => r.1)
  cs.foldl (fun (x : Dev) c => x.complete c stCancelled fault)
    { d2 with hst := { d2.hst with copies := [] }, prt := { d2.prt with requests := [] } }

/-- The status and the fault with which a stop ends a run: a chip-stop cancels it, with its record (Table 11.2, R499). -/
def Dev.stopStatus (d : Dev) : Nat × Option FaultRec := if d.flt.chipStop then (stCancelled, d.flt.cancel) else (stStopped, none)

/-- A step-abort of the frame that ended still waits for this tick: it cancels the step even where its STEP_END has issued (R45). -/
def Dev.aborting (d : Dev) : Bool := !d.flt.chipStop && d.flt.cancel.isSome

/-- A stop-at-tick takes effect at this tick (R507, R124 to R126, R26); that of a chip-stop cancels every accepted item (Table 11.2). -/
def State.stopAtTick (s : State) : State :=
  let d := s.dev
  if d.flt.stop ≠ .running ∨ d.flt.halting.isSome then s
  else
    let f := d.frm.frame
    let r := d.raise 0x1061 24 0 0
    let d1 := r.discardFill (fun _ => true)
    let d2 := ({ d1 with flt := { d1.flt with stop := .stopping, stopTick := f } } : Dev).setPair .fltStopLo .fltStopHi f
    let d3 := (d2.loadCancel d2.stopStatus.2).tracePause
    let d4 := if d3.flt.chipStop then d3.cancelItems d3.stopStatus.2 else d3
    ({ s with dev := d4 } : State).cutRun d3.aborting d3.stopStatus.1 (frameLess f 1) d3.stopStatus.2
      (!d3.aborting && !d3.flt.chipStop)

/-- Units that the slots in their span at cycle `h` occupy (Table 11.9, IN_SPAN). -/
def Dev.spanUnits (d : Dev) (h : Nat) : List Nat :=
  if d.seq.lastCycle ≤ h ∧ h < d.seq.lastCycle + d.seq.lastSpan then
    d.seq.acting.flatMap (fun (a : Nat × Nat × Nat) =>
      if a.1 < 0x40 then
        let g := d.group a.1
        if g.kind = 1 then g.fwdMembers.map (fun t => t / 128) else if g.kind = 2 then g.bwdMembers.map (fun t => 8 + t / 16) else [24]
      else [d.targetUnit a.1])
  else []

/-- Engines of Table 14.1 that serve a unit. -/
def unitEngines (u : Nat) : List Nat := if 25 ≤ u ∧ u ≤ 36 then [u - 25, u - 13, u - 1] else []

/-- FLAGS of a unit (Table 11.9). Snapshot, mirror and refill traffic is the control die's. -/
def Dev.haltFlags (d : Dev) (u h : Nat) : Nat :=
  let copy := (unitEngines u).any (fun e => !(d.engine e).jobs.isEmpty) ||
    (decide (8 ≤ u ∧ u < 16) && d.bwd.tiles.any (fun (t : Nat × BwdTile) => decide (t.1 / 16 = u - 8) && decide (h < t.2.busyUntil)))
  let settle := decide (25 ≤ u ∧ u ≤ 36) && decide (d.ldg.state = .settling) && (!d.ldg.chunks.isEmpty || d.ldg.outside)
  let link := decide (20 ≤ u ∧ u < 24) && d.lnk.links.any (fun (l : Link) => decide (l.port / 3 = u - 20) && !l.replay.isEmpty)
  b2n ((d.spanUnits h).contains u) + 2 * b2n copy + 4 * b2n settle + 8 * b2n (decide (u = 24) && d.protectionBusy) + 16 * b2n link

/-- The halt record as it stands when the halt is decided: the units' stop cycles come with HALTED (R515). -/
def Dev.haltRecordNow (d : Dev) (frame h cause source : Nat) : HaltRecord :=
  { frame := frame, h := h, cause := cause, source := source, index := d.seq.lastIndex, seq := d.seq.lastSeq, step := d.ldg.step
    units := (List.range 37).map (fun u => (0, d.haltFlags u h, if (d.spanUnits h).contains u then d.seq.lastSeq else 0xFFFF)) }

/-- The bytes of a halt record (Tables 11.8, 11.9). -/
def HaltRecord.bytes (r : HaltRecord) : List Byte :=
  leBytes 6 r.frame ++ leBytes 2 0 ++ leBytes 4 r.h ++ leBytes 2 r.cause ++ leBytes 1 r.source ++ leBytes 1 37 ++ leBytes 4 r.index ++
  leBytes 2 r.seq ++ leBytes 2 0 ++ leBytes 8 r.step ++ leBytes 32 0 ++
  (List.zip (List.range 37) r.units).flatMap (fun (x : Nat × (Nat × Nat × Nat)) =>
    leBytes 1 x.1 ++ leBytes 1 x.2.1 ++ leBytes 1 x.2.2.1 ++ leBytes 1 0 ++ leBytes 2 x.2.2.2 ++ leBytes 2 0)

/-- Data flits that are not acknowledged are dropped (R514). -/
def Dev.dropFlits (d : Dev) : Dev :=
  d.lnk.links.foldl (fun (x : Dev) l =>
    (x.modLink l (fun y => { y with replay := [] })).cntLeave (37 + l.port) (l.replay.filter (fun (f : Nat × Flit) => f.2.sends = 0)).length) d

/-- A halt-now is decided at cycle `h` of the frame (R514): everything accepted is cancelled, and the units stop by h + 48. Within a
frame, what the step has accepted is cancelled even where its STEP_END has issued (R26). A chip that is stopped or halted halts for a
chip-stop only (R516). -/
def State.haltNow (s : State) (h cause source : Nat) : State :=
  let d := s.dev
  if d.flt.halting.isSome ∨ d.flt.stop = .chipStopped then s
  else if d.flt.stop ≠ .running ∧ d.flt.stop ≠ .stopping ∧ !d.flt.chipStop then s
  else
    let f := d.frm.frame
    let rec_ := d.haltRecordNow f h cause source
    let r := d.raise 0x1061 24 0 0
    let d1 := ((r.discardFill (fun _ => true)).protectHalt).dropFlits
    let d2 := { d1 with
      flt := { d1.flt with halting := some (h, source, cause), haltRecord := some rec_, stopTick := f, caught := true } }
    let d3 := (d2.setPair .fltStopLo .fltStopHi f).loadCancel d2.stopStatus.2
    let d4 := d3.cancelItems d3.stopStatus.2
    ({ s with dev := d4 } : State).cutRun (decide (h ≠ 0) || d4.aborting) d4.stopStatus.1 (if h = 0 then frameLess f 1 else f) d4.stopStatus.2

/-- HALTED (R514, R515): every unit has stopped, `offsets` cycles after h. -/
def Dev.halted (d : Dev) (offsets : List Nat) : Dev :=
  match d.flt.halting with
  | none => d
  | some _ =>
    let d1 := d.tracePause
    { d1 with flt := { d1.flt with
      halting := none, stop := if d1.flt.chipStop then .chipStopped else .halted
      haltRecord := d1.flt.haltRecord.map (fun (r : HaltRecord) => { r with
        units := (List.zip (List.range 37) r.units).map (fun (x : Nat × (Nat × Nat × Nat)) => (offsets.getD x.1 48, x.2.2.1, x.2.2.2)) }) } }

/-- The stop in progress is complete (R509, R125, R126). -/
def State.stopComplete (s : State) : State :=
  let d := s.dev
  if d.flt.stop = .stopping ∧ d.flt.halting.isNone ∧ tickDue (frameAfter d.flt.stopTick d.dMax) (frameAfter d.frm.frame 1) ∧ d.prt.mirrorState ≠ .streaming then
    let s1 := if d.modeTrc = 3 then s.drainAll (traceSlots / 2 + 1) else s
    { s1 with dev := { s1.dev with flt := { s1.dev.flt with stop := if d.flt.chipStop then .chipStopped else .stopped } } }
  else s

/-- A resume that is due finds the chip stopped or halted (R517, R508, R590, Table 7.8); one that is due on a running chip has no effect,
and one that waits is refused once a chip-stop has been taken. -/
def State.resumeEffect (s : State) : State :=
  match s.dev.flt.resume with
  | none => s
  | some o =>
    let d := s.dev
    let ends := fun (x : Dev) => ({ x with flt := { x.flt with resume := none } } : Dev)
    if d.flt.chipStop then { s with dev := ends (d.orderRefused o) }
    else if o.at_ ≠ 0 ∧ !tickDue o.at_ d.frm.frame then s
    else if d.flt.halting.isSome then s
    else match d.flt.stop with
      | .stopped | .halted =>
        let d1 := (d.orderDone o .applied none d.frm.frame).escrowResume.traceResume
        ({ s with dev := { ends d1 with flt := { (ends d1).flt with stop := .running, caught := false } } } : State).releaseLanding
      | .running => { s with dev := ends (d.orderDone o .withoutEffect none 0) }
      | _ => s

/-- A stop that takes effect at a tick prevails over a resume of the same tick (R505). -/
def Dev.stopPrevails (d : Dev) : Dev :=
  let f := d.frm.frame
  match d.flt.resume with
  | none => d
  | some o => if o.at_ = f ∨ (o.at_ = 0 ∧ frameAfter o.arrival 1 = f) then d.dropResume else d

/-- Table 11.5 step 5 for stops: what is due at this tick takes effect; halt-now prevails (R505). -/
def State.stopEffects (s : State) : State :=
  let d := s.dev
  let f := d.frm.frame
  let p := match d.flt.pending with
    | none => none
    | some x => if tickDue x.t f then some x else none
  let b := match d.flt.boundary with
    | none => none
    | some x => if tickDue x.t f ∧ d.atBoundary then some x else none
  let m := match d.flt.fabric with
    | none => none
    | some x => if tickDue x.t f then some x else none
  let d1 := { d with flt := { d.flt with
    pending := if p.isSome then none else d.flt.pending, boundary := if b.isSome then none else d.flt.boundary
    fabric := if m.isSome then none else d.flt.fabric } }
  let d2 := match b.bind PendingStop.order with
    | none => d1
    | some o => d1.journalOrder o .applied 0 f
  let cands := ((p.toList ++ b.toList).map (fun x => (x.now, x.src, x.cause))) ++ (m.map (fun (x : Marker) => (x.now, x.src, 0))).toList
  let s1 : State := { s with dev := if cands.isEmpty then d2 else d2.stopPrevails }
  let s2 := match cands.find? (fun (c : Bool × Nat × Nat) => c.1) with
    | some c => s1.haltNow 0 c.2.2 c.2.1
    | none => if cands.isEmpty then s1 else s1.stopAtTick
  s2.stopComplete.resumeEffect

/-- The pending cancellation of a step takes effect at a tick (R45, R495). -/
def State.cancelDue (s : State) : State :=
  match s.dev.flt.cancel with
  | none => s
  | some r =>
    let d := s.dev
    let s1 : State := { s with dev := { d with flt := { d.flt with cancel := if d.flt.chipStop then d.flt.cancel else none } } }
    if d.flt.chipStop then s1 else s1.cutRun true stAborted (frameLess d.frm.frame 1) (some r)

/-! ### The fault sequencer (R493 to R500, R516) -/

/-- A chip-stop fault stops the chip as the charter's STOP mode selects, or as a halt-now without a charter, and cancels every accepted item
(R516, Table 11.2). A chip that has stopped before halts in the same way, or is chip-stopped at once under "at-tick" (DEDUCED, log entry
180). -/
def State.chipStop (s : State) (r : FaultRec) : State :=
  let d := s.dev
  if d.flt.chipStop then s
  else
    let d1 := { d with flt := { d.flt with chipStop := true, cancel := some r } }
    let now := d.cht.active.isNone || d.modeStopNow
    match d.flt.stop with
    | .running =>
      if now then ({ s with dev := d1 } : State).haltNow (if r.frame = d.frm.frame then r.cycle else 0) r.code 3
      else { s with dev := (d1.pendStop { t := frameAfter d.frm.frame 1, now := false, boundary := false, src := 3, cause := r.code }).2 }
    | .stopping =>
      if now then ({ s with dev := d1 } : State).haltNow (if r.frame = d.frm.frame then r.cycle else 0) r.code 3
      else { s with dev := d1.cancelItems (some r) }
    | _ =>
      if now then ({ s with dev := d1 } : State).haltNow (if r.frame = d.frm.frame then r.cycle else 0) r.code 3
      else
        let d2 := d1.cancelItems (some r)
        { s with dev := { d2 with flt := { d2.flt with stop := .chipStopped } } }

/-- Insert a record in the log, newest SEQ first, and keep the newest 256 (R499). -/
def logInsert (l : List FaultRec) (r : FaultRec) : List FaultRec :=
  match l with
  | [] => [r]
  | x :: t => if x.seq ≤ r.seq then r :: x :: t else x :: logInsert t r

/-- Carry out a record's severity (Table 11.2). -/
def State.carryOut (s : State) (r : FaultRec) : State :=
  let d := s.dev.spoilLoad r
  match r.sev with
  | .chipStop => ({ s with dev := d } : State).chipStop r
  | .stepAbort =>
    if d.seq.run.isSome && d.flt.cancel.isNone then { s with dev := { d with flt := { d.flt with cancel := some r } } } else { s with dev := d }
  | _ => { s with dev := d }

/-- Handling of a record ends: it is written to the log (R499). -/
def Dev.logRecord (d : Dev) (r : FaultRec) : Dev := { d with flt := { d.flt with log := (logInsert d.flt.log r).take 256 } }

/-- Handle the record that has been taken. A more severe record that is raised meanwhile has sent it back to the queue (R497): it is then
not logged yet, and what has been done of it is not done again. -/
def State.handleTaken (s : State) (r : FaultRec) : State :=
  let s1 := s.carryOut r
  if s1.dev.flt.handling.isNone then s1
  else { s1 with dev := (({ s1.dev with flt := { s1.dev.flt with handling := none } } : Dev).cntLeave 201).logRecord r }

/-- The waiting record that is taken next: of the highest severity, the oldest (R497). -/
def nextRecord (q : List FaultRec) : Option FaultRec :=
  q.foldl (fun (b : Option FaultRec) r => match b with
    | none => some r
    | some x => if x.sev.val < r.sev.val ∨ (x.sev = r.sev ∧ r.seq < x.seq) then some r else b) none

/-- FAULT_HANDLE (R497): the reserved record is next, in its slot outside the 32 (R498); then the one being handled; then the queue's.
Taking a record, carrying out its severity and logging it are one step of the model (log entry 61). -/
def State.faultHandle (s : State) : State :=
  let f := s.dev.flt
  match f.reserved with
  | some r =>
    let s1 := ({ s with dev := { s.dev with flt := { f with reserved := none } } } : State).carryOut r
    { s1 with dev := s1.dev.logRecord r }
  | none => match f.handling with
    | some r => s.handleTaken r
    | none => match nextRecord f.queue with
      | none => s
      | some r => ({ s with dev := { s.dev with flt := { f with queue := f.queue.erase r, handling := some r } } } : State).handleTaken r

/-- Handle what waits. -/
def State.drainFaults : Nat → State → State
  | 0, s => s
  | n + 1, s => if s.dev.flt.queue.isEmpty && s.dev.flt.reserved.isNone && s.dev.flt.handling.isNone then s
    else State.drainFaults n s.faultHandle

/-- Records that can wait: 32, the reserved one, and those that handling raises. -/
def faultRounds : Nat := 80

/-- A fault of the sequencer's own checks or of the control die's state reaches the stop logic by a fixed path (R500). -/
def State.fixedPath (s : State) (code : Nat) : State :=
  let r := s.dev.raiseRec code 24 0 0
  let x : FaultRec := match r.1 with
    | some y => y
    | none => { code := code, sev := .chipStop, unit := 24, frame := s.dev.frm.frame, cycle := s.dev.frm.cycle }
  ({ s with dev := r.2 } : State).chipStop x

/-! ### Reset and loss of power (R519, R541, R545) -/

/-- Registers whose counts run since power-good (R541), by the fields that are kept. -/
def keptRegs : List (Reg × Nat × Nat) :=
  [(.fltCount0, 0xFFFFFFFF, 1), (.fltCount1, 0xFFFFFFFF, 1), (.chtLoads, 0xFFFFFFFF, 1), (.memCe, 0xFFFFFFFF, 12), (.memUe, 0xFFFFFFFF, 12),
   (.memScrub, 0x0000FFFF, 12), (.memSramCe, 0xFFFFFFFF, 12), (.memSramUe, 0xFFFFFFFF, 12), (.lnkPort0Fec, 0xFFFFFFFF, 4),
   (.lnkPort1Fec, 0xFFFFFFFF, 4), (.lnkPort2Fec, 0xFFFFFFFF, 4), (.lnkPort0Retry, 0xFFFFFFFF, 4), (.lnkPort1Retry, 0xFFFFFFFF, 4),
   (.lnkPort2Retry, 0xFFFFFFFF, 4), (.pwrDroop, 0xFFFF0000, 1), (.pwrMean, 0xFFFF0000, 1)]

/-- The register file after a reset. -/
def Dev.keepRegs (d : Dev) : List (Nat × Nat) :=
  keptRegs.flatMap (fun (x : Reg × Nat × Nat) =>
    (List.range x.2.2).filterMap (fun i =>
      let a := x.1.card.at i
      (tget d.regs a).map (fun v => (a, v &&& x.2.1))))

/-- Device memory that a reset keeps: the stacks and the bundle store. -/
def keptByte (a : Nat) : Bool := decide (a < dpaEnd) || decide (storeAddr 0 ≤ a)

/-- What a reset cancels is reported before the chip restarts (R26, R27): the pending load, host copies, securing requests and the active
run complete as cancelled, and every record that waits is written to host memory (DEDUCED, log entry 165). -/
def State.reportCancelled (s : State) : State :=
  let d := (s.dev.loadCancel none).cancelItems none
  let d1 := match d.seq.run with
    | none => d
    | some r => d.leaveRun stCancelled (if d.midStep then r.lastStep else s.nextStep) none
  Nat.repeat (fun (u : State) => u.commandCompletion true) d1.hst.done.length { s with dev := d1 }

/-- The chip after a reset order (R541): it starts again at stage 2. -/
def State.restart (s : State) : State :=
  let d := s.dev
  let settling := decide (d.ldg.state = .settling)
  let k := d.keepRegs
  { s with
    mem := s.mem.filter (fun (c : Host.Cell) => keptByte c.1)
    dev := { ({} : Dev) with
      regs := k.foldl (fun (t : List (Nat × Nat)) x => tput t x.1 x.2) []
      flt := { log := d.flt.log, nextSeq := d.flt.nextSeq, haltRecord := d.flt.haltRecord }
      hst := { stage := 2, smbus := d.hst.smbus, thermTrip := d.hst.thermTrip, seated := d.hst.seated }
      stk := { poison := d.stk.poison.filter (fun g => keptByte (64 * g)), upsets := d.stk.upsets.filter (fun (x : Nat × Nat) => keptByte (64 * x.1))
               spares := d.stk.spares, spareOut := d.stk.spareOut }
      pwr := { droop := d.pwr.droop, rails := d.pwr.rails, since9011 := d.pwr.since9011 }
      sec := { d.sec with window := [], keyOps := [], meas := 0, stages := [], svn := 0, bootBank := d.sec.activeBank, fallback := false, updating := false }
      obs := { nextRecord := d.obs.nextRecord }
      prt := { held := d.prt.held, mirrorSealed := d.prt.mirrorSealed, age := d.prt.age
               states := if settling then (List.range 64).map (fun g => (g, ProtState.rollback)) else [] }
      lnk := { feeds := d.lnk.feeds }
      out := d.out, free := d.free } }

/-- A reset takes effect at its tick (R519, R436): with the escrow settling the groups enter the rollback state (Table 10.7), what is still
waiting is logged, what is cancelled is reported, farewells go out, and the chip restarts. -/
def State.resetTick (s : State) : State :=
  let d := if s.dev.ldg.state = .settling then s.dev.enterRollback else s.dev
  let s1 := (State.drainFaults faultRounds { s with dev := d }).reportCancelled
  ({ s1 with dev := s1.dev.sendHails 3 Link.hails } : State).restart

/-- A reset order of the device's own or of the CXL link waits for the next tick (R525, R561). -/
def Dev.orderOwnReset (d : Dev) (src : Master) : Dev :=
  let o : Order := { src := src, bits := 0x20, key := 0xA5, at_ := 0, arrival := d.frm.frame, pos := d.arrived }
  { d with flt := { d.flt with orders := d.flt.orders ++ [o] } }

/-- Rails go off (R545): everything but the flash and the journal is lost; the cause is latched for the next power-good. -/
def State.railsOff (s : State) (cause : Nat) : State :=
  let d := s.dev
  { s with
    mem := []
    dev := { ({} : Dev) with
      hst := { latchedCause := some cause, thermTrip := d.hst.thermTrip, seated := d.hst.seated }
      sec := { d.sec with window := [], keyOps := [], meas := 0, stages := [], svn := 0, fallback := false, updating := false }
      out := d.out, free := d.free } }

/-! ### The commands -/

/-- FAULT_HANDLE (R497). -/
def execFaultHandle (s : State) : Host.Outcome State Fault Refusal :=
  .next s.faultHandle

/-- CONTROL_DIE_UE (R500). -/
def execControlDieUE (parity : Bool) (s : State) : Host.Outcome State Fault Refusal :=
  .next (s.fixedPath (if parity then 0x1065 else 0x1066))

/-- ORDER_STOP_AT_TICK (R507): a write of FLT.ORDER. -/
def execOrderStopAtTick (src : Master) (value : BitVec 32) (s : State) : Host.Outcome State Fault Refusal :=
  .next { s with dev := s.dev.orderWrite src value.toNat }

/-- ORDER_HALT_NOW (R514): a write of FLT.ORDER. -/
def execOrderHaltNow (src : Master) (value : BitVec 32) (s : State) : Host.Outcome State Fault Refusal :=
  .next { s with dev := s.dev.orderWrite src value.toNat }

/-- ORDER_FABRIC_STOP (R510): a write of FLT.ORDER. -/
def execOrderFabricStop (src : Master) (value : BitVec 32) (s : State) : Host.Outcome State Fault Refusal :=
  .next { s with dev := s.dev.orderWrite src value.toNat }

/-- ORDER_RESUME (R517): a write of FLT.ORDER. -/
def execOrderResume (src : Master) (value : BitVec 32) (s : State) : Host.Outcome State Fault Refusal :=
  .next { s with dev := s.dev.orderWrite src value.toNat }

/-- ORDER_RESET (R519): a write of FLT.ORDER. -/
def execOrderReset (src : Master) (value : BitVec 32) (s : State) : Host.Outcome State Fault Refusal :=
  .next { s with dev := s.dev.orderWrite src value.toNat }

/-- STOP_COMPLETE (R509): a stop in progress is complete at a tick, so that within a frame there is nothing to do. -/
def execStopComplete (s : State) : Host.Outcome State Fault Refusal :=
  .next (if s.dev.frm.cycle = 0 then s.stopComplete else s)

/-- HALTED (R514). -/
def execHalted (offsets : List (Fin 49)) (s : State) : Host.Outcome State Fault Refusal :=
  .next { s with dev := s.dev.halted (offsets.map Fin.val) }

/-- A stop command is applied alone, as one order of this tick (R534). -/
def State.stopCommand (s : State) (ring : Nat) (e : Entry) : State :=
  let d1 := s.dev.takeStop ring e
  let new := d1.flt.orders.drop s.dev.flt.orders.length
  let d2 := ({ d1 with flt := { d1.flt with orders := s.dev.flt.orders } } : Dev)
  ({ s with dev := new.foldl (Dev.applyOrder · true) d2 } : State).stopEffects

/-- STOP_COMMAND (R534): the entry at the head of its ring is a stop command; it becomes a host order of this tick, which is applied, and
what is due takes effect. -/
def execStopCommand (ring : Fin 64) (entry : BitVec 1024) (s : State) : Host.Outcome State Fault Refusal :=
  let e : Entry := entry
  .next (if (s.dev.ring ring.val).due && decide (e.opcode = 7) then s.stopCommand ring.val e else s)

/-- CXL_RESET_EVENT (R525). -/
def execCxlResetEvent (kind : CxlReset) (s : State) : Host.Outcome State Fault Refusal :=
  .next (match kind with
    | .linkDown | .surpriseRemoval | .hotReset | .functionLevelReset | .perst =>
      { s with dev := (s.dev.raise 0xB006 37 0 0).orderOwnReset .host })

/-- CONTROL_FLIT_RECEIVE (R421, R512). -/
def execControlFlitReceive (port : Fin 12) (lane : Fin 8) (flit : List Byte) (arrival : Int) (s : State) : Host.Outcome State Fault Refusal :=
  .next { s with dev := (s.dev.hearControl port.val lane.val flit arrival).hearMarker port.val lane.val flit }

end Sys2Proof.Machine
end

