-- ==== Sys2Proof/Machine/Security.lean ====
section
/-! DEFINITION. The security engine and the management messages that read or seal: owner keys, the journal's seals and
acknowledgements, attestation, firmware update and the sensors (R552 to R569, R603). -/

namespace Sys2Proof.Machine

/-- A change from this master is refused with notice 0xA021 where the journal is full (R567); `false` when it may go on. -/
def Dev.refuseChange (d : Dev) (src : Master) (where_ detail : Nat) : Bool × Dev :=
  if d.journalFull src then (true, d.raise 0xA021 24 where_ detail) else (false, d)

/-! ### Owner keys (R557, R572) -/

/-- The 1,793 bytes that stand in the SEC.KEY_DATA window. -/
def Sec.windowKey (s : Sec) : List Byte := ((List.range 512).flatMap (fun i => leBytes 4 (tgetD s.window i 0))).take 1793

/-- Identifier of the key in a slot, 0 for an empty one. -/
def Sec.slotId (s : Sec) (slot : Nat) : Nat := match tget s.keys slot with
  | none => 0
  | some k => keyIdOf k.2

/-- A write of SEC.KEY_CTL or a KEY_WRITE message waits for the tick. -/
def Dev.keyOrder (d : Dev) (o : KeyOp) : Dev := { d with sec := { d.sec with keyOps := d.sec.keyOps ++ [o] } }

/-- A key command is applied (R557). -/
def Dev.applyKey (d : Dev) (o : KeyOp) : Dev :=
  let r := d.refuseChange o.src o.slot 0
  if r.1 then r.2
  else
    let old := d.sec.slotId o.slot
    let note := fun (x : Dev) => x.journal (masterNum o.src) 7 false o.slot 0 old (x.sec.slotId o.slot)
    if o.erase then note { d with sec := { d.sec with keys := tdel d.sec.keys o.slot } }
    else
      let key := o.key.getD d.sec.windowKey
      if key.headD 0 ≠ 0x0A ∨ o.use = 0 then d.raise 0xA011 24 o.slot 0
      else note { d with sec := { d.sec with keys := tput d.sec.keys o.slot (o.use, key) } }

/-- The key commands of a tick, management's before the host's (R504). -/
def Dev.applyKeys (d : Dev) : Dev :=
  let by_ := fun (m : Master) => d.sec.keyOps.filter (fun (o : KeyOp) => decide (o.src = m))
  (by_ .management ++ by_ .host).foldl Dev.applyKey { d with sec := { d.sec with keyOps := [] } }

/-! ### Seals and acknowledgements (R565, R566) -/

/-- Write a seal of the newest entry, when a seal slot is free. -/
def Dev.sealNow (d : Dev) : Dev :=
  match d.sec.journal with
  | [] => d
  | e :: _ =>
    if d.sec.seals.length < 512 then { d with sec := { d.sec with seals := sealOf d.free e :: d.sec.seals }, free := d.free + 1 } else d

/-- A seal as it is sent: SEQ, CHAIN and the signature. -/
def Seal.bytes (x : Seal) : List Byte := leBytes 8 x.seq ++ leBytes 32 x.chain ++ x.sig

/-- An acknowledgement: `false` when it is ignored with 0xA024. It frees slots and seals before its own entry is written. -/
def Dev.acknowledge (d : Dev) (src : Master) (seq : Nat) : Bool × Dev :=
  if seq + 1 < d.sec.acked ∨ d.sec.nextSeq < seq + 1 then (false, d.raise 0xA024 24 0 seq)
  else if seq + 1 = d.sec.acked then (true, d)
  else
    let old := d.sec.acked - 1
    let d1 := { d with sec := { d.sec with acked := seq + 1, seals := d.sec.seals.filter (fun (x : Seal) => decide (seq < x.seq)) } }
    (true, d1.journal (masterNum src) 10 false (Reg.secJrnAckLo.card.addr) 0 old seq)

/-- JRN_READ: the held entries of up to 32 numbers from `first`, and the held seals that cover them: those in the range, and the next one
after it. -/
def Dev.journalRead (d : Dev) (first count : Nat) : List Byte :=
  let n := min 32 count
  let es := (d.sec.journal.filter (fun (e : JEntry) => decide (first ≤ e.seq ∧ e.seq < first + n))).reverse
  let ss := d.sec.seals.reverse
  let cover := ss.filter (fun (x : Seal) => decide (first ≤ x.seq ∧ x.seq < first + n)) ++
    (ss.find? (fun (x : Seal) => decide (first + n ≤ x.seq))).toList
  es.flatMap JEntry.bytes ++ (if es.isEmpty then [] else cover.flatMap Seal.bytes)

/-! ### Attestation (R562) -/

/-- Bytes 0 to 303 of the report (Table 13.5). -/
def Dev.reportBody (d : Dev) (nonce : Nat) : List Byte :=
  let c := match d.cht.active with
    | none => (0, 0)
    | some x => (x.digest.toNat % 2 ^ 256, x.id)
  leBytes 4 0x54545441 ++ leBytes 2 1 ++ leBytes 2 0 ++ leBytes 32 nonce ++ leBytes 8 Config.fingerprint.toNat ++
  leBytes 1 (nfld (d.reg .ctlIdent) 16 8) ++ leBytes 1 (d.sec.bootBank + 128 * b2n d.sec.fallback) ++ leBytes 2 d.sec.svn ++
  leBytes 6 d.frm.frame ++ leBytes 6 0 ++ leBytes 32 d.sec.meas ++ (List.range 4).flatMap (fun i => leBytes 32 (d.sec.stages.getD i 0)) ++
  leBytes 32 c.1 ++ leBytes 8 c.2 ++ leBytes 8 (d.sec.nextSeq - 1) ++ leBytes 32 d.sec.chain

/-- The report with its signature, and the identity certificate. -/
def Dev.attestation (d : Dev) (nonce : Nat) : List Byte :=
  let b := d.reportBody nonce
  let sig := signBytes d.free b
  b ++ leBytes 2 sig.length ++ sig ++ identityCert

/-! ### The management port (R568, R603) -/

/-- Who answers on the management port: nobody before stage 2, the boot ROM's recovery service in stage 2, the controller after it. -/
inductive MgmtService where
  | none
  | recovery
  | controller
  deriving DecidableEq, Repr

def Dev.mgmt (d : Dev) : MgmtService := if d.hst.stage < 2 then .none else if d.hst.stage = 2 then .recovery else .controller

/-- Answer a request that only the management controller serves. -/
def State.controller (s : State) (f : State → State) : State :=
  match s.dev.mgmt with
  | .none => s
  | .recovery => { s with dev := s.dev.emit .mctpError }
  | .controller => f s

/-- The next value of the model's counter of free values. -/
def Dev.tickFree (d : Dev) : Dev := { d with free := d.free + 1 }

/-! ### Firmware (R558 to R561) -/

/-- A journal entry of the firmware store: the bank, what happened (1 update started, 2 image accepted, 3 image rejected, 4 activation)
and the image digest. -/
def Dev.journalFirmware (d : Dev) (event digest : Nat) : Dev := d.journal 0 8 true (1 - d.sec.bootBank) 0 event digest

/-- What refuses RequestUpdate (R561). -/
def Dev.updateBusy (d : Dev) : Bool := d.seq.run.isSome || decide (d.ldg.state ≠ .idle) || d.protectionBusy

/-- REQUEST_UPDATE, to the controller or to the recovery service. The digest of the image to come, which the journal's entry of the start
holds, is a free value (DESIGN CHOICE, log entry 200). -/
def Dev.requestUpdate (d : Dev) : Dev :=
  if d.mgmt = .none then d
  else if d.updateBusy then d.emit .pldmBusy
  else if d.journalFull .management then (d.raise 0xA021 24 0 0).emit (.accepted false)
  else
    let d1 := (d.sendHails 3 Link.hails).journalFirmware 1 (Config.announcedImage d.free).toNat
    ({ d1 with sec := { d1.sec with updating := true, image := none }, free := d1.free + 1 } : Dev).emit (.accepted true)

/-- FIRMWARE_IMAGE_VERIFIED: the received image has been checked in full (R559, R561). With no journal slot free the result is refused, and
the update stays open (R567). -/
def Dev.imageVerified (d : Dev) (image : List Byte) (svn : Nat) (ok : Bool) : Dev :=
  if !d.sec.updating then d
  else if d.journalSpent then d.raise 0xA021 24 0 0
  else
    let digest := shake256 image
    let x := { d with sec := { d.sec with updating := false } }
    if ok && decide (d.sec.minSvn ≤ svn) then
      let y := x.journalFirmware 2 digest
      { y with sec := { y.sec with image := some (digest, svn) } }
    else (x.raise 0xA003 24 0 0).journalFirmware 3 digest

/-- ACTIVATE_FIRMWARE: the verified image's bank boots from now on, by a reset order of the next tick. As a reset order it is refused only
once the journal has no slot left (R567). -/
def Dev.activate (d : Dev) : Dev :=
  if d.mgmt = .none then d
  else match d.sec.image with
    | none => d.emit (.accepted false)
    | some x =>
      if 65536 ≤ d.sec.unexported then (d.raise 0xA021 24 0 0).emit (.accepted false) else
      let d1 := d.journalFirmware 4 x.1
      (({ d1 with sec := { d1.sec with image := none, activeBank := 1 - d1.sec.bootBank, raiseSvn := some x.2 } } : Dev).orderOwnReset
        .management).emit (.accepted true)

/-! ### Sensors (R569, Table 13.8) -/

/-- The value of a PLDM sensor; `none` for an ID that Table 13.8 does not name. -/
def Dev.sensor (d : Dev) (i : Nat) : Option Nat :=
  match i with
  | 1 => some (d.regFld .pwrInput 0 16)
  | 2 => some (d.regFld .pwrMean 0 16)
  | 3 => some (d.regFld .pwrTherm 0 8)
  | 4 => some (d.regFld .pwrTherm 16 8)
  | 5 => some (d.regFld .pwrTherm 24 8)
  | 6 => some d.prt.score
  | 7 => some (sumNat d.pwr.recent)
  | 8 => some d.sec.unexported
  | _ => none

/-! ### The commands -/

/-- ATTEST (R562). -/
def execAttest (nonce : BitVec 256) (s : State) : Host.Outcome State Fault Refusal :=
  .next (if s.dev.mgmt = .none then s
    else { s with dev := (s.dev.emit (.bytes (s.dev.attestation nonce.toNat))).tickFree })

/-- JRN_READ (R568). -/
def execJrnRead (first : BitVec 64) (count : Nat) (s : State) : Host.Outcome State Fault Refusal :=
  .next (s.controller (fun x => { x with dev := x.dev.emit (.bytes (x.dev.journalRead first.toNat count)) }))

/-- JRN_ACK (R566): the management message. -/
def execJrnAck (seq : BitVec 64) (s : State) : Host.Outcome State Fault Refusal :=
  .next (s.controller (fun x =>
    let r := x.dev.acknowledge .management seq.toNat
    { x with dev := r.2.emit (.accepted r.1) }))

/-- JRN_SEAL (R565): the management message, answered with the new seal, or as refused where no slot was free or no entry stands (DESIGN
CHOICE, log entry 176). -/
def execJrnSeal (s : State) : Host.Outcome State Fault Refusal :=
  .next (s.controller (fun x =>
    let d := x.dev.sealNow
    if d.sec.seals.length = x.dev.sec.seals.length then { x with dev := x.dev.emit (.accepted false) }
    else { x with dev := d.emit (.bytes ((d.sec.seals.head?.map Seal.bytes).getD [])) }))

/-- KEY_WRITE (R568): applied under R557. -/
def execKeyWrite (slot : Fin 8) (use : BitVec 2) (key : List Byte) (erase : Bool) (s : State) : Host.Outcome State Fault Refusal :=
  .next (s.controller (fun x =>
    let d := x.dev.keyOrder { src := .management, slot := slot.val, erase := erase, use := use.toNat, key := some key }
    { x with dev := d.emit (.accepted true) }))

/-- PLDM_SENSOR_READ (R569). -/
def execPldmSensorRead (sensor : Nat) (s : State) : Host.Outcome State Fault Refusal :=
  .next (s.controller (fun x =>
    { x with dev := x.dev.emit (match x.dev.sensor sensor with
      | some v => .value v
      | none => .accepted false) }))

/-- REQUEST_UPDATE (R561). -/
def execRequestUpdate (s : State) : Host.Outcome State Fault Refusal :=
  .next { s with dev := s.dev.requestUpdate }

/-- ACTIVATE_FIRMWARE (R561). -/
def execActivateFirmware (s : State) : Host.Outcome State Fault Refusal :=
  .next { s with dev := s.dev.activate }

/-- FIRMWARE_IMAGE_VERIFIED (R561). -/
def execFirmwareImageVerified (image : List Byte) (svn : BitVec 16) (ok : Bool) (s : State) : Host.Outcome State Fault Refusal :=
  .next { s with dev := s.dev.imageVerified image svn.toNat ok }

end Sys2Proof.Machine
end

