-- ==== Sys2Proof/Machine/View.lean ====
section
/-! DEFINITION. What a read of each BAR0 register shows (R8, R9 and the field tables of the register cards). A register whose value no other
state of the chip holds stands in `Dev.regs`. -/

namespace Sys2Proof.Machine

/-- Word `i` of a number. -/
def wordOf (v i : Nat) : Nat := v / 2 ^ (32 * i) % 2 ^ 32

/-- Word `i` of a record's bytes. -/
def byteWord (b : List Byte) (i : Nat) : Nat := leNat ((b.drop (4 * i)).take 4)

/-! ### Frames and bundles (R89, R90) -/

/-- FRM.ALIGN. -/
def Dev.viewAlign (d : Dev) : Nat :=
  2 ^ 8 * wrap 8 (clampInt (-128) 127 d.frm.offset) + 2 * b2n d.frm.joining + b2n d.frm.aligned

/-- BND.STATE. -/
def Dev.viewBnd (d : Dev) : Nat :=
  let st := if d.flt.stop = .stopped ∨ d.flt.stop = .halted ∨ d.flt.stop = .chipStopped then 4
    else if d.seq.run.isNone then 0
    else if d.flt.cancel.isSome then 3
    else if d.canIssue then 1 else 2
  2 ^ 8 * d.seq.lastIndex + 8 * b2n (d.cht.active.isSome && d.modeRuna) + st

/-! ### Arrays (R225, R306, R307) -/

/-- FWD.PSEL of the layer that PSEL_INDEX names. -/
def Dev.viewPsel (d : Dev) : Nat :=
  let l := d.regFld .fwdPselIndex 0 10
  let p : Nat × Nat := (tget d.fwd.psel l).getD (0, 0)
  2 ^ 12 * b2n d.fwd.coldCensus + 2 ^ 8 * p.2 + 2 ^ 4 * (if l < d.layerCount then (d.layer l).pmax else 0) + p.1

/-- The deposit buffer of a tile is occupied now: from its move until the committed end of the deposit that empties it
(R281, R282). -/
def Dev.depBusy (d : Dev) (x : BwdTile) : Bool :=
  (x.deposit.isSome && decide (x.moveAt ≤ d.frm.cycle)) || decide (d.frm.cycle < x.busyUntil)

/-- BWD.STATUS of a die (R291, R306). -/
def Dev.viewBwd (d : Dev) (i : Nat) : Nat :=
  let busy := (d.bwd.tiles.filter (fun (t : Nat × BwdTile) => decide (t.1 / 16 = i) && d.depBusy t.2)).length
  2 ^ 16 * busy + (if d.bwd.gated then 0 else if d.bwdAsleep d.frm.cycle then 1 else 2)

/-- LAY.STATUS.BUSY: the engine moves 64 elements a cycle (R399), from the cycle after its set-up until its last element is written (R402;
DEDUCED, log entry 116). -/
def Job.moving (cycle : Nat) (j : Job) : Bool := decide (j.begins ≤ cycle ∧ cycle < j.begins + ceilDiv j.ranges.length 64)

/-- ROW.STATUS of a die. -/
def Dev.viewRow (d : Dev) (i : Nat) : Nat :=
  let s := tgetD d.row.spans i (0, 0)
  2 ^ 8 * b2n (decide (s.1 ≤ d.frm.cycle ∧ d.frm.cycle < s.2)) + tgetD d.row.func i 0

/-! ### Trackers and ledger (R262, R359) -/

/-- MNT.HIST_BIN: a bin of the selected tensor's histogram in the tally area. -/
def State.viewHistBin (s : State) : Nat :=
  leNat (((s.tallyRecord (s.dev.regFld .mntHistSel 0 12)).drop (32 + 4 * s.dev.regFld .mntHistSel 16 6)).take 4)

/-- MNT.HIST_EXT; its reset value where the tensor has no record. -/
def State.viewHistExt (s : State) : Nat :=
  let r := s.tallyRecord (s.dev.regFld .mntHistSel 0 12)
  if r.all (fun b => decide (b = 0)) then 0x80007FFF else 2 ^ 16 * bytesAt r (32 + 256) 2 + bytesAt r (32 + 258) 2

/-- LDG.ESCROW.STATE (Table 7.7). -/
def EscrowState.val : EscrowState → Nat
  | .idle => 0
  | .clearing => 1
  | .cleared => 2
  | .held => 3
  | .settling => 4
  | .settled => 5
  | .reverting => 6

/-- LDG.ESCROW. TIMER is 0 until the tick at which a wait starts. DIVERGED stays in view when the step it was set for is abandoned,
until the next step clears (DEDUCED, log entry 157). -/
def Dev.viewEscrow (d : Dev) : Nat :=
  let timer := match d.ldg.waitFrom with
    | none => 0
    | some f => if tickDue f d.frm.frame then min 4095 (framesTo d.frm.frame (frameAfter f d.settleWindow)) else 0
  2 ^ 16 * timer + d.ldg.state.val +
    (match d.escrowed with
      | none => (match d.ldg.record with
        | none => 0
        | some e => 2 ^ 7 * b2n (e.diverged && decide (d.ldg.state = .idle)))
      | some e => 2 ^ 8 * (d.liveRanks.length + 1) + 2 ^ 7 * b2n e.diverged + 2 ^ 6 * b2n e.nonfin + 2 ^ 5 * b2n e.spike + 2 ^ 4 * b2n e.lovf)

/-- The ranks whose report of a kind has arrived for the escrowed step, as a bit mask. -/
def Dev.viewRanks (d : Dev) (kind : Nat) : Nat :=
  match d.escrowed with
  | none => 0
  | some e => sumNat ((List.range 64).map (fun k => if d.hasReport k kind e.step then 2 ^ k else 0))

/-! ### Memory and layout (R401, R402) -/

/-- MEM.STATUS of a stack. -/
def Dev.viewMem (d : Dev) (i : Nat) : Nat :=
  let dies := (List.range 16).map (fun x => 16 * i + x)
  let ready := d.hst.trained.testBit i
  2 ^ 8 * sumNat (dies.map (fun x => tgetD d.stk.spares x 0)) + 4 * b2n (dies.any (fun x => d.stk.spareOut.contains x)) + 3 * b2n ready

/-- MEM.LEDGER of a stack: the shares of the valid ledger allocations on it, in 4 KiB. -/
def Dev.viewLedger (d : Dev) (i : Nat) : Nat :=
  match d.cht.active with
  | none => 0
  | some c => sumNat ((List.range c.allocs.length).map (fun a =>
      let e := d.alloc a
      if e.valid && e.purpose = 1 && e.loc = 0 && e.placeList.contains i then d.share e / 4096 else 0))

/-- The entry that MEM.ALLOC_SEL shows, as the charter holds it. -/
def Dev.shownAlloc (d : Dev) : Nat :=
  match d.cht.active with
  | none => 0
  | some c => (c.allocs.getD (d.regFld .memAllocSel 0 12) 0).toNat

/-! ### Links and partners (R446) -/

/-- LNK.FEED of an exchange die. -/
def Dev.viewFeed (d : Dev) (i : Nat) : Nat :=
  let f := d.feeds i
  2 ^ 16 * min 65535 f.switches + 4 * b2n f.onB + 2 * b2n f.bOk + b2n f.aOk

/-- LNK.PORTj_STATUS of a port. -/
def Dev.viewPort (d : Dev) (p : Nat) : Nat :=
  let links := d.lnk.links.filter (fun (l : Link) => l.port = p)
  let mask := fun (f : Link → Bool) => sumNat ((List.range 8).map (fun i => if links.any (fun l => f l && l.lanes.contains i) then 2 ^ i else 0))
  let margins := ((List.range 8).map (fun i => d.lane p i)).filterMap (fun (x : Lane) => if x.trained then some x.margin else none)
  2 ^ 24 * (match margins with
    | [] => 0
    | m :: r => min 255 (r.foldl min m)) +
    2 ^ 16 * (links.filter (fun (l : Link) => l.up)).length + 2 ^ 8 * mask (fun l => l.foreign) + mask (fun l => l.up)

/-- LNK.SYNC. -/
def Dev.viewSync (d : Dev) : Nat :=
  2 ^ 16 * b2n d.lnk.solitary + d.lnk.hops % 16 +
    (match d.lnk.upstream with
      | none => 0
      | some p => 2 ^ 8 * (2 ^ 4 * p.1 + p.2))

/-- The partner entry that LNK.PT_SEL shows. -/
def Dev.shownPartner (d : Dev) : Partner := d.partner (d.regFld .lnkPtSel 0 8)

/-- LNK.PT_STATE. -/
def Dev.viewPtState (d : Dev) : Nat :=
  let p := d.shownPartner
  let links := if p.state = .free then [] else d.linksTo p.fp
  2 ^ 16 * sumNat ((List.range 12).map (fun i => if links.any (fun (l : Link) => l.port = i) then 2 ^ i else 0)) +
    2 ^ 8 * min 96 links.length + p.state.val

/-- LNK.STREAM_STATE. -/
def Dev.viewStream (d : Dev) : Nat :=
  let x : StreamState := tgetD d.lnk.streams (d.regFld .lnkStreamSel 0 12) {}
  2 ^ 17 * b2n (decide (0 < x.waiting)) + 2 ^ 16 * b2n x.bound.isSome + 2 ^ 8 * (x.recv % 256) + x.send % 256

/-! ### Protection (R491) -/

/-- PRT.SNAP. -/
def Dev.viewSnap (d : Dev) : Nat :=
  let part := if d.prt.snapState = 2 then 255 else match d.prt.snap with
    | some sn => sn.progress
    | none => d.prt.progress
  2 ^ 16 * d.prt.lastGen + 2 ^ 8 * part + d.prt.snapState

/-- PRT.MIRROR. -/
def Dev.viewMirror (d : Dev) : Nat :=
  2 ^ 16 * min 65535 d.prt.mirrorSealed + 4 * b2n d.prt.every +
    (match d.prt.mirrorState with
      | .idle => 0
      | .streaming => 1
      | .sealed => 2
      | .abandoned => 3)

/-- PRT.GROUP of the group that GROUP_SEL shows. -/
def State.viewGroup (s : State) : Nat :=
  let d := s.dev
  let g := d.regFld .prtGroupSel 0 6
  let shared := (List.range d.tensorCount).any (fun i => decide ((d.tensor i).pgroup = g) && d.protectedTensor i && d.feedShared i)
  if !(d.protGroup g).valid then 0
  else 2 ^ 16 * s.bayMiB g + 2 ^ 12 * min 8 (tgetD d.prt.used g 0) + 2 ^ 8 * min 8 (tgetD d.prt.lost g []).length +
    2 ^ 4 * b2n (d.prt.skipped.contains g) + 2 ^ 3 * b2n shared + (d.protState g).val

/-- PRT.REFILL: a chip that serves a refill shows 2. -/
def Dev.viewRefill (d : Dev) : Nat :=
  match d.prt.refill, d.prt.serving with
  | some r, _ => 2 ^ 8 * (r.source.getD 0) + d.prt.refillState
  | none, some _ => 2
  | none, none => d.prt.refillState

/-! ### Faults and host (R521, R543) -/

/-- FLT.STATUS.STOP. -/
def StopState.val : StopState → Nat
  | .running => 0
  | .stopping => 1
  | .stopped => 2
  | .halted => 3
  | .chipStopped => 4

/-- FLT.STATUS. -/
def Dev.viewFlt (d : Dev) : Nat :=
  2 ^ 16 * (match d.flt.handling with
    | none => 0
    | some r => r.code) + 2 ^ 8 * d.flt.stop.val + 2 ^ 7 * b2n d.flt.overflow + min 32 (d.flt.queue.length + b2n d.flt.handling.isSome)

/-- FLT.LOG_DATA. -/
def Dev.viewLog (d : Dev) : Nat :=
  match d.flt.log[d.regFld .fltLogSel 0 8]? with
  | none => 0
  | some r => byteWord r.bytes (d.regFld .fltLogSel 8 3)

/-- FLT.FABRIC_LO and FABRIC_HI as one quantity. -/
def Dev.viewFabric (d : Dev) : Nat :=
  match d.flt.fabric with
  | none => 0
  | some m => 2 ^ 63 + 2 ^ 62 * b2n m.now + m.t % 2 ^ 48

/-- FLT.HALT_DATA. -/
def Dev.viewHalt (d : Dev) : Nat :=
  match d.flt.haltRecord with
  | none => 0
  | some r => byteWord r.bytes (d.regFld .fltHaltSel 0 7)

/-- The 64 bytes of the self-test record (Table 12.8). -/
def SelfTest.bytes (t : SelfTest) : List Byte :=
  leBytes 1 t.result ++ leBytes 1 t.step ++ leBytes 2 t.vectors ++ leBytes 2 t.mismatch ++ leBytes 1 (min 16 t.links.length) ++
  leBytes 1 0 ++ leBytes 8 t.digest8 ++
  (List.range 16).flatMap (fun i => match t.links[i]? with
    | none => leBytes 2 0xFFFF
    | some x => leBytes 1 x.1 ++ leBytes 1 x.2) ++ leBytes 16 0

/-- RING_CFG of a ring. -/
def Ring.cfgWord (r : Ring) : Nat := 2 ^ 8 * r.vector + 2 ^ 4 * r.log2 + b2n r.enable

/-- The ring that HST.RING_SEL shows. -/
def Dev.shownRing (d : Dev) : Ring := d.ring (d.regFld .hstRingSel 0 6)

/-! ### Power, security, observation (R571, R572, R594) -/

/-- The key slot that SEC.KEY_SEL shows: its USE and the first 8 bytes of its identifier. -/
def Dev.shownKey (d : Dev) : Nat × Nat :=
  let i := d.regFld .secKeySel 0 3
  match tget d.sec.keys i with
  | none => (0, 0)
  | some k => (k.1, d.sec.slotId i % 2 ^ 64)

/-- SEC.JRN_DATA. -/
def Dev.viewJrn (d : Dev) : Nat :=
  match d.sec.journal[d.regFld .secJrnSel 16 16]? with
  | none => 0
  | some e => byteWord e.bytes (d.regFld .secJrnSel 0 5)

/-- OBS.CNT_CTL. -/
def Dev.viewCntCtl (d : Dev) : Nat := 4 * b2n d.obs.noAlloc + 2 * b2n d.obs.counting + d.regFld .obsCntCtl 0 1

/-- OBS.CNT_DATA: the entries frozen by a disabling are shown while counting is off (R578). -/
def Dev.viewCnt (d : Dev) : Nat :=
  let q := d.regFld .obsCntSel 0 8
  if 201 < q then 0 else byteWord (tgetD (d.obs.shown.getD d.entries) q ({} : Counter)).bytes (d.regFld .obsCntSel 8 2)

/-- OBS.TRC_STATUS.STATE. -/
def TrcState.val : TrcState → Nat
  | .off => 0
  | .recording => 1
  | .armed => 2
  | .triggered => 3
  | .full => 4
  | .paused => 5
  | .dumping => 6

/-- OBS.TRC_STATUS, as of the end of the current cycle. BADALLOC shows under drain, or once a dump has met the invalid allocation (R587, R591). -/
def Dev.viewTrc (d : Dev) : Nat :=
  let bad := d.traceAlloc.isNone && (decide (d.modeTrc = 3) || (d.reg .obsTrcStatus).testBit 10)
  let o := d.traceFlush.obs
  2 ^ 12 * min traceSlots o.buffer.length + 2 ^ 11 * d.regFld .obsTrcStatus 11 1 + 2 ^ 10 * b2n bad + 2 ^ 9 * b2n o.wrapped +
    2 ^ 4 * o.state.val + d.modeTrc

/-- OBS.TRC_DATA: a record counted from the oldest held. -/
def Dev.viewTrcData (d : Dev) : Nat :=
  let i := d.regFld .obsTrcSel 0 19
  let o := d.traceFlush.obs
  let n := o.buffer.length
  if n ≤ i then 0 else wordOf (o.buffer.getD (n - 1 - i) 0) (d.regFld .obsTrcSel 24 3)

/-! ### Every register -/

/-- Registers that only instance 0 shows: the others read 0 and ignore writes (R225, R262, R401, R446). Of LAY.CREATE
there is one instance and the others' offsets are unoccupied (R402, R10). -/
def Reg.chipOnly (r : Reg) : Bool :=
  [Reg.fwdPselIndex, .fwdPsel, .mntTrkAlloc, .mntStatus, .mntFlags, .mntHistSel, .mntHistBin, .mntHistExt, .mntSilent, .memAllocSel, .memAllocAttr,
    .memAllocPerm, .memAllocBase, .memAllocSizeLo, .memAllocSizeHi, .memSramCe, .memSramUe, .lnkDomainLo, .lnkDomainHi, .lnkSelfLo,
    .lnkSelfHi, .lnkRefLo, .lnkRefHi, .lnkSync, .lnkCtl, .lnkPtSel, .lnkPtState, .lnkPtFpLo, .lnkPtFpHi, .lnkPtDomainLo, .lnkPtDomainHi,
    .lnkPtFrameLo, .lnkPtFrameHi, .lnkStreamSel, .lnkStreamState, .lnkPtKeyLo, .lnkPtKeyHi].contains r

/-- The registers of the frame, charter, array, tracker and ledger blocks that show other state. -/
def State.viewCore (s : State) (r : Reg) (i : Nat) : Option Nat :=
  let d := s.dev
  match r with
  | .frmLen => some (2 ^ 8 * d.fwdLog2 + d.logLen)
  | .frmCountLo => some (wordOf d.frm.frame 0)
  | .frmCountHi => some (wordOf d.frm.frame 1)
  | .frmAlign => some d.viewAlign
  | .bndState => some d.viewBnd
  | .bndSeq => some (2 ^ 16 * d.seq.nest.length + d.seq.lastSeq)
  | .chtStatus => some (putFld (d.reg .chtStatus) 0 3 d.chtState)
  | .chtIdLo => some (wordOf ((d.cht.active.map Charter.id).getD 0) 0)
  | .chtIdHi => some (wordOf ((d.cht.active.map Charter.id).getD 0) 1)
  | .chtModes => some d.modes
  | .fwdPsel => some d.viewPsel
  | .mntStatus => some (putFld (d.reg .mntStatus) 1 1 (b2n (d.seq.inStep && d.mnt.warmup)))
  | .mntHistBin => some s.viewHistBin
  | .mntHistExt => some s.viewHistExt
  | .bwdStatus => some (d.viewBwd i)
  | .rowStatus => some (d.viewRow i)
  | .ldgStepLo => some (wordOf d.ldg.step 0)
  | .ldgStepHi => some (wordOf d.ldg.step 1)
  | .ldgEscrow => some d.viewEscrow
  | .ldgEstepLo => some (wordOf ((d.escrowed.map Escrow.step).getD 0) 0)
  | .ldgEstepHi => some (wordOf ((d.escrowed.map Escrow.step).getD 0) 1)
  | .ldgClearedLo => some (wordOf (d.viewRanks 1) 0)
  | .ldgClearedHi => some (wordOf (d.viewRanks 1) 1)
  | .ldgSettledLo => some (wordOf (d.viewRanks 2) 0)
  | .ldgSettledHi => some (wordOf (d.viewRanks 2) 1)
  | .ldgSumLo => some (wordOf ((d.escrowed.map Escrow.clearSum).getD 0) 0)
  | .ldgSumHi => some (wordOf ((d.escrowed.map Escrow.clearSum).getD 0) 1)
  | _ => none

/-- The registers of the memory, layout and link blocks that show other state. -/
def Dev.viewEdge (d : Dev) (r : Reg) (i : Nat) : Option Nat :=
  let p := d.shownPartner
  match r with
  | .memStatus => some (d.viewMem i)
  | .memScrub => some (putFld (d.reg .memScrub i) 16 8 (256 * d.stk.scrub.getD i 0 / stackGranules))
  | .memLedger => some (d.viewLedger i)
  | .memAllocAttr => some (nfld d.shownAlloc 0 20)
  | .memAllocPerm => some (nfld d.shownAlloc 128 16)
  | .memAllocBase => some (nfld d.shownAlloc 32 32)
  | .memAllocSizeLo => some (nfld d.shownAlloc 64 32)
  | .memAllocSizeHi => some (nfld d.shownAlloc 96 8)
  | .layStatus => some (b2n ((d.engine (layEngine i)).jobs.any (Job.moving d.frm.cycle)))
  | .lnkFeed => some (d.viewFeed i)
  | .lnkPort0Status => some (d.viewPort (3 * i))
  | .lnkPort1Status => some (d.viewPort (3 * i + 1))
  | .lnkPort2Status => some (d.viewPort (3 * i + 2))
  | .lnkSelfLo => some (wordOf Config.fingerprint.toNat 0)
  | .lnkSelfHi => some (wordOf Config.fingerprint.toNat 1)
  | .lnkRefLo => some (wordOf d.lnk.ref 0)
  | .lnkRefHi => some (wordOf d.lnk.ref 1)
  | .lnkSync => some d.viewSync
  | .lnkPtState => some d.viewPtState
  | .lnkPtFpLo => some (wordOf p.fp 0)
  | .lnkPtFpHi => some (wordOf p.fp 1)
  | .lnkPtDomainLo => some (p.feed % 2 ^ 16 + 2 ^ 16 * (p.loop_ % 2 ^ 16))
  | .lnkPtDomainHi => some (p.chassis % 2 ^ 16)
  | .lnkPtFrameLo => some (wordOf p.frame 0)
  | .lnkPtFrameHi => some (wordOf p.frame 1)
  | .lnkPtKeyLo => some (wordOf p.keyd 0)
  | .lnkPtKeyHi => some (wordOf p.keyd 1)
  | .lnkStreamState => some d.viewStream
  | _ => none

/-- The registers of the protection, fault and host blocks that show other state. -/
def State.viewHost (s : State) (r : Reg) : Option Nat :=
  let d := s.dev
  let j := d.regFld .prtInputSel 0 3
  match r with
  | .prtRisk => some (2 ^ 12 * b2n d.prt.t3 + 2 ^ 11 * b2n d.prt.t2 + 2 ^ 10 * b2n d.prt.t1 + d.prt.score)
  | .prtInput => some (2 ^ 16 * min 65535 (d.prt.inputs.getD j (0, 0)).1 + (d.prt.inputs.getD j (0, 0)).2 % 2 ^ 10)
  | .prtWeight => some (2 ^ 16 * (d.prt.weights.getD j (0, 0)).2 + (d.prt.weights.getD j (0, 0)).1)
  | .prtSnap => some d.viewSnap
  | .prtAge => some (min (2 ^ 32 - 1) d.prt.age)
  | .prtMirror => some d.viewMirror
  | .prtGroup => some s.viewGroup
  | .prtRefill => some d.viewRefill
  | .prtRecon => some (2 ^ 4 * d.prt.reconCheck + d.prt.recon)
  | .prtReconStepLo => some (wordOf d.prt.reconStep 0)
  | .prtReconStepHi => some (wordOf d.prt.reconStep 1)
  | .fltStatus => some d.viewFlt
  | .fltSeq => some ((d.flt.log.head?.map FaultRec.seq).getD 0)
  | .fltLogData => some d.viewLog
  | .fltFabricLo => some (wordOf d.viewFabric 0)
  | .fltFabricHi => some (wordOf d.viewFabric 1)
  | .fltHaltData => some d.viewHalt
  | .hstStart => some (2 ^ 8 * d.hst.selfTest.result + 2 ^ 4 * b2n d.hst.failed + d.hst.stage)
  | .hstStData => some (byteWord d.hst.selfTest.bytes (d.regFld .hstStSel 0 4))
  | .hstRingCfg => some d.shownRing.cfgWord
  | .hstRingHead => some (2 ^ 12 * b2n d.shownRing.phase + d.shownRing.head)
  | .hstCmdLo => some (wordOf d.shownRing.cmd 0)
  | .hstCmdHi => some (wordOf d.shownRing.cmd 1)
  | .hstCompLo => some (wordOf d.shownRing.comp 0)
  | .hstCompHi => some (wordOf d.shownRing.comp 1)
  | _ => none

/-- The registers of the power, security and observation blocks that show other state. -/
def Dev.viewService (d : Dev) (r : Reg) : Option Nat :=
  match r with
  | .pwrStatus => some (putFld (putFld (d.reg .pwrStatus) 3 1 (b2n d.bwd.gated)) 2 1 (b2n d.pwr.droop))
  | .pwrDroop => some (putFld (d.reg .pwrDroop) 0 16 (sumNat d.pwr.recent))
  | .secStatus => some (2 ^ 16 * d.sec.svn + 4 * b2n d.sec.fallback + 2 * d.sec.bootBank + d.regFld .secPolicy 0 1)
  | .secKeyAttr => some d.shownKey.1
  | .secKeyIdLo => some (wordOf d.shownKey.2 0)
  | .secKeyIdHi => some (wordOf d.shownKey.2 1)
  | .secJrnHeadLo => some (wordOf (d.sec.nextSeq - 1) 0)
  | .secJrnHeadHi => some (wordOf (d.sec.nextSeq - 1) 1)
  | .secJrnAckLo => some (wordOf (d.sec.acked - 1) 0)
  | .secJrnAckHi => some (wordOf (d.sec.acked - 1) 1)
  | .secJrnData => some d.viewJrn
  | .obsCntCtl => some d.viewCntCtl
  | .obsCntData => some d.viewCnt
  | .obsTrcStatus => some d.viewTrc
  | .obsTrcLostLo => some (wordOf d.traceFlush.obs.lost 0)
  | .obsTrcLostHi => some (wordOf d.traceFlush.obs.lost 1)
  | .obsTrcHeadLo => some (wordOf d.obs.head 0)
  | .obsTrcHeadHi => some (wordOf d.obs.head 1)
  | .obsTrcData => some d.viewTrcData
  | _ => none

/-- What a read of instance `i` of a register returns. -/
def State.view (s : State) (r : Reg) (i : Nat) : Nat :=
  if r.chipOnly && decide (i ≠ 0) then 0
  else (((s.viewCore r i).orElse (fun _ => s.dev.viewEdge r i)).orElse (fun _ => (s.viewHost r).orElse (fun _ => s.dev.viewService r))).getD
    (s.dev.reg r i)

/-! ### Pins of the management connector (R600, Table 15.4) -/

/-- What the module drives there. The open-drain signals say whether they are low. -/
structure Pins where
  alertLow : Bool
  thermTripLow : Bool
  pwrgd : Bool
  /-- FEED_SEATED0# to FEED_SEATED7#. -/
  seatedLow : List Bool
  deriving DecidableEq, Repr

/-- The pins follow FLT.STATUS.STOP, HST.START, the trip latch (R602), the rails and the microswitches (R605). -/
def Dev.pins (d : Dev) : Pins :=
  { alertLow := decide (d.flt.stop = .halted ∨ d.flt.stop = .chipStopped) || d.hst.failed
    thermTripLow := d.hst.thermTrip
    pwrgd := d.pwr.rails && decide (2 ≤ d.hst.stage)
    seatedLow := (List.range 8).map (fun i => d.hst.seated.testBit i) }

end Sys2Proof.Machine
end

