-- ==== Sys2Proof/Machine/Regs.lean ====
section
/-! DEFINITION. The BAR0 bus: reads and writes by the host and by the management port, immediate and staged effects, the latch of R11 and the
commit of R12, and the journal entries of register changes (R8 to R17, R527, R557, R565, R566, R568, R572, R578, R586, R592). -/

namespace Sys2Proof.Machine

/-! ### Windows beside the register cards -/

/-- The SEC.KEY_DATA window (R572). -/
def inKeyWindow (a : Nat) : Bool := decide (0x681000 ≤ a ∧ a < 0x681800)

/-- The MSI-X table of 65 vectors and the pending-bit array (R526); their words are PCI's. PRESUMED, log entry 55. -/
def inMsix (a : Nat) : Bool := decide (0x708000 ≤ a ∧ a < 0x708410) || decide (0x709000 ≤ a ∧ a < 0x709010)

/-- A word of the MSI-X table: vector control words are masked at reset. PRESUMED, log entry 55. -/
def Dev.msixWord (d : Dev) (a : Nat) : Nat := tgetD d.regs a (if a < 0x709000 ∧ a % 16 = 12 then 1 else 0)

/-- The endpoint number of a master's edge (Table 11.3). -/
def masterUnit (src : Master) : Nat := if src = .management then 38 else 37

/-- An access to an offset that no register occupies (R10). -/
def Dev.unoccupied (d : Dev) (src : Master) (a : Nat) : Dev := d.raise 0xB001 (masterUnit src) 0 a

/-! ### Reads (R8, R10, R11) -/

/-- A 32-bit read of BAR0: the value, and the state after it. A register keeps one latched high word for all masters (DESIGN CHOICE, log
entry 189). -/
def State.busRead (s : State) (src : Master) (a : Nat) : Nat × State :=
  match regAt a with
  | some x =>
    let r := x.1.reg
    if r.isLow then
      let hi := match regAt (a + 4) with
        | none => 0
        | some y => s.view y.1.reg y.2
      (s.view r x.2, { s with dev := { s.dev with latched := tput s.dev.latched (a + 4) hi } })
    else match tget s.dev.latched a with
      | some v => (v, { s with dev := { s.dev with latched := tdel s.dev.latched a } })
      | none => (s.view r x.2, s)
  | none =>
    if inKeyWindow a && decide (a % 4 = 0) then (0, s)
    else if inMsix a && decide (a % 4 = 0) then (s.dev.msixWord a, s)
    else (0, { s with dev := s.dev.unoccupied src a })

/-! ### What a write changes -/

/-- What the register's selector shows: the ring, the risk input or 0. -/
def Dev.selected (d : Dev) (r : Reg) : Nat :=
  match r with
  | .hstRingCfg | .hstCmdHi | .hstCompHi => d.regFld .hstRingSel 0 6
  | .prtWeight => d.regFld .prtInputSel 0 3
  | _ => 0

/-- The quantity that a write of a register changes: a 64-bit quantity is named by its high register (R12). -/
def Dev.quantity (d : Dev) (r : Reg) (i sel : Nat) : Nat :=
  match r with
  | .hstRingCfg => (d.ring sel).cfgWord
  | .hstCmdHi => (d.ring sel).cmd
  | .hstCompHi => (d.ring sel).comp
  | .secJrnAckHi => d.sec.acked - 1
  | .fltAtHi => d.pair .fltAtLo .fltAtHi
  | .prtWeight => 2 ^ 16 * (d.prt.weights.getD sel (0, 0)).2 + (d.prt.weights.getD sel (0, 0)).1
  | .obsCntCtl => d.viewCntCtl
  | .obsTrcStatus => d.viewTrc
  | _ => d.reg r i

/-- Set that quantity. -/
def Dev.setQuantity (d : Dev) (r : Reg) (i sel v : Nat) : Dev :=
  match r with
  | .hstRingCfg => d.ringConfig sel v
  | .hstCmdHi => d.modRing sel (fun x => { x with cmd := v })
  | .hstCompHi => d.modRing sel (fun x => { x with comp := v })
  | .fltAtHi => d.setPair .fltAtLo .fltAtHi v
  | .prtWeight => { d with prt := { d.prt with weights := lmod d.prt.weights sel (fun _ => (nfld v 0 16, nfld v 16 10)) } }
  | .obsCntCtl => (d.setFld .obsCntCtl 0 1 v).countEnable (v.testBit 0)
  | .lnkDomainLo | .lnkDomainHi => { d.setReg r v i with lnk := { d.lnk with domainChanged := true } }
  | _ => d.setReg r v i

/-- The bits of the quantity that a write sets. -/
def RegDef.writable (c : RegDef) : Nat := if c.reg.isHighRw then 2 ^ 32 * c.rw + (2 ^ 32 - 1) else c.rw

/-- One journal entry for each register whose 32-bit value has changed (R15, R615). `a` is the address of the register, the high one of a
64-bit quantity. -/
def Dev.journalChange (d : Dev) (src : Master) (c : RegDef) (a old new : Nat) : Dev :=
  let one := fun (x : Dev) (a o n : Nat) => if o = n then x else x.journalReg src a o n
  if c.reg.isHighRw then one (one d (a - 4) (wordOf old 0) (wordOf new 0)) a (wordOf old 1) (wordOf new 1) else one d a old new

/-- The write of a quantity takes effect; `false` where the journal refuses it (R567). -/
def Dev.change (d : Dev) (src : Master) (c : RegDef) (i a sel v : Nat) : Bool × Dev :=
  let old := d.quantity c.reg i sel
  if old &&& c.writable = v &&& c.writable then (true, d)
  else
    let q := d.refuseChange src 0 a
    if q.1 then (false, q.2)
    else
      let d1 := q.2.setQuantity c.reg i sel (v &&& c.writable)
      (true, d1.journalChange src c a old (d1.quantity c.reg i sel))

/-- A write that takes effect at the next tick waits for it (R13); one that the journal refuses now is not taken (R567). -/
def Dev.stage (d : Dev) (src : Master) (c : RegDef) (i a sel v : Nat) : Bool × Dev :=
  let q := if c.reg = .secJrnAckHi ∨ d.quantity c.reg i sel &&& c.writable = v &&& c.writable then (false, d) else d.refuseChange src 0 a
  if q.1 then (false, q.2)
  else (true, { q.2 with staged := q.2.staged ++ [({ src := src, addr := a, value := v, sel := sel, pos := q.2.arrived } : StagedWrite)] })

/-- A write of a read-write register: at once where its fields are immediate, else at the next tick. -/
def Dev.rwWrite (d : Dev) (src : Master) (c : RegDef) (i a sel v : Nat) : Bool × Dev :=
  if c.imm ≠ 0 then d.change src c i a sel v else d.stage src c i a sel v

/-- A write of a write-1-clear register takes effect: the bits that are 1 in it and in the register become 0, and the change is journalled
with what the register shows before and after (R8, R15). -/
def Dev.clearBits (d : Dev) (src : Master) (c : RegDef) (i a v : Nat) : Dev :=
  let old := d.quantity c.reg i 0
  let gone := old &&& v &&& c.w1c
  if gone = 0 then d
  else
    let q := d.refuseChange src 0 a
    if q.1 then q.2
    else
      let d1 := q.2.setReg c.reg (q.2.reg c.reg i - gone) i
      d1.journalChange src c a old (d1.quantity c.reg i 0)

/-- A staged write takes effect at its tick. -/
def Dev.applyStaged (d : Dev) (w : StagedWrite) : Dev :=
  match regAt w.addr with
  | none => d
  | some x =>
    if x.1.reg = .secJrnAckHi then (d.acknowledge w.src w.value).2
    else if x.1.w1c ≠ 0 then d.clearBits w.src x.1 x.2 w.addr w.value
    else (d.change w.src x.1 x.2 w.addr w.sel w.value).2

/-- A write of a write-1-clear register is an order like that of a read-write field: it waits for the next tick (Table 11.4, R503,
R504); one that would change the register now and that the journal refuses is not taken (R567). -/
def Dev.clearWrite (d : Dev) (src : Master) (c : RegDef) (i a v : Nat) : Bool × Dev :=
  if v &&& c.w1c = 0 then (true, d)
  else
    let q := if d.quantity c.reg i 0 &&& v &&& c.w1c = 0 then (false, d) else d.refuseChange src 0 a
    if q.1 then (false, q.2)
    else (true, { q.2 with staged := q.2.staged ++ [({ src := src, addr := a, value := v, pos := q.2.arrived } : StagedWrite)] })

/-- A write of one half of a 64-bit quantity: the low word waits; the high word commits both (R12, log entry 10). A waiting low word
belongs to the register and not to what its selector showed: the quantity that is selected at the high write takes both words (DESIGN
CHOICE, log entry 140), whichever master wrote the low one (DESIGN CHOICE, log entry 190). -/
def Dev.pairWrite (d : Dev) (src : Master) (c : RegDef) (i a sel v : Nat) : Bool × Dev :=
  if c.reg.isLowRw then (true, { d with lowWords := tput d.lowWords a (v % 2 ^ 32) })
  else
    let low := tgetD d.lowWords (a - 4) (wordOf (d.quantity c.reg i sel) 0)
    ({ d with lowWords := tdel d.lowWords (a - 4) } : Dev).rwWrite src c i a sel (low + 2 ^ 32 * (v &&& c.rw))

/-! ### Write-only registers (R14, R16) -/

/-- A write of SEC.KEY_CTL: COMMIT stands before ERASE where both are set (DESIGN CHOICE, log entry 56). -/
def Dev.keyCtl (d : Dev) (src : Master) (v : Nat) : Dev :=
  if v % 4 = 0 then d
  else d.keyOrder { src := src, slot := d.regFld .secKeySel 0 3, erase := !v.testBit 0, use := nfld v 2 2, key := none }

/-- A refused YIELD is noted on the link that it would rejoin through, the lowest-numbered foreign one (R428, R445); without one, on port 0
lane 0. -/
def Dev.yieldRefused (d : Dev) : Dev :=
  let foreign := d.lnk.links.filter (fun (l : Link) => l.foreign)
  match foreign.find? (fun l => foreign.all (fun m => decide (linkWhere l.port (l.lanes.headD 0) ≤ linkWhere m.port (m.lanes.headD 0)))) with
  | some l => d.linkNotice 0x7021 l.port (l.lanes.headD 0) 0 (some l)
  | none => d.linkNotice 0x7021 0 0 0

/-- A write of LNK.CTL: YIELD is refused while a run command is active (R428); both act at the next tick. -/
def Dev.linkCtl (d : Dev) (src : Master) (a v : Nat) : Bool × Dev :=
  if v % 4 = 0 then (true, d)
  else
    let q := d.refuseChange src 0 a
    if q.1 then (false, q.2)
    else
      let x := q.2
      let x1 := if v.testBit 0 then { x with lnk := { x.lnk with free := x.lnk.free ++ [x.regFld .lnkPtSel 0 8] } } else x
      if v.testBit 1 then
        if x1.seq.run.isSome then (false, x1.yieldRefused) else (true, { x1 with lnk := { x1.lnk with yield := true } })
      else (true, x1)

/-- A write of OBS.TRC_CTL: journalled with OLD 0 and the value written (R592); ARM, TRIGGER and DUMP act in this order (DESIGN CHOICE, log
entry 57). -/
def State.traceCtl (s : State) (src : Master) (a v : Nat) : Bool × State :=
  if v % 8 = 0 then (true, s)
  else
    let q := s.dev.refuseChange src 0 a
    if q.1 then (false, { s with dev := q.2 })
    else
      let d := q.2.journalReg src a 0 (v % 8)
      let d1 := if v.testBit 0 then d.traceArm else d
      let d2 := if v.testBit 1 then d1.traceTrigger else d1
      let s1 : State := { s with dev := d2 }
      (true, if v.testBit 2 then s1.traceDump else s1)

/-- A write of a write-only register. -/
def State.triggerWrite (s : State) (src : Master) (c : RegDef) (i a v : Nat) : Bool × State :=
  match c.reg with
  | .fltOrder => (true, { s with dev := s.dev.orderWrite src v })
  | .hstDoorbell => (true, { s with dev := s.dev.doorbell i (v % 4096) })
  | .secKeyCtl => (true, { s with dev := s.dev.keyCtl src v })
  | .secJrnCtl => (true, if v.testBit 0 then { s with dev := s.dev.sealNow } else s)
  | .lnkCtl => let q := s.dev.linkCtl src a v; (q.1, { s with dev := q.2 })
  | .obsTrcCtl => s.traceCtl src a v
  | _ => (true, s)

/-! ### Writes (R8 to R16) -/

/-- A write of the register `c`, instance `i`, at address `a`, with what its selector shows. -/
def State.regWrite (s : State) (src : Master) (c : RegDef) (i a sel v : Nat) : Bool × State :=
  let onDev := fun (q : Bool × Dev) => (q.1, ({ s with dev := q.2 } : State))
  if c.reg.chipOnly && decide (i ≠ 0) then (true, s)
  else if c.wo ≠ 0 then s.triggerWrite src c i a v
  else if c.reg.isLowRw || c.reg.isHighRw then onDev (s.dev.pairWrite src c i a sel v)
  else if c.w1c ≠ 0 then onDev (s.dev.clearWrite src c i a v)
  else if c.rw ≠ 0 then onDev (s.dev.rwWrite src c i a sel v)
  else (true, s)

/-- A 32-bit write of BAR0; `false` where it is refused. Only the host and the management port reach BAR0. -/
def State.busWrite (s : State) (src : Master) (a v : Nat) : Bool × State :=
  if src ≠ .host ∧ src ≠ .management then (false, s)
  else match regAt a with
    | some x => s.regWrite src x.1 x.2 a (s.dev.selected x.1.reg) v
    | none =>
      if inKeyWindow a && decide (a % 4 = 0) then
        (true, { s with dev := { s.dev with sec := { s.dev.sec with window := tput s.dev.sec.window ((a - 0x681000) / 4) (v % 2 ^ 32) } } })
      else if inMsix a && decide (a % 4 = 0) then
        (true, if a < 0x709000 then { s with dev := { s.dev with regs := tput s.dev.regs a (v % 2 ^ 32) } } else s)
      else (true, { s with dev := s.dev.unoccupied src a })

/-- The address of a register. -/
def Reg.address (r : Reg) : Nat := r.card.addr

/-! ### The commands -/

/-- REGISTER_WRITE (R13): a write by the host. -/
def execRegisterWrite (addr : BitVec 24) (value : BitVec 32) (s : State) : Host.Outcome State Fault Refusal :=
  .next (s.busWrite .host addr.toNat value.toNat).2

/-- HIGH_WORD_WRITE (R12): a write by the host. -/
def execHighWordWrite (addr : BitVec 24) (value : BitVec 32) (s : State) : Host.Outcome State Fault Refusal :=
  .next (s.busWrite .host addr.toNat value.toNat).2

/-- LOW_WORD_READ (R11): a read by the host; the value is delivered. -/
def execLowWordRead (addr : BitVec 24) (s : State) : Host.Outcome State Fault Refusal :=
  let r := s.busRead .host addr.toNat
  .next { r.2 with dev := r.2.dev.emit (.value r.1) }

/-- BAR0_UNOCCUPIED_ACCESS (R10): a read delivers its value. -/
def execBar0UnoccupiedAccess (addr : BitVec 24) (write : Bool) (s : State) : Host.Outcome State Fault Refusal :=
  .next (if write then (s.busWrite .host addr.toNat 0).2
    else
      let r := s.busRead .host addr.toNat
      { r.2 with dev := r.2.dev.emit (.value r.1) })

/-- RING_ENABLE (R527): a write of RING_CFG of a ring. -/
def execRingEnable (src : Master) (ring : Fin 64) (value : BitVec 32) (s : State) : Host.Outcome State Fault Refusal :=
  .next (if src = .host ∨ src = .management then (s.regWrite src (Reg.hstRingCfg.card) 0 Reg.hstRingCfg.address ring.val value.toNat).2 else s)

/-- DOMAIN_WRITE (R435). -/
def execDomainWrite (src : Master) (high : Bool) (value : BitVec 32) (s : State) : Host.Outcome State Fault Refusal :=
  .next (s.busWrite src (if high then Reg.lnkDomainHi.address else Reg.lnkDomainLo.address) value.toNat).2

/-- YIELD (R428): a write of LNK.CTL with YIELD. -/
def execYield (src : Master) (s : State) : Host.Outcome State Fault Refusal :=
  .next (s.busWrite src Reg.lnkCtl.address 2).2

/-- PARTNER_FREE (R433): a write of LNK.CTL with FREE. -/
def execPartnerFree (src : Master) (s : State) : Host.Outcome State Fault Refusal :=
  .next (s.busWrite src Reg.lnkCtl.address 1).2

/-- KEY_COMMIT (R557): a write of SEC.KEY_CTL with COMMIT. -/
def execKeyCommit (src : Master) (use : BitVec 2) (s : State) : Host.Outcome State Fault Refusal :=
  .next (s.busWrite src Reg.secKeyCtl.address (1 + 4 * use.toNat)).2

/-- KEY_ERASE (R557): a write of SEC.KEY_CTL with ERASE. -/
def execKeyErase (src : Master) (s : State) : Host.Outcome State Fault Refusal :=
  .next (s.busWrite src Reg.secKeyCtl.address 2).2

/-- KEY_DATA_WRITE (R572). -/
def execKeyDataWrite (src : Master) (offset : BitVec 12) (value : BitVec 32) (s : State) : Host.Outcome State Fault Refusal :=
  .next (s.busWrite src (0x681000 + offset.toNat % 2048 / 4 * 4) value.toNat).2

/-- JRN_CTL_SEAL (R565): a write of SEC.JRN_CTL with SEAL. -/
def execJrnCtlSeal (src : Master) (s : State) : Host.Outcome State Fault Refusal :=
  .next (s.busWrite src Reg.secJrnCtl.address 1).2

/-- JRN_ACK_WRITE (R566): both words of SEC.JRN_ACK are written. -/
def execJrnAckWrite (src : Master) (seq : BitVec 64) (s : State) : Host.Outcome State Fault Refusal :=
  let s1 := (s.busWrite src Reg.secJrnAckLo.address (wordOf seq.toNat 0)).2
  .next (s1.busWrite src Reg.secJrnAckHi.address (wordOf seq.toNat 1)).2

/-- CNT_ENABLE (R577, R578): a write of OBS.CNT_CTL. -/
def execCntEnable (src : Master) (value : BitVec 32) (s : State) : Host.Outcome State Fault Refusal :=
  .next (s.busWrite src Reg.obsCntCtl.address value.toNat).2

/-- TRC_ARM (R586): a write of OBS.TRC_CTL with ARM. -/
def execTrcArm (src : Master) (s : State) : Host.Outcome State Fault Refusal :=
  .next (s.busWrite src Reg.obsTrcCtl.address 1).2

/-- TRC_TRIGGER (R586): a write of OBS.TRC_CTL with TRIGGER. -/
def execTrcTrigger (src : Master) (s : State) : Host.Outcome State Fault Refusal :=
  .next (s.busWrite src Reg.obsTrcCtl.address 2).2

/-- TRC_DUMP (R591): a write of OBS.TRC_CTL with DUMP. -/
def execTrcDump (src : Master) (s : State) : Host.Outcome State Fault Refusal :=
  .next (s.busWrite src Reg.obsTrcCtl.address 4).2

/-- TRACE_DRAIN (R587). -/
def execTraceDrain (s : State) : Host.Outcome State Fault Refusal :=
  .next s.traceDrain

/-- REG_READ (R568): the controller answers with the value; the recovery service reads HST.START only (R603). -/
def execRegRead (addr : BitVec 24) (s : State) : Host.Outcome State Fault Refusal :=
  .next (match s.dev.mgmt with
    | .none => s
    | .recovery =>
      if addr.toNat = Reg.hstStart.address then { s with dev := s.dev.emit (.value (s.view .hstStart 0)) }
      else { s with dev := s.dev.emit .mctpError }
    | .controller =>
      let r := s.busRead .management addr.toNat
      { r.2 with dev := r.2.dev.emit (.value r.1) })

/-- REG_WRITE (R568): accepted or refused, applied under R13. -/
def execRegWrite (addr : BitVec 24) (value : BitVec 32) (s : State) : Host.Outcome State Fault Refusal :=
  .next (s.controller (fun x =>
    let r := x.busWrite .management addr.toNat value.toNat
    { r.2 with dev := r.2.dev.emit (.accepted r.1) }))

end Sys2Proof.Machine
end

