-- ==== Sys2Proof/Machine/RingCommands.lean ====
section
/-! DEFINITION. The commands of the rings, of the charter loader and of protection. A ring command's entry is the head of its ring,
examined at this tick under R30 (RUN to CANCEL); an entry of another command is not the row's. -/

namespace Sys2Proof.Machine

/-- RUN (R31). -/
def execRun (ring : Fin 64) (entry : BitVec 1024) (s : State) : Host.Outcome State Fault Refusal :=
  let e : Entry := entry
  .next (s.ringCommand ring.val e (decide (e.opcode = 1)) true true)

/-- LOAD_CHARTER (R109). -/
def execLoadCharter (ring : Fin 64) (entry : BitVec 1024) (s : State) : Host.Outcome State Fault Refusal :=
  let e : Entry := entry
  .next (s.ringCommand ring.val e (decide (e.opcode = 2)) true true)

/-- COPY_HOST_TO_DEVICE (R531). -/
def execCopyHostToDevice (ring : Fin 64) (entry : BitVec 1024) (hostOk : Bool) (s : State) : Host.Outcome State Fault Refusal :=
  let e : Entry := entry
  .next (s.ringCommand ring.val e (decide (e.opcode = 3 ∧ e.dir = 0)) hostOk true)

/-- COPY_DEVICE_TO_HOST (R531). -/
def execCopyDeviceToHost (ring : Fin 64) (entry : BitVec 1024) (hostOk : Bool) (s : State) : Host.Outcome State Fault Refusal :=
  let e : Entry := entry
  .next (s.ringCommand ring.val e (decide (e.opcode = 3 ∧ e.dir = 1)) hostOk true)

/-- COPY_TO_BUNDLE_STORE (R532, R556). -/
def execCopyToBundleStore (ring : Fin 64) (entry : BitVec 1024) (sigOk : Bool) (s : State) : Host.Outcome State Fault Refusal :=
  let e : Entry := entry
  .next (s.ringCommand ring.val e (decide (e.opcode = 3 ∧ e.dir = 2)) true sigOk)

/-- READ_TALLIES (R533). -/
def execReadTallies (ring : Fin 64) (entry : BitVec 1024) (hostOk : Bool) (s : State) : Host.Outcome State Fault Refusal :=
  let e : Entry := entry
  .next (s.ringCommand ring.val e (decide (e.opcode = 4)) hostOk true)

/-- RELEASE (R356). -/
def execRelease (ring : Fin 64) (entry : BitVec 1024) (s : State) : Host.Outcome State Fault Refusal :=
  let e : Entry := entry
  .next (s.ringCommand ring.val e (decide (e.opcode = 5 ∧ e.decision = 1)) true true)

/-- SKIP (R351, R356). -/
def execSkip (ring : Fin 64) (entry : BitVec 1024) (s : State) : Host.Outcome State Fault Refusal :=
  let e : Entry := entry
  .next (s.ringCommand ring.val e (decide (e.opcode = 5 ∧ e.decision = 2)) true true)

/-- SNAPSHOT_REQUEST (R486). -/
def execSnapshotRequest (ring : Fin 64) (entry : BitVec 1024) (s : State) : Host.Outcome State Fault Refusal :=
  let e : Entry := entry
  .next (s.ringCommand ring.val e (decide (e.opcode = 6 ∧ e.kind = 1)) true true)

/-- MIRROR_REQUEST (R486). -/
def execMirrorRequest (ring : Fin 64) (entry : BitVec 1024) (s : State) : Host.Outcome State Fault Refusal :=
  let e : Entry := entry
  .next (s.ringCommand ring.val e (decide (e.opcode = 6 ∧ e.kind = 2)) true true)

/-- REFILL (R486). -/
def execRefill (ring : Fin 64) (entry : BitVec 1024) (s : State) : Host.Outcome State Fault Refusal :=
  let e : Entry := entry
  .next (s.ringCommand ring.val e (decide (e.opcode = 6 ∧ e.kind = 3)) true true)

/-- RESTORE (R486). -/
def execRestore (ring : Fin 64) (entry : BitVec 1024) (s : State) : Host.Outcome State Fault Refusal :=
  let e : Entry := entry
  .next (s.ringCommand ring.val e (decide (e.opcode = 6 ∧ e.kind = 4)) true true)

/-- RECONCILE (R484, R486). -/
def execReconcile (ring : Fin 64) (entry : BitVec 1024) (s : State) : Host.Outcome State Fault Refusal :=
  let e : Entry := entry
  .next (s.ringCommand ring.val e (decide (e.opcode = 6 ∧ e.kind = 5)) true true)

/-- CANCEL (R486). -/
def execCancel (ring : Fin 64) (entry : BitVec 1024) (s : State) : Host.Outcome State Fault Refusal :=
  let e : Entry := entry
  .next (s.ringCommand ring.val e (decide (e.opcode = 6 ∧ e.kind = 6)) true true)

/-- CHARTER_IMAGE_READ (R107). -/
def execCharterImageRead (readOk sigOk : Bool) (s : State) : Host.Outcome State Fault Refusal :=
  .next (s.charterImageRead readOk sigOk)

/-- COMMAND_COMPLETION (R535). -/
def execCommandCompletion (writeOk : Bool) (s : State) : Host.Outcome State Fault Refusal :=
  .next (s.commandCompletion writeOk)

/-- DOORBELL (R528): what the host has written to its memory, then the tail. -/
def execDoorbell (ring : Fin 64) (tail : BitVec 32) (writes : List (Nat × Byte)) (s : State) : Host.Outcome State Fault Refusal :=
  .next { s with
    host := writes.foldl (fun (m : Memory) (w : Nat × Byte) => m.set w.1 w.2) s.host
    dev := s.dev.doorbell ring.val (tail.toNat % 4096) }

/-- RESTORE_COMPLETE (R483). -/
def execRestoreComplete (s : State) : Host.Outcome State Fault Refusal :=
  .next s.restoreComplete

/-- RECONCILE_RESULT (R485). -/
def execReconcileResult (s : State) : Host.Outcome State Fault Refusal :=
  .next s.reconcileResult

/-- SHARD_SEND (R459). -/
def execShardSend (s : State) : Host.Outcome State Fault Refusal :=
  .next s.shardSend

/-- MIRROR_BLOCK_SEND (R468). -/
def execMirrorBlockSend (s : State) : Host.Outcome State Fault Refusal :=
  .next s.mirrorBlockSend

/-- BAY_CLAIM (R471): the vault message arrives whole on a stream. -/
def execBayClaim (stream : BitVec 12) (hdr : BitVec 512) (payload : List Byte) (s : State) : Host.Outcome State Fault Refusal :=
  .next (s.vaultKind 1 stream.toNat hdr payload)

/-- GRANT (R471): the vault message arrives whole on a stream. -/
def execGrant (stream : BitVec 12) (hdr : BitVec 512) (payload : List Byte) (s : State) : Host.Outcome State Fault Refusal :=
  .next (s.vaultKind 2 stream.toNat hdr payload)

/-- SHARD (R463): the vault message arrives whole on a stream. -/
def execShard (stream : BitVec 12) (hdr : BitVec 512) (payload : List Byte) (s : State) : Host.Outcome State Fault Refusal :=
  .next (s.vaultKind 3 stream.toNat hdr payload)

/-- MIRROR (R466): the vault message arrives whole on a stream. -/
def execMirror (stream : BitVec 12) (hdr : BitVec 512) (payload : List Byte) (s : State) : Host.Outcome State Fault Refusal :=
  .next (s.vaultKind 4 stream.toNat hdr payload)

/-- SEAL (R466): the vault message arrives whole on a stream. -/
def execSeal (stream : BitVec 12) (hdr : BitVec 512) (payload : List Byte) (s : State) : Host.Outcome State Fault Refusal :=
  .next (s.vaultKind 5 stream.toNat hdr payload)

/-- RECEIPT (R463): the vault message arrives whole on a stream. -/
def execReceipt (stream : BitVec 12) (hdr : BitVec 512) (payload : List Byte) (s : State) : Host.Outcome State Fault Refusal :=
  .next (s.vaultKind 6 stream.toNat hdr payload)

/-- GEN_RECORD (R463): the vault message arrives whole on a stream. -/
def execGenRecord (stream : BitVec 12) (hdr : BitVec 512) (payload : List Byte) (s : State) : Host.Outcome State Fault Refusal :=
  .next (s.vaultKind 7 stream.toNat hdr payload)

/-- FETCH (R477): the vault message arrives whole on a stream. -/
def execFetch (stream : BitVec 12) (hdr : BitVec 512) (payload : List Byte) (s : State) : Host.Outcome State Fault Refusal :=
  .next (s.vaultKind 8 stream.toNat hdr payload)

/-- FETCH_DATA (R476): the vault message arrives whole on a stream. -/
def execFetchData (stream : BitVec 12) (hdr : BitVec 512) (payload : List Byte) (s : State) : Host.Outcome State Fault Refusal :=
  .next (s.vaultKind 9 stream.toNat hdr payload)

/-- REFILL_BEGIN (R474): the vault message arrives whole on a stream. -/
def execRefillBegin (stream : BitVec 12) (hdr : BitVec 512) (payload : List Byte) (s : State) : Host.Outcome State Fault Refusal :=
  .next (s.vaultKind 10 stream.toNat hdr payload)

/-- RESTORED (R478): the vault message arrives whole on a stream. -/
def execRestored (stream : BitVec 12) (hdr : BitVec 512) (payload : List Byte) (s : State) : Host.Outcome State Fault Refusal :=
  .next (s.vaultKind 11 stream.toNat hdr payload)

end Sys2Proof.Machine
end

