-- ==== Sys2Proof/Machine/Startup.lean ====
section
/-! DEFINITION. Start-up, the power monitor and the thermal actions (R538 to R541, R544 to R551, R558 to R560, R601, R602). -/

namespace Sys2Proof.Machine

/-! ### Power-good and boot (R538, R545, R558 to R560, R601) -/

/-- The cause of the last loss of the rails is recorded as that fault, in the log, and entered in the journal; it stops nothing again (R545;
DEDUCED, log entry 58). -/
def Dev.recordCause (d : Dev) : Dev :=
  match d.hst.latchedCause with
  | none => d
  | some c =>
    let r : FaultRec := { code := c, sev := .chipStop, unit := 24, seq := d.flt.nextSeq }
    let d1 := { d with
      hst := { d.hst with latchedCause := none }
      flt := { d.flt with log := (logInsert d.flt.log r).take 256, nextSeq := (d.flt.nextSeq + 1) % 2 ^ 32 } }
    d1.journal 3 9 false 0 0 0 c

/-- POWER_GOOD: the rails stand within their limits, which ends stage 1 as it begins (DEDUCED, log entry 199), the SMBus address is sampled, and the boot of the bank activated last begins. -/
def Dev.powerGood (d : Dev) (straps : Nat) : Dev :=
  if d.pwr.rails then d
  else
    ({ d with
      hst := { d.hst with stage := 2, failed := false, smbus := 0x60 + straps }
      pwr := { d.pwr with rails := true }
      sec := { d.sec with bootBank := d.sec.activeBank, fallback := false, meas := 0, stages := [] } } : Dev).recordCause

/-- The chain of the newest 256 entries holds, from the newest one on (R564). -/
def chainOk : Nat → List JEntry → Bool
  | 0, _ => true
  | _ + 1, [] => true
  | n + 1, e :: rest =>
    let before := match rest with
      | [] => if e.seq = 0 then some chainStart else none
      | p :: _ => some p.chain
    (match before with
      | none => true
      | some c => decide (e.chain = shake256 (leBytes 32 c ++ e.body))) && chainOk n rest

/-- Boot is over: the journal's chain is checked and stage 3 begins. -/
def Dev.booted (d : Dev) : Dev :=
  let d1 := { d with hst := { d.hst with stage := 3 } }
  if chainOk 256 d1.sec.journal then d1 else d1.raise 0xA023 24 0 0

/-- BOOT_STAGE_VERIFY: a firmware stage is verified and measured by the one before it, as D_i = SHAKE256(image); a failure falls back to the
other bank once. -/
def Dev.bootStage (d : Dev) (image : List Byte) (svn : Nat) (ok last : Bool) : Dev :=
  if d.hst.stage ≠ 2 ∨ d.hst.failed then d
  else if ok && decide (d.sec.minSvn ≤ svn) then
    let measure := shake256 image
    let d1 := { d with sec := { d.sec with
      meas := shake256 (leBytes 32 d.sec.meas ++ leBytes 32 measure), stages := d.sec.stages ++ [measure], svn := svn } }
    if last then d1.booted else d1
  else
    let d1 := d.raise 0xA001 24 0 0
    if d1.sec.fallback then { d1 with hst := { d1.hst with failed := true } }
    else
      ({ d1 with sec := { d1.sec with bootBank := 1 - d1.sec.bootBank, fallback := true, meas := 0, stages := [], svn := 0 } } : Dev).raise
        0xA002 24 0 0

/-! ### Memory, self-test and the host (R538 to R540) -/

/-- MEMORY_TRAINED: stacks that have trained begin to be scrubbed; stage 4 follows once all twelve have. A stage that has failed stays. -/
def Dev.memoryTrained (d : Dev) (mask : Nat) : Dev :=
  if d.hst.stage ≠ 3 ∨ d.hst.failed then d
  else
    let t := d.hst.trained ||| mask % 4096
    { d with hst := { d.hst with trained := t, stage := if t = 4095 then 4 else 3 } }

/-- Stage 4 has passed: stages 5, 6 and 7 begin. A chip without partners is solitary and aligned (R423); the minimum security version number
rises to the activated image's (R559). -/
def Dev.stagePassed (d : Dev) : Dev :=
  { d with
    hst := { d.hst with stage := 7 }
    frm := { d.frm with aligned := d.lnk.solitary || d.frm.aligned }
    sec := { d.sec with
      raiseSvn := if d.sec.fallback then d.sec.raiseSvn else none
      minSvn := match d.sec.raiseSvn with
        | none => d.sec.minSvn
        | some v => if d.sec.fallback then d.sec.minSvn else max d.sec.minSvn v } }

/-- SELF_TEST (Table 12.8). Without a mismatch its digest is the one that every device of every stepping produces (R487). -/
def Dev.selfTest (d : Dev) (vectors mismatch : Nat) (failed : List (Nat × Nat)) (bothFailed : Bool) (digest : Nat) : Dev :=
  if d.hst.stage ≠ 4 ∨ d.hst.failed then d
  else
    let beyond := bothFailed || decide (16 < failed.length)
    let bad := decide (0 < mismatch) || beyond
    let rec_ : SelfTest :=
      { result := if bad then 2 else if failed.isEmpty then 0 else 1
        step := nfld (d.reg .ctlIdent) 16 8, vectors := vectors, mismatch := mismatch, digest8 := if mismatch = 0 then Config.selfTestDigest.toNat else digest, links := failed.take 16 }
    let d1 := { d with hst := { d.hst with selfTest := rec_, failed := bad } }
    let d2 := if 0 < mismatch then d1.raise 0xB011 24 0 0 else d1
    let d3 := if beyond then d2.raise 0xB013 24 0 0 else if failed.isEmpty then d2 else d2.raise 0xB012 24 0 0
    if bad then d3 else d3.stagePassed

/-- STARTUP_STAGE_TIMEOUT: the current stage has not ended within its time limit (Table 12.7). A self-test that does not end fails as a
mismatch does (DESIGN CHOICE, log entry 59). -/
def Dev.stageTimeout (d : Dev) : Dev :=
  let f := { d with hst := { d.hst with failed := true } }
  if d.hst.failed then d
  else match d.hst.stage with
    | 2 => f
    | 3 => f.raise 0xB010 24 0 0
    | 4 => f.raise 0xB011 24 0 0
    | 7 => f
    | _ => d

/-- Stages 7 to 9 follow the host and the charter: 8 once a configuration request has completed, 9 once a charter has been applied. -/
def Dev.stageOn (d : Dev) : Dev :=
  if d.hst.stage = 8 ∧ d.cht.active.isSome then { d with hst := { d.hst with stage := 9 } } else d

/-- CONFIG_REQUEST: retried until stage 7 (R539). -/
def Dev.configRequest (d : Dev) : Dev :=
  if d.hst.stage < 7 then d.emit .retry
  else (({ d with hst := { d.hst with stage := max 8 d.hst.stage, failed := if d.hst.stage = 7 then false else d.hst.failed } } : Dev).stageOn).emit
    .configDone

/-! ### The input (R544 to R546) -/

/-- A fault of the input raises its code, and the rails go off with it as their cause. Without rails there is nothing to lose. -/
def State.inputFault (s : State) (code : Nat) : State :=
  if !s.dev.pwr.rails then s else ({ s with dev := s.dev.raise code 24 0 0 } : State).railsOff code

/-- Input below 38 V: the trip latch clears (R602). -/
def Dev.clearTrip (d : Dev) : Dev := { d with hst := { d.hst with thermTrip := false } }

/-- SUSTAINED_POWER_EXCESS: 0x9011 at most once per second. -/
def Dev.sustained (d : Dev) : Dev :=
  let due := match d.pwr.since9011 with
    | none => true
    | some ns => decide (1000000000 ≤ ns)
  if due then ({ d with pwr := { d.pwr with since9011 := some 0 } } : Dev).raise 0x9011 24 0 0 else d

/-- PEAK_POWER_EXCESS: 0x9012 at most once per step. -/
def Dev.peak (d : Dev) : Dev :=
  if d.seq.inStep && d.pwr.raised9012 then d
  else ({ d with pwr := { d.pwr with raised9012 := d.seq.inStep } } : Dev).raise 0x9012 24 0 0

/-! ### Droop (R549, R550) -/

/-- DROOP: an episode begins. -/
def Dev.droopBegin (d : Dev) : Dev :=
  if d.pwr.droop then d
  else ({ d with pwr := { d.pwr with droop := true, thisFrame := d.pwr.thisFrame + 1 } } : Dev).bumpFld .pwrDroop 16 16 1

/-- DROOP_END: its stretched cycles join the debt of the frame. -/
def Dev.droopEnd (d : Dev) (stretched : Nat) : Dev :=
  if d.pwr.droop then { d with pwr := { d.pwr with droop := false }, frm := { d.frm with debt := d.frm.debt + stretched } } else d

/-! ### Thermal actions (R551, Table 13.2) -/

/-- The limit of the sensor of an endpoint: 105 °C on a logic die, 95 °C on a stack logic die, endpoints 25 to 36 (R100). -/
def sensorLimit (i : Nat) : Int := if i < 25 then 105 else 95

/-- The thermal margin: the least, over the sensors, of the limit minus the temperature; no more than PWR.THERM.MARGIN can show. -/
def thermalMargin (temps : List (BitVec 8)) : Int :=
  max (-128) ((List.zip (List.range temps.length) temps).foldl (fun m x => min m (sensorLimit x.1 - x.2.toNat)) 105)

/-- The hottest sensor and its temperature. Of several, the one of the lowest number (DESIGN CHOICE, log entry 201). -/
def hottestSensor (temps : List (BitVec 8)) : Nat × Nat :=
  (List.zip (List.range temps.length) temps).foldl (fun (m : Nat × Nat) x => if m.2 < x.2.toNat then (x.1, x.2.toNat) else m) (0, 0)

/-- PWR.THERM takes the readings of the sensors: MARGIN, UNIT and HOT. -/
def Dev.readSensors (d : Dev) (temps : List (BitVec 8)) : Dev :=
  let h := hottestSensor temps
  d.setFld .pwrTherm 0 24 (2 ^ 16 * wrap 8 (thermalMargin temps) + 2 ^ 8 * h.1 + h.2)

/-- INLET_HIGH: above 40 °C. -/
def Dev.inletHigh (d : Dev) (inlet : Nat) : Dev :=
  let d1 := d.setFld .pwrTherm 24 8 inlet
  if 40 < inlet ∧ d.regFld .pwrStatus 5 1 = 0 then (d1.setFld .pwrStatus 5 1 1).raise 0x9023 24 0 0 else d1

/-- INLET_RECOVERED: below 39 °C. -/
def Dev.inletRecovered (d : Dev) (inlet : Nat) : Dev :=
  let d1 := d.setFld .pwrTherm 24 8 inlet
  if inlet < 39 then d1.setFld .pwrStatus 5 1 0 else d1

/-- THERMAL_MARGIN_LOW: below 5 °C. -/
def Dev.marginLow (d : Dev) (temps : List (BitVec 8)) : Dev :=
  let d1 := d.readSensors temps
  if thermalMargin temps < 5 ∧ d.regFld .pwrStatus 4 1 = 0 then (d1.setFld .pwrStatus 4 1 1).raise 0x9020 24 0 0 else d1

/-- THERMAL_MARGIN_RECOVERED: back at 6 °C. -/
def Dev.marginRecovered (d : Dev) (temps : List (BitVec 8)) : Dev :=
  let d1 := d.readSensors temps
  if 6 ≤ thermalMargin temps then d1.setFld .pwrStatus 4 1 0 else d1

/-- THERMAL_MARGIN_EXHAUSTED: at or below 0 °C for 1 ms. -/
def Dev.marginExhausted (d : Dev) (temps : List (BitVec 8)) : Dev :=
  let d1 := d.readSensors temps
  if thermalMargin temps ≤ 0 then d1.raise 0x9021 24 0 0 else d1

/-- THERMAL_TRIP: a sensor stands 10 °C above its limit: the latch is set and the rails go off (R602). -/
def State.thermalTrip (s : State) : State :=
  ({ s with dev := { s.dev with hst := { s.dev.hst with thermTrip := true } } } : State).inputFault 0x9022

/-! ### The commands -/

/-- POWER_GOOD (R538). -/
def execPowerGood (straps : BitVec 3) (s : State) : Host.Outcome State Fault Refusal :=
  .next { s with dev := s.dev.powerGood straps.toNat }

/-- BOOT_STAGE_VERIFY (R558). -/
def execBootStageVerify (image : List Byte) (svn : BitVec 16) (ok last : Bool) (s : State) : Host.Outcome State Fault Refusal :=
  .next { s with dev := s.dev.bootStage image svn.toNat ok last }

/-- MEMORY_TRAINED (R538). -/
def execMemoryTrained (mask : BitVec 12) (s : State) : Host.Outcome State Fault Refusal :=
  .next { s with dev := s.dev.memoryTrained mask.toNat }

/-- SELF_TEST (R540). -/
def execSelfTest (vectors mismatch : BitVec 16) (failed : List (BitVec 8 × BitVec 8)) (bothFailed : Bool) (digest : BitVec 64) (s : State) :
    Host.Outcome State Fault Refusal :=
  let bad := failed.map (fun (x : BitVec 8 × BitVec 8) => (x.1.toNat, x.2.toNat))
  .next { s with dev := s.dev.selfTest vectors.toNat mismatch.toNat bad bothFailed digest.toNat }

/-- STARTUP_STAGE_TIMEOUT (R538). -/
def execStartupStageTimeout (s : State) : Host.Outcome State Fault Refusal :=
  .next { s with dev := s.dev.stageTimeout }

/-- CONFIG_REQUEST (R539). -/
def execConfigRequest (s : State) : Host.Outcome State Fault Refusal :=
  .next { s with dev := s.dev.configRequest }

/-- INPUT_UNDERVOLTAGE (R544): below 38 V for 1 ms. -/
def execInputUndervoltage (s : State) : Host.Outcome State Fault Refusal :=
  .next (({ s with dev := s.dev.clearTrip } : State).inputFault 0x9001)

/-- INPUT_OVERVOLTAGE (R544). -/
def execInputOvervoltage (s : State) : Host.Outcome State Fault Refusal :=
  .next (s.inputFault 0x9002)

/-- INPUT_CURRENT_LIMIT (R544). -/
def execInputCurrentLimit (s : State) : Host.Outcome State Fault Refusal :=
  .next (s.inputFault 0x9013)

/-- SUSTAINED_POWER_EXCESS (R544, R546). -/
def execSustainedPowerExcess (s : State) : Host.Outcome State Fault Refusal :=
  .next { s with dev := s.dev.sustained }

/-- PEAK_POWER_EXCESS (R544, R546). -/
def execPeakPowerExcess (s : State) : Host.Outcome State Fault Refusal :=
  .next { s with dev := s.dev.peak }

/-- DROOP (R549). -/
def execDroop (s : State) : Host.Outcome State Fault Refusal :=
  .next { s with dev := s.dev.droopBegin }

/-- DROOP_END (R549, R550). -/
def execDroopEnd (stretched : Nat) (s : State) : Host.Outcome State Fault Refusal :=
  .next { s with dev := s.dev.droopEnd stretched }

/-- INLET_HIGH (R551). -/
def execInletHigh (inlet : BitVec 8) (s : State) : Host.Outcome State Fault Refusal :=
  .next { s with dev := s.dev.inletHigh inlet.toNat }

/-- INLET_RECOVERED (R551). -/
def execInletRecovered (inlet : BitVec 8) (s : State) : Host.Outcome State Fault Refusal :=
  .next { s with dev := s.dev.inletRecovered inlet.toNat }

/-- THERMAL_MARGIN_LOW (R551). -/
def execThermalMarginLow (temps : List (BitVec 8)) (s : State) : Host.Outcome State Fault Refusal :=
  .next { s with dev := s.dev.marginLow temps }

/-- THERMAL_MARGIN_RECOVERED (R551). -/
def execThermalMarginRecovered (temps : List (BitVec 8)) (s : State) : Host.Outcome State Fault Refusal :=
  .next { s with dev := s.dev.marginRecovered temps }

/-- THERMAL_MARGIN_EXHAUSTED (R551). -/
def execThermalMarginExhausted (temps : List (BitVec 8)) (s : State) : Host.Outcome State Fault Refusal :=
  .next { s with dev := s.dev.marginExhausted temps }

/-- THERMAL_TRIP (R551). -/
def execThermalTrip (s : State) : Host.Outcome State Fault Refusal :=
  .next s.thermalTrip

end Sys2Proof.Machine
end

