-- ==== Sys2Proof/Machine/Tick.lean ====
section
/-! DEFINITION. The tick: what the measurement circuits latch, and the work of Table 11.5 in order (R18 to R31, R36, R41, R81, R500, R503,
R547). What the table does not place stands where log entry 60 says. -/

namespace Sys2Proof.Machine

/-! ### The frame that ends (R22, R29, R41) -/

/-- The tick has come before the bundle stream reached the bundle that ends the frame (R41). -/
def Dev.streamLate (d : Dev) : Bool :=
  d.seq.inStep && ((!d.seq.waiting && !d.seq.stepEnded) || decide (d.frameLen < d.seq.cycle + d.frm.debt))

/-- R41 at the tick that ends the frame: the stretch guard is exhausted. -/
def Dev.overrunCheck (d : Dev) : Dev :=
  if d.streamLate then ({ d with seq := { d.seq with stepEnded := false } } : Dev).raise 0x1011 24 0 0 else d

/-- Copies that were admitted in the frame complete before its tick (R26, R34). -/
def Dev.engineEnds (d : Dev) (e : Nat) : Dev :=
  let d1 := Nat.repeat (fun (x : Dev) => x.engineDone e) (d.engine e).jobs.length d
  { d1 with engines := tmod d1.engines e {} (fun x => { x with committed := 0 }) }

/-- The frame's last cycles pass: its debt with the episode that lasts on (R550), the time of the queues (R577), its copies. -/
def Dev.frameEnds (d : Dev) (o : TickObs) : Dev :=
  let debt := d.frm.debt + (if d.pwr.droop then o.stretched else 0)
  let d1 := ({ d with frm := { d.frm with debt := debt } } : Dev).cntAdvance (d.frameLen - debt - d.frm.cycle)
  ((d1.engines.map Prod.fst).foldl Dev.engineEnds d1).overrunCheck

/-- The frame counter advances (R19, R24); the trace closes the last cycles of the frame that ends. -/
def Dev.frameBegins (d : Dev) : Dev :=
  { d.traceFlush with frm := { d.frm with
      frame := if d.frm.started then (d.frm.frame + 1) % 2 ^ 48 else 0, started := true, debt := 0, cycle := 0 } }

/-! ### What the tick latches (Tables 1.19, 13.11; R546, R547) -/

/-- FRM.STRETCH of the frame that ended. -/
def Dev.latchStretch (d : Dev) (debt : Nat) : Dev :=
  let l := min 0xFFFF debt
  d.setReg .frmStretch (2 ^ 16 * max l (d.regFld .frmStretch 16 16) + l)

/-- Planned energy of the frame that ends: a step's frame has its plan, any other the limit of R106. -/
def Dev.plannedEnergy (d : Dev) : Nat := d.pwr.plan.getD (energyLimit d.frameLen)

/-- PWR.STATUS.INPUT of a voltage in units of 10 mV. -/
def inputCode (volts : Nat) : Nat := if volts < 4000 then 1 else if 6000 < volts then 2 else 0

/-- The registers of the power monitor and the microswitches of the feed receptacles (R605); PWR.ENERGY latches only where a frame has `ended`. -/
def Dev.latchPower (d : Dev) (o : TickObs) (planned : Nat) (ended : Bool) : Dev :=
  let d1 := d.setReg .pwrInput (2 ^ 16 * o.watts.toNat + o.volts.toNat)
  let d2 := if ended then d1.setReg .pwrEnergy (2 ^ 16 * planned + min 0xFFFF o.energy) else d1
  let d3 := d2.setReg .pwrMean (2 ^ 16 * max (d2.regFld .pwrMean 16 16) o.mean10.toNat + o.meanSecond.toNat)
  let d4 := (d3.setFld .pwrTherm 24 8 o.inlet.toNat).readSensors o.temps
  let d5 := d4.setFld .pwrStatus 0 2 (inputCode o.volts.toNat)
  { d5 with hst := { d5.hst with seated := o.seated.toNat }, pwr := { d5.pwr with
      recent := (d5.pwr.thisFrame :: d5.pwr.recent).take 64, thisFrame := 0
      since9011 := d5.pwr.since9011.map (· + o.elapsedNs), plan := none } }

/-- R547: measured energy above the plan by more than one eighth is noted, once per step; `ofStep`: the frame was a step's. -/
def Dev.energyCheck (d : Dev) (measured planned : Nat) (ofStep : Bool) : Dev :=
  if 8 * measured ≤ 9 * planned ∨ (ofStep && d.pwr.raised9010) then d
  else ({ d with pwr := { d.pwr with raised9010 := d.pwr.raised9010 || ofStep } } : Dev).raise 0x9010 24 0 0

/-- Table 11.5 step 1 with everything that the tick latches; its trace record is of KIND 6. -/
def Dev.tickBegins (d : Dev) (o : TickObs) : Dev :=
  let planned := d.plannedEnergy
  let debt := d.frm.debt
  let d0 : Dev := { d.frameBegins with row := { d.row with spans := [] } }
  let d1 := (d0.latchStretch debt).latchPower o planned d.frm.started
  (if d.frm.started then d1.energyCheck o.energy planned d.pwr.plan.isSome else d1).trace 6 24 0 (min 0xFFFF debt + 2 ^ 16 * (d1.viewBnd % 8))

/-! ### Orders and the links (Table 11.5 steps 2 to 4) -/

/-- Step 3: stop commands at the heads of pending rings, and the rings whose heads they were. -/
def State.stopEntries (s : State) (bad : List Nat) : List Nat × State :=
  (List.range 64).foldl (fun (a : List Nat × State) i =>
    let e := a.2.headEntry i
    if (a.2.dev.ring i).due && !bad.contains i && decide (e.opcode = 7) then
      (i :: a.1, { a.2 with dev := a.2.dev.takeStop i e })
    else a) ([], s)

/-- What a tick applies: a register write or an order (Table 11.4). -/
inductive TickItem where
  | write (w : StagedWrite)
  | order (o : Order)

def TickItem.pos : TickItem → Nat
  | .write w => w.pos
  | .order o => o.pos

def TickItem.src : TickItem → Master
  | .write w => w.src
  | .order o => o.src

/-- The order among the items, if it is one. -/
def TickItem.order? : TickItem → Option Order
  | .write _ => none
  | .order o => some o

/-- Insert an item after those that arrived no later. -/
def insertItem (x : TickItem) : List TickItem → List TickItem
  | [] => [x]
  | y :: t => if x.pos < y.pos then x :: y :: t else y :: insertItem x t

/-- The register writes and orders of a tick: management's, the host's, then the peers', each in order of arrival (R503, R504). -/
def Dev.tickItems (d : Dev) : List TickItem :=
  let all := d.flt.orders.foldl (fun l o => insertItem (.order o) l) (d.staged.map TickItem.write)
  let by_ := fun (m : Master) => all.filter (fun x => decide (x.src = m))
  by_ .management ++ by_ .host ++ by_ .peer

/-- The key commands, then the register writes and orders of a tick take effect (R13, R504, R505, R557). Where a reset is among them it
overrules the orders, and the writes and key commands have no effect (DEDUCED, log entry 181). -/
def Dev.applyOrders (d : Dev) : Dev :=
  let items := d.tickItems
  let os := items.filterMap TickItem.order?
  let d0 := { d with staged := [], flt := { d.flt with orders := [] } }
  if os.any (fun o => decide (o.src ≠ .peer) && o.reset && !d0.refusesOrder o) then d0.applyReset os
  else
    let stopping := os.any (fun o => o.stop && !d0.refusesOrder o)
    items.foldl (fun (x : Dev) i => match i with
      | .write w => x.applyStaged w
      | .order o => x.applyOrder stopping o) d0.applyKeys

/-- Fingerprints of partner entries that became free (R435). -/
def freedPartners (before after : Dev) : List Nat :=
  (before.lnk.partners.filter (fun (p : Nat × Partner) => p.2.state ≠ .free && decide ((after.partner p.1).state = .free))).map
    (fun (p : Nat × Partner) => p.2.fp)

/-! ### Steps and runs (R31, R45, R352, R536) -/

/-- The next step of the run begins, or the escrow forbids it (R352). -/
def State.stepOrAbort (s : State) (r : RunCmd) (idx : Nat) : State :=
  if s.dev.ldg.state = .idle then s.stepBegin r idx
  else
    let x := s.dev.raiseRec 0x501B 24 0 0
    { s with dev := x.2.escrowCancel.leaveRun stAborted s.dirStep x.1 }

/-- What the tick means for the run. -/
def State.runTick (s : State) : State :=
  let d := s.dev
  match d.seq.run with
  | none => s
  | some r =>
    if d.flt.stop ≠ .running ∨ d.flt.halting.isSome then s
    else if !d.seq.inStep then s.stepOrAbort r 0
    else if d.seq.stepEnded then
      let q := { r with done := r.done + 1 }
      if r.n ≤ q.done then { s with dev := d.leaveRun stCompleted r.lastStep none } else s.stepOrAbort q q.done
    else s.stepGoesOn

/-- A frame outside a step has its gating (R548), and what was raised as a run left is handled while none is active (R494). -/
def State.runSettles (s : State) : State :=
  let s1 : State := if s.dev.seq.inStep then s else { s with dev := s.dev.bwdIdleTick }
  if s1.dev.seq.run.isNone then s1.drainFaults faultRounds else s1

/-! ### Admission (Table 11.5 step 6, R30, R36) -/

/-- The head entry of ring `i`, if it is due. -/
def State.admitRing (s : State) (o : TickObs) (i : Nat) : State :=
  if !(s.dev.ring i).due then s
  else if o.hostBad.contains i then { s with dev := s.dev.headLost i }
  else s.examineHead i (s.headEntry i) true (o.sigOk.contains i)

/-- Rings in ascending order, but for those whose heads were stop commands. -/
def State.admitRings (s : State) (o : TickObs) (taken : List Nat) : State :=
  ((List.range 64).filter (fun i => !taken.contains i)).foldl (fun (u : State) i => u.admitRing o i) s

/-! ### The whole tick -/

/-- What the end of a frame raises is handled at its tick (R45, R497, R500), and the completion records that are due are written. -/
def State.tickFaults (s : State) (o : TickObs) : State :=
  let s1 := (({ s with dev := s.dev.frameEnds o } : State).drainFaults faultRounds).dueRecords
  if o.queueCheckFails then s1.fixedPath 0x1065 else s1

/-- Steps 1 to 4: the counter, the charter, stop entries, key commands, staged writes with the orders, and the links. -/
def State.tickOrders (s : State) (o : TickObs) : List Nat × State :=
  let d := (s.dev.tickBegins o).charterTick.stageOn
  let r := ({ s with dev := d } : State).stopEntries o.hostBad
  (r.1, { r.2 with dev := r.2.dev.applyOrders.linkTick })

/-- Steps 5 and 6 and the work of the protocols at a tick. -/
def State.tickWork (s : State) (o : TickObs) (taken freed : List Nat) : State :=
  let s1 := s.stopEffects.cancelDue.secureTick.escrowTick
  let s2 := (s1.runTick.runSettles.admitRings o taken).protectTick freed
  { s2 with dev := s2.dev.launchControls }

/-- TICK: the work of Table 11.5. A reset that is due prevails over all that would follow (R505, R519). -/
def State.tick (s : State) (o : TickObs) : State :=
  let s1 := s.tickFaults o
  let r := s1.tickOrders o
  if r.2.dev.flt.resetNow then r.2.resetTick else r.2.tickWork o r.1 (freedPartners s1.dev r.2.dev)

/-- TICK (R503). -/
def execTick (o : TickObs) (s : State) : Host.Outcome State Fault Refusal :=
  .next (s.tick o)

end Sys2Proof.Machine
end

