-- ==== Sys2Proof/Machine/Dispatch.lean ====
section
/-! DEFINITION. The dispatch: one arm for each constructor of Instr, in the order of spec/opcode_table.json. -/

namespace Sys2Proof.Machine

/-- What a command does to everything but the queue (the row's rules). -/
def exec (i : Instr) (s : State) : Host.Outcome State Fault Refusal :=
  match i with
  | .tick o => Sys2Proof.Machine.execTick o s
  | .settleTimeoutExpiry => Sys2Proof.Machine.execSettleTimeoutExpiry s
  | .revertComplete => Sys2Proof.Machine.execRevertComplete s
  | .doorbell ring tail writes => Sys2Proof.Machine.execDoorbell ring tail writes s
  | .ringEnable src ring value => Sys2Proof.Machine.execRingEnable src ring value s
  | .run ring entry => Sys2Proof.Machine.execRun ring entry s
  | .loadCharter ring entry => Sys2Proof.Machine.execLoadCharter ring entry s
  | .charterImageRead readOk sigOk => Sys2Proof.Machine.execCharterImageRead readOk sigOk s
  | .copyHostToDevice ring entry hostOk => Sys2Proof.Machine.execCopyHostToDevice ring entry hostOk s
  | .copyDeviceToHost ring entry hostOk => Sys2Proof.Machine.execCopyDeviceToHost ring entry hostOk s
  | .copyToBundleStore ring entry sigOk => Sys2Proof.Machine.execCopyToBundleStore ring entry sigOk s
  | .readTallies ring entry hostOk => Sys2Proof.Machine.execReadTallies ring entry hostOk s
  | .release ring entry => Sys2Proof.Machine.execRelease ring entry s
  | .skip ring entry => Sys2Proof.Machine.execSkip ring entry s
  | .snapshotRequest ring entry => Sys2Proof.Machine.execSnapshotRequest ring entry s
  | .mirrorRequest ring entry => Sys2Proof.Machine.execMirrorRequest ring entry s
  | .refill ring entry => Sys2Proof.Machine.execRefill ring entry s
  | .restore ring entry => Sys2Proof.Machine.execRestore ring entry s
  | .restoreComplete => Sys2Proof.Machine.execRestoreComplete s
  | .reconcile ring entry => Sys2Proof.Machine.execReconcile ring entry s
  | .reconcileResult => Sys2Proof.Machine.execReconcileResult s
  | .cancel ring entry => Sys2Proof.Machine.execCancel ring entry s
  | .stopCommand ring entry => Sys2Proof.Machine.execStopCommand ring entry s
  | .commandCompletion writeOk => Sys2Proof.Machine.execCommandCompletion writeOk s
  | .runBundle => Sys2Proof.Machine.execRunBundle s
  | .loopOpen => Sys2Proof.Machine.execLoopOpen s
  | .loopClose => Sys2Proof.Machine.execLoopClose s
  | .tickWait => Sys2Proof.Machine.execTickWait s
  | .stepEnd => Sys2Proof.Machine.execStepEnd s
  | .continue_ target span => Sys2Proof.Machine.execContinue target span s
  | .setTag group arg span => Sys2Proof.Machine.execSetTag group arg span s
  | .fillQueue group arg span => Sys2Proof.Machine.execFillQueue group arg span s
  | .fillWindow group arg span => Sys2Proof.Machine.execFillWindow group arg span s
  | .fillRetire group arg span => Sys2Proof.Machine.execFillRetire group arg span s
  | .fillRunAheadStart group tile cycles => Sys2Proof.Machine.execFillRunAheadStart group tile cycles s
  | .fwdWindow group arg span => Sys2Proof.Machine.execFwdWindow group arg span s
  | .fwdWload group arg span => Sys2Proof.Machine.execFwdWload group arg span s
  | .fwdClear group arg span => Sys2Proof.Machine.execFwdClear group arg span s
  | .bwdWindow group arg span => Sys2Proof.Machine.execBwdWindow group arg span s
  | .bwdBload group arg span => Sys2Proof.Machine.execBwdBload group arg span s
  | .bwdClear group arg span => Sys2Proof.Machine.execBwdClear group arg span s
  | .bwdDeposit group arg span => Sys2Proof.Machine.execBwdDeposit group arg span s
  | .mintLoad stack arg span => Sys2Proof.Machine.execMintLoad stack arg span s
  | .mintStore stack arg span => Sys2Proof.Machine.execMintStore stack arg span s
  | .mintScales stack arg span => Sys2Proof.Machine.execMintScales stack arg span s
  | .dmaCopy stack arg span => Sys2Proof.Machine.execDmaCopy stack arg span s
  | .layCopy stack arg span => Sys2Proof.Machine.execLayCopy stack arg span s
  | .copyComplete engine => Sys2Proof.Machine.execCopyComplete engine s
  | .streamSend die arg span => Sys2Proof.Machine.execStreamSend die arg span s
  | .streamExpect die arg span => Sys2Proof.Machine.execStreamExpect die arg span s
  | .streamExpectDeadline => Sys2Proof.Machine.execStreamExpectDeadline s
  | .streamBind die arg span => Sys2Proof.Machine.execStreamBind die arg span s
  | .rowRun die arg span => Sys2Proof.Machine.execRowRun die arg span s
  | .lossAdd arg span => Sys2Proof.Machine.execLossAdd arg span s
  | .clear arg span => Sys2Proof.Machine.execClear arg span s
  | .clearingMessageApply stream => Sys2Proof.Machine.execClearingMessageApply stream s
  | .clearingRoundDeadline => Sys2Proof.Machine.execClearingRoundDeadline s
  | .clearingComplete => Sys2Proof.Machine.execClearingComplete s
  | .report arg span => Sys2Proof.Machine.execReport arg span s
  | .deferredReportSend => Sys2Proof.Machine.execDeferredReportSend s
  | .reportReceived stream msg => Sys2Proof.Machine.execReportReceived stream msg s
  | .settle arg span => Sys2Proof.Machine.execSettle arg span s
  | .settleChunkComplete => Sys2Proof.Machine.execSettleChunkComplete s
  | .settlementOutsideProgram => Sys2Proof.Machine.execSettlementOutsideProgram s
  | .flitReceive port lane decoded symbols hdr body => Sys2Proof.Machine.execFlitReceive port lane decoded symbols hdr body s
  | .ackTimeoutResend port fseq => Sys2Proof.Machine.execAckTimeoutResend port fseq s
  | .messageDeadlineDiscard port => Sys2Proof.Machine.execMessageDeadlineDiscard port s
  | .controlFlitReceive port lane flit arrival => Sys2Proof.Machine.execControlFlitReceive port lane flit arrival s
  | .laneTrained port lane peer peerPort => Sys2Proof.Machine.execLaneTrained port lane peer peerPort s
  | .laneTrainTimeout port lane => Sys2Proof.Machine.execLaneTrainTimeout port lane s
  | .controlFlitMissed port lane => Sys2Proof.Machine.execControlFlitMissed port lane s
  | .codewordLockLoss port lane => Sys2Proof.Machine.execCodewordLockLoss port lane s
  | .hailSend port => Sys2Proof.Machine.execHailSend port s
  | .hail port body certOk sigOk => Sys2Proof.Machine.execHail port body certOk sigOk s
  | .updateHail port body certOk sigOk => Sys2Proof.Machine.execUpdateHail port body certOk sigOk s
  | .farewell port body certOk sigOk => Sys2Proof.Machine.execFarewell port body certOk sigOk s
  | .domainWrite src high value => Sys2Proof.Machine.execDomainWrite src high value s
  | .yield src => Sys2Proof.Machine.execYield src s
  | .partnerFree src => Sys2Proof.Machine.execPartnerFree src s
  | .feedALoss die => Sys2Proof.Machine.execFeedALoss die s
  | .bothFeedsLost die => Sys2Proof.Machine.execBothFeedsLost die s
  | .faultHandle => Sys2Proof.Machine.execFaultHandle s
  | .controlDieUE parity => Sys2Proof.Machine.execControlDieUE parity s
  | .orderStopAtTick src value => Sys2Proof.Machine.execOrderStopAtTick src value s
  | .orderHaltNow src value => Sys2Proof.Machine.execOrderHaltNow src value s
  | .orderFabricStop src value => Sys2Proof.Machine.execOrderFabricStop src value s
  | .orderResume src value => Sys2Proof.Machine.execOrderResume src value s
  | .orderReset src value => Sys2Proof.Machine.execOrderReset src value s
  | .stopComplete => Sys2Proof.Machine.execStopComplete s
  | .halted offsets => Sys2Proof.Machine.execHalted offsets s
  | .cxlResetEvent kind => Sys2Proof.Machine.execCxlResetEvent kind s
  | .hdmDecoderCommit j base size skip => Sys2Proof.Machine.execHdmDecoderCommit j base size skip s
  | .configRequest => Sys2Proof.Machine.execConfigRequest s
  | .cxlMemRead haddr errs => Sys2Proof.Machine.execCxlMemRead haddr errs s
  | .cxlMemWrite haddr enables data poison => Sys2Proof.Machine.execCxlMemWrite haddr enables data poison s
  | .bar0UnoccupiedAccess addr write => Sys2Proof.Machine.execBar0UnoccupiedAccess addr write s
  | .lowWordRead addr => Sys2Proof.Machine.execLowWordRead addr s
  | .highWordWrite addr value => Sys2Proof.Machine.execHighWordWrite addr value s
  | .registerWrite addr value => Sys2Proof.Machine.execRegisterWrite addr value s
  | .scrubRead stack errs => Sys2Proof.Machine.execScrubRead stack errs s
  | .correctedWriteback stack => Sys2Proof.Machine.execCorrectedWriteback stack s
  | .shardSend => Sys2Proof.Machine.execShardSend s
  | .bayClaim stream hdr payload => Sys2Proof.Machine.execBayClaim stream hdr payload s
  | .grant stream hdr payload => Sys2Proof.Machine.execGrant stream hdr payload s
  | .shard stream hdr payload => Sys2Proof.Machine.execShard stream hdr payload s
  | .mirror stream hdr payload => Sys2Proof.Machine.execMirror stream hdr payload s
  | .seal stream hdr payload => Sys2Proof.Machine.execSeal stream hdr payload s
  | .receipt stream hdr payload => Sys2Proof.Machine.execReceipt stream hdr payload s
  | .genRecord stream hdr payload => Sys2Proof.Machine.execGenRecord stream hdr payload s
  | .fetch stream hdr payload => Sys2Proof.Machine.execFetch stream hdr payload s
  | .fetchData stream hdr payload => Sys2Proof.Machine.execFetchData stream hdr payload s
  | .refillBegin stream hdr payload => Sys2Proof.Machine.execRefillBegin stream hdr payload s
  | .restored stream hdr payload => Sys2Proof.Machine.execRestored stream hdr payload s
  | .mirrorBlockSend => Sys2Proof.Machine.execMirrorBlockSend s
  | .powerGood straps => Sys2Proof.Machine.execPowerGood straps s
  | .bootStageVerify image svn ok last => Sys2Proof.Machine.execBootStageVerify image svn ok last s
  | .memoryTrained mask => Sys2Proof.Machine.execMemoryTrained mask s
  | .selfTest vectors mismatch failed bothFailed digest => Sys2Proof.Machine.execSelfTest vectors mismatch failed bothFailed digest s
  | .startupStageTimeout => Sys2Proof.Machine.execStartupStageTimeout s
  | .inputUndervoltage => Sys2Proof.Machine.execInputUndervoltage s
  | .inputOvervoltage => Sys2Proof.Machine.execInputOvervoltage s
  | .inputCurrentLimit => Sys2Proof.Machine.execInputCurrentLimit s
  | .sustainedPowerExcess => Sys2Proof.Machine.execSustainedPowerExcess s
  | .peakPowerExcess => Sys2Proof.Machine.execPeakPowerExcess s
  | .droop => Sys2Proof.Machine.execDroop s
  | .droopEnd stretched => Sys2Proof.Machine.execDroopEnd stretched s
  | .inletHigh inlet => Sys2Proof.Machine.execInletHigh inlet s
  | .thermalMarginLow temps => Sys2Proof.Machine.execThermalMarginLow temps s
  | .thermalMarginExhausted temps => Sys2Proof.Machine.execThermalMarginExhausted temps s
  | .thermalTrip => Sys2Proof.Machine.execThermalTrip s
  | .regRead addr => Sys2Proof.Machine.execRegRead addr s
  | .regWrite addr value => Sys2Proof.Machine.execRegWrite addr value s
  | .attest nonce => Sys2Proof.Machine.execAttest nonce s
  | .jrnRead first count => Sys2Proof.Machine.execJrnRead first count s
  | .jrnAck seq => Sys2Proof.Machine.execJrnAck seq s
  | .jrnSeal => Sys2Proof.Machine.execJrnSeal s
  | .keyWrite slot use key erase => Sys2Proof.Machine.execKeyWrite slot use key erase s
  | .pldmSensorRead sensor => Sys2Proof.Machine.execPldmSensorRead sensor s
  | .requestUpdate => Sys2Proof.Machine.execRequestUpdate s
  | .activateFirmware => Sys2Proof.Machine.execActivateFirmware s
  | .keyCommit src use => Sys2Proof.Machine.execKeyCommit src use s
  | .keyErase src => Sys2Proof.Machine.execKeyErase src s
  | .jrnCtlSeal src => Sys2Proof.Machine.execJrnCtlSeal src s
  | .jrnAckWrite src seq => Sys2Proof.Machine.execJrnAckWrite src seq s
  | .cntEnable src value => Sys2Proof.Machine.execCntEnable src value s
  | .trcArm src => Sys2Proof.Machine.execTrcArm src s
  | .trcTrigger src => Sys2Proof.Machine.execTrcTrigger src s
  | .trcDump src => Sys2Proof.Machine.execTrcDump src s
  | .traceDrain => Sys2Proof.Machine.execTraceDrain s
  | .feedBLoss die => Sys2Proof.Machine.execFeedBLoss die s
  | .feedReturn die feed => Sys2Proof.Machine.execFeedReturn die feed s
  | .receiveMarginLow port lane => Sys2Proof.Machine.execReceiveMarginLow port lane s
  | .thermalMarginRecovered temps => Sys2Proof.Machine.execThermalMarginRecovered temps s
  | .inletRecovered inlet => Sys2Proof.Machine.execInletRecovered inlet s
  | .hostSnoop haddr kind => Sys2Proof.Machine.execHostSnoop haddr kind s
  | .firmwareImageVerified image svn ok => Sys2Proof.Machine.execFirmwareImageVerified image svn ok s
  | .keyDataWrite src offset value => Sys2Proof.Machine.execKeyDataWrite src offset value s

end Sys2Proof.Machine
end

