-- ==== Sys2Proof/Safety.lean ====
section
/-! DEFINITION. What the statements count as a sound state of the block, and how they say what a command leaves unchanged. -/

namespace Sys2Proof.Safety

open Sys2Proof.Machine

/-! ### Sound states -/

/-- Both byte memories are in their canonical form (Machine/Ops.lean). -/
abbrev MemoryCanonical (s : State) : Prop := s.mem.wf = true ∧ s.host.wf = true

/-- The fault queue and the record being handled are together at most 32 records (R496, R498). -/
abbrev QueueBounded (d : Dev) : Prop := d.flt.queue.length + b2n d.flt.handling.isSome ≤ 32

/-- The journal's window is sound: no entry is exported that has not been written, and at most 65,536 are listed or wait for export (R566,
R567). -/
abbrev JournalBounded (d : Dev) : Prop :=
  d.sec.journal.length ≤ 65536 ∧ d.sec.acked ≤ d.sec.nextSeq ∧ d.sec.nextSeq ≤ d.sec.acked + 65536

/-! ### Faults -/

/-- A record of the fault waits in the queue. -/
abbrev Waits (d : Dev) (code unit wher : Nat) : Prop := ∃ r ∈ d.flt.queue, r.code = code ∧ r.unit = unit ∧ r.wher = wher

/-- The fault queue has room for `n` more records (R498). -/
abbrev Room (d : Dev) (n : Nat) : Prop := d.flt.queue.length + b2n d.flt.handling.isSome + n ≤ 32

/-- The journal has room for `n` more entries without reaching a limit at which it raises a fault or refuses a change (R567). -/
abbrev JournalRoom (d : Dev) (n : Nat) : Prop := d.sec.unexported + n < 57344

/-- The registers that count raisings (R521). -/
def countRegs : List Nat := [Reg.fltCount0.card.addr, Reg.fltCount1.card.addr]

/-- The chip is not stopping, stopped, halted or chip-stopped. -/
abbrev Running (d : Dev) : Prop := d.flt.stop = .running ∧ d.flt.halting = none

/-! ### Ring commands -/

/-- The command rows of a ring's entries, each with whether the entry is one of that row (Tables 12.3, 12.4), host memory and signatures being
good. -/
def ringRows (ring : Fin 64) (entry : BitVec 1024) : List (Instr × Bool) :=
  let e : Entry := entry
  [(.run ring entry, decide (e.opcode = 1)), (.loadCharter ring entry, decide (e.opcode = 2)),
   (.copyHostToDevice ring entry true, decide (e.opcode = 3 ∧ e.dir = 0)), (.copyDeviceToHost ring entry true, decide (e.opcode = 3 ∧ e.dir = 1)),
   (.copyToBundleStore ring entry true, decide (e.opcode = 3 ∧ e.dir = 2)), (.readTallies ring entry true, decide (e.opcode = 4)),
   (.release ring entry, decide (e.opcode = 5 ∧ e.decision = 1)), (.skip ring entry, decide (e.opcode = 5 ∧ e.decision = 2)),
   (.snapshotRequest ring entry, decide (e.opcode = 6 ∧ e.kind = 1)), (.mirrorRequest ring entry, decide (e.opcode = 6 ∧ e.kind = 2)),
   (.refill ring entry, decide (e.opcode = 6 ∧ e.kind = 3)), (.restore ring entry, decide (e.opcode = 6 ∧ e.kind = 4)),
   (.reconcile ring entry, decide (e.opcode = 6 ∧ e.kind = 5)), (.cancel ring entry, decide (e.opcode = 6 ∧ e.kind = 6))]

/-- The head of a ring has passed one entry (R528, R535). -/
abbrev HeadPassed (s t : State) (i : Nat) : Prop :=
  (t.dev.ring i).head = (if (s.dev.ring i).head + 1 = 2 ^ (s.dev.ring i).n then 0 else (s.dev.ring i).head + 1)

/-- A command of the entry at the head of ring `i` has finished with a status: its completion record waits last. -/
def Finished (s t : State) (i status : Nat) : Prop :=
  ∃ x : Completion, t.dev.hst.done = s.dev.hst.done ++ [x] ∧ x.cmd.ring = i ∧ x.cmd.index = (s.dev.ring i).head ∧ x.status = status

/-- The journal has taken one entry of a kind with this source. -/
def Entered (d e : Dev) (kind source : Nat) : Prop :=
  ∃ x : JEntry, e.sec.journal = (x :: d.sec.journal).take 65536 ∧ x.kind = kind ∧ x.source = source

/-- Nothing stands between a write and memory: memory is canonical, no granule is poisoned or in error, no block is frozen, and counting is
off. -/
abbrev PlainMemory (s : State) : Prop :=
  MemoryCanonical s ∧ s.dev.stk.poison = [] ∧ s.dev.stk.upsets = [] ∧ s.dev.prt.frozen = [] ∧ s.dev.obs.counting = false

/-- Nothing runs and nothing waits: no charter, ring, program, lane, order or fault. What may differ from the state before power-good are
registers, the frame counter, power and start-up, memory's attachments, keys and the journal, and the record of past faults. -/
def Quiet (d : Dev) : Prop :=
  d = { ({} : Dev) with
    regs := d.regs, latched := d.latched, lowWords := d.lowWords, staged := d.staged, frm := d.frm, flt := d.flt, hst := d.hst, stk := d.stk
    pwr := d.pwr, sec := d.sec, out := d.out, free := d.free } ∧
  d.flt = { ({} : Flt) with log := d.flt.log, nextSeq := d.flt.nextSeq, overflow := d.flt.overflow, haltRecord := d.flt.haltRecord } ∧
  (∀ r ∈ d.hst.rings, r.live = false) ∧ d.sec.keyOps = [] ∧ d.hst.done = [] ∧ d.hst.copies = []

/-! ### Vault messages -/

/-- The received vault messages, each with its KIND (Table 10.5). -/
def vaultRows (stream : BitVec 12) (hdr : BitVec 512) (payload : List Byte) : List (Nat × Instr) :=
  [(1, .bayClaim stream hdr payload), (2, .grant stream hdr payload), (3, .shard stream hdr payload), (4, .mirror stream hdr payload),
   (5, .seal stream hdr payload), (6, .receipt stream hdr payload), (7, .genRecord stream hdr payload), (8, .fetch stream hdr payload),
   (9, .fetchData stream hdr payload), (10, .refillBegin stream hdr payload), (11, .restored stream hdr payload)]

/-- Bytes `b` stand at offset `o` of allocation `a` in state `t`, in every piece that shares no address with another piece of them. -/
def StoredBytes (d : Dev) (a o : Nat) (b : List Byte) (t : State) : Prop :=
  let at_ := fun (p : Nat) => d.translate (d.alloc a) p
  ∀ q ∈ granPieces o b.length, (∀ r ∈ granPieces o b.length, r ≠ q → at_ q.1 + q.2 ≤ at_ r.1 ∨ at_ r.1 + r.2 ≤ at_ q.1) →
    ∀ i < q.2, t.byte (at_ q.1 + i) = b.getD (q.1 - o + i) 0

/-! ### What is left unchanged -/

/-- Both memories read as before at every address, and the commands that wait are the same. -/
def SameBytes (s t : State) : Prop := t.pending = s.pending ∧ (∀ a, t.byte a = s.byte a) ∧ ∀ a, t.host.get a = s.host.get a

/-- Address `p` lies outside bytes [o, o + n) of allocation `a`. -/
def OutsideBytes (d : Dev) (a o n p : Nat) : Prop :=
  ∀ q ∈ granPieces o n, p < d.translate (d.alloc a) q.1 ∨ d.translate (d.alloc a) q.1 + q.2 ≤ p

/-- Address `p` lies outside every element of a layout. -/
def OutsideElems (d : Dev) (l : Layout) (p : Nat) : Prop :=
  ∀ i < l.count, OutsideBytes d l.alloc (l.bitPos (l.elem (l.tuple i)) / 8) ((l.bitPos (l.elem (l.tuple i)) % 8 + l.bits + 7) / 8) p

/-- Registers at addresses outside a list hold what they held. -/
def SameRegs (d e : Dev) (xs : List Nat) : Prop := ∀ a, a ∉ xs → tget e.regs a = tget d.regs a

/-- `e` is `d` but for what raising faults changes: registers (see SameRegs), the fault queue and its counts, trace and counters, started
fill work and what leaves the chip. -/
def FaultPartsOf (d e : Dev) : Prop :=
  e = { d with regs := e.regs, flt := e.flt, obs := e.obs, fwd := e.fwd, out := e.out } ∧
  e.flt = { d.flt with
    queue := e.flt.queue, handling := e.flt.handling, nextSeq := e.flt.nextSeq, reserved := e.flt.reserved, overflow := e.flt.overflow }

end Sys2Proof.Safety
end

