-- ==== Sys2Proof/Certificates/Slice0/Obligations.lean ====
section
/-! DEFINITION. What the provers are asked: one statement for each rule or group of rules, by the chapters of the spec. -/

open Sys2Proof Sys2Proof.Machine Sys2Proof.Safety

/-- With a command at the front of the queue, step is exec of that command on the state with the rest of the queue; on an empty queue the
block idles (the model's choice, log entry 13). (spec/95_what_each_step_holds.md) -/
def Obligations.StepRunsTheFrontCommand : Prop :=
  (∀ (c : Instr) (rest : List Instr) (s : State), s.pending = c :: rest → step s = exec c { s with pending := rest }) ∧
  ∀ s : State, s.pending = [] → step s = .next s

/-- For every command and every state, exec answers a next state, neither a fault nor a refusal, and the commands that wait are the same
after it. (spec/95_what_each_step_holds.md) -/
def Obligations.EveryCommandLeavesTheQueue : Prop :=
  ∀ (c : Instr) (s : State), ∃ t, exec c s = .next t ∧ t.pending = s.pending

/-- If device memory and host memory are in canonical form (addresses strictly rising, no byte listed that equals what an unlisted address
reads as) and step answers a next state, then both are in canonical form in it. The form is the model's own.
(spec/08_memory_and_layout.md, spec/12_host_and_startup.md) -/
def Obligations.StepKeepsMemoryCanonical : Prop :=
  ∀ s t : State, MemoryCanonical s → step s = .next t → MemoryCanonical t

/-- In State.reset both memories are canonical, the fault queue and the journal are within their bounds, no command waits, the rails are
off, the start-up stage is 0 and FLT.STATUS.STOP reads running. (spec/12_host_and_startup.md, spec/11_faults_and_stops.md) -/
def Obligations.ResetIsSound : Prop :=
  MemoryCanonical State.reset ∧ QueueBounded State.reset.dev ∧ JournalBounded State.reset.dev ∧ State.reset.pending = [] ∧
  State.reset.dev.pwr.rails = false ∧ State.reset.dev.hst.stage = 0 ∧ Running State.reset.dev

/-- In State.reset, instance 0 of every register reads as its card's reset value, but for PRT.WEIGHT, whose card names the default of the
selected input, and the four registers that show the device's own fingerprint. (spec/00_scope.md, spec/12_host_and_startup.md) -/
def Obligations.RegistersReadTheirResetValue : Prop :=
  ∀ r : Reg, r ∉ [Reg.prtWeight, .lnkSelfLo, .lnkSelfHi, .lnkRefLo, .lnkRefHi] → State.reset.view r 0 = r.card.reset

/-- A host read of the low register of a 64-bit quantity delivers that register's value, and a read of the next register in the state after
it delivers the value that the high word had at the low word's read. Nothing but the latch and what leaves the chip changes. For
HST.CMD, HST.COMP, SEC.JRN_ACK and FLT.AT: a host write of the low word alone changes nothing but the waiting low word. The write of
the high word that follows takes both words together: for FLT.AT, an immediate field, the pair holds them at once; for the others one
staged write of the 64-bit value waits for the tick. (R11, R12) -/
def Obligations.SixtyFourBitQuantities : Prop :=
  (∀ (a : BitVec 24) (s : State) (c h : RegDef) (i j : Nat),
    regAt a.toNat = some (c, i) → c.reg.isLow = true → regAt (a.toNat + 4) = some (h, j) →
    ∃ t, exec (.lowWordRead a) s = .next t ∧
      t.dev.out = .value (s.view c.reg i) :: s.dev.out ∧
      (t.busRead .host (a.toNat + 4)).1 = s.view h.reg j ∧
      SameBytes s t ∧ t.dev = { s.dev with latched := t.dev.latched, out := t.dev.out }) ∧
  (∀ (p : Reg × Reg) (al ah : BitVec 24) (lo hi : BitVec 32) (s : State),
    p ∈ [(Reg.hstCmdLo, Reg.hstCmdHi), (.hstCompLo, .hstCompHi), (.secJrnAckLo, .secJrnAckHi), (.fltAtLo, .fltAtHi)] →
    al.toNat = p.1.card.addr → ah.toNat = p.2.card.addr → JournalRoom s.dev 2 →
    ∃ t u, exec (.registerWrite al lo) s = .next t ∧ exec (.highWordWrite ah hi) t = .next u ∧
      t = { s with dev := { s.dev with lowWords := t.dev.lowWords } } ∧
      (p.2 = .fltAtHi → u.dev.pair .fltAtLo .fltAtHi % 2 ^ 48 = lo.toNat + 2 ^ 32 * (hi.toNat % 2 ^ 16) ∧ u.dev.staged = s.dev.staged) ∧
      (p.2 ≠ .fltAtHi → u.dev.regs = s.dev.regs ∧ u.dev.hst = s.dev.hst ∧ u.dev.sec = s.dev.sec ∧
        u.dev.staged = s.dev.staged ++ [({ src := .host, addr := ah.toNat, value := lo.toNat + 2 ^ 32 * hi.toNat
                                           sel := s.dev.selected p.2, pos := s.dev.arrived } : StagedWrite)]) ∧
      SameBytes s u)

/-- A host write of a read-write register without immediate fields, of a register that is no half of a 64-bit quantity, is entered among
the staged writes with its source, address, value, selection and place among what arrived in the frame, and changes nothing else: the
register reads as before. So do DOMAIN_WRITE, CNT_ENABLE and, for its ring, RING_ENABLE, from the host or the management port. (A full
journal refuses the write instead; R567.) A register command of a master that Table 11.4 does not mark does nothing. (R13, R501, R527,
R578, R435) -/
def Obligations.RegisterWritesWaitForTheTick : Prop :=
  (∀ (s : State) (src : Master) (v : BitVec 32) (high : Bool) (ring : Fin 64) (use : BitVec 2) (off : BitVec 12) (seq : BitVec 64),
    (src = .peer ∨ src = .device) → ∀ c ∈ [Instr.domainWrite src high v, .cntEnable src v, .ringEnable src ring v, .partnerFree src, .yield src,
      .keyCommit src use, .keyErase src, .keyDataWrite src off v, .jrnCtlSeal src, .jrnAckWrite src seq, .trcArm src, .trcTrigger src,
      .trcDump src], exec c s = .next s) ∧
  ∀ (s : State) (src : Master) (v : BitVec 32), (src = .host ∨ src = .management) → JournalRoom s.dev 1 →
    (∀ (a : BitVec 24) (c : RegDef) (i : Nat), regAt a.toNat = some (c, i) → (c.reg.chipOnly = true → i = 0) → c.wo = 0 → c.w1c = 0 →
      c.rw ≠ 0 → c.imm = 0 → c.reg.isLowRw = false → c.reg.isHighRw = false →
      exec (.registerWrite a v) s = .next { s with dev := { s.dev with staged := s.dev.staged ++
        [({ src := .host, addr := a.toNat, value := v.toNat, sel := s.dev.selected c.reg, pos := s.dev.arrived } : StagedWrite)] } }) ∧
    (∀ high : Bool, exec (.domainWrite src high v) s = .next { s with dev := { s.dev with staged := s.dev.staged ++
        [({ src := src, addr := if high then Reg.lnkDomainHi.card.addr else Reg.lnkDomainLo.card.addr, value := v.toNat, sel := 0, pos := s.dev.arrived } : StagedWrite)] } }) ∧
    exec (.cntEnable src v) s = .next { s with dev := { s.dev with staged := s.dev.staged ++
        [({ src := src, addr := Reg.obsCntCtl.card.addr, value := v.toNat, sel := 0, pos := s.dev.arrived } : StagedWrite)] } } ∧
    ∀ ring : Fin 64, exec (.ringEnable src ring v) s = .next { s with dev := { s.dev with staged := s.dev.staged ++
        [({ src := src, addr := Reg.hstRingCfg.card.addr, value := v.toNat, sel := ring.val, pos := s.dev.arrived } : StagedWrite)] } }

/-- A host write of a register without a read-write, write-1-clear or write-only field changes nothing. At an offset that no register, no
key window and no MSI-X word occupies, a write is ignored and a read delivers 0, and each raises notice 0xB001 of the host interface;
nothing else changes. (R10) -/
def Obligations.ReadOnlyAndUnoccupiedWrites : Prop :=
  (∀ (a : BitVec 24) (v : BitVec 32) (s : State) (c : RegDef) (i : Nat), regAt a.toNat = some (c, i) →
    c.rw = 0 → c.w1c = 0 → c.wo = 0 → c.reg.isLowRw = false → c.reg.isHighRw = false → exec (.registerWrite a v) s = .next s) ∧
  ∀ (a : BitVec 24) (write : Bool) (s : State), regAt a.toNat = none → inKeyWindow a.toNat = false → inMsix a.toNat = false → Room s.dev 1 →
    ∃ t, exec (.bar0UnoccupiedAccess a write) s = .next t ∧
      Waits t.dev 0xB001 37 0 ∧ (write = false → t.dev.out.head? = some (.value 0)) ∧
      FaultPartsOf s.dev t.dev ∧ SameRegs s.dev t.dev countRegs ∧ SameBytes s t

/-- A host write of a register whose fields are immediate sets its writable bits at once. A host write of a write-1-clear register with no
1 at a clearing field does nothing; any other joins the staged writes of the next tick, and when it takes effect it clears exactly the
set bits at which the value has a 1. Each change of value adds one journal entry of KIND register that names the register's address,
with what the register shows before and after; a write that changes no value adds none. Memory and the other staged writes stay. (R13,
R15, R503, R504) -/
def Obligations.ImmediateAndClearingWrites : Prop :=
  ∀ (a : BitVec 24) (v : BitVec 32) (s : State) (c : RegDef) (i : Nat), regAt a.toNat = some (c, i) →
    (c.reg.chipOnly = true → i = 0) → c.wo = 0 → c.reg.isLowRw = false → c.reg.isHighRw = false → JournalRoom s.dev 1 →
    s.dev.reg c.reg i < 2 ^ 32 →
    let gone := s.dev.quantity c.reg i 0 &&& v.toNat &&& c.w1c
    let w : StagedWrite := { src := .host, addr := a.toNat, value := v.toNat, pos := s.dev.arrived }
    (c.w1c = 0 → c.imm ≠ 0 → s.dev.reg c.reg i &&& c.rw = s.dev.reg c.reg i →
      ∃ t, exec (.registerWrite a v) s = .next t ∧ t.dev.reg c.reg i = v.toNat &&& c.rw ∧
        (t.dev.reg c.reg i = s.dev.reg c.reg i → t = s) ∧
        (t.dev.reg c.reg i ≠ s.dev.reg c.reg i → ∃ e, t.dev.sec.journal = (e :: s.dev.sec.journal).take 65536 ∧
          e.kind = 1 ∧ e.source = 1 ∧ e.object = a.toNat ∧ e.old = s.dev.reg c.reg i ∧ e.new = t.dev.reg c.reg i) ∧
        t.dev.staged = s.dev.staged ∧ SameRegs s.dev t.dev [a.toNat] ∧ SameBytes s t) ∧
    (c.w1c ≠ 0 →
      (v.toNat &&& c.w1c = 0 → exec (.registerWrite a v) s = .next s) ∧
      (v.toNat &&& c.w1c ≠ 0 → exec (.registerWrite a v) s = .next { s with dev := { s.dev with staged := s.dev.staged ++ [w] } }) ∧
      (gone = 0 → s.dev.applyStaged w = s.dev) ∧
      (gone ≠ 0 → (s.dev.applyStaged w).quantity c.reg i 0 = s.dev.quantity c.reg i 0 - gone ∧
        (∃ e, (s.dev.applyStaged w).sec.journal = (e :: s.dev.sec.journal).take 65536 ∧ e.kind = 1 ∧ e.source = 1 ∧ e.object = a.toNat ∧
          e.old = s.dev.quantity c.reg i 0 ∧ e.new = s.dev.quantity c.reg i 0 - gone) ∧
        (s.dev.applyStaged w).staged = s.dev.staged ∧ SameRegs s.dev (s.dev.applyStaged w) [a.toNat]))

/-- While the rails are off, POWER_GOOD turns them on and begins stage 2 with PWRGD high, FAILED clear, the boot bank that was activated
last, an empty measurement register and the SMBus address 0x60 plus the straps (the address and the boot bank are the model's reading of
R601 and R560, and that stage 1 ends as the event comes is log entry 199). Memory is as before, and so is everything else where no cause of
a loss of the rails is latched. A latched cause is entered in the log as a chip-stop record and in the journal as an entry of KIND 9 of
source device, waits in no queue, and is latched no more (log entry 58). While the rails are on it does nothing. (R538) -/
def Obligations.PowerGoodBeginsBoot : Prop :=
  ∀ (straps : BitVec 3) (s : State),
    (s.dev.pwr.rails = false → ∃ t, exec (.powerGood straps) s = .next t ∧
      t.dev.hst.stage = 2 ∧ t.dev.hst.failed = false ∧ t.dev.hst.smbus = 0x60 + straps.toNat ∧ t.dev.pwr.rails = true ∧
      t.dev.pins.pwrgd = true ∧ t.dev.sec.bootBank = s.dev.sec.activeBank ∧ t.dev.sec.meas = 0 ∧ t.dev.frm = s.dev.frm ∧
      (s.dev.hst.latchedCause = none → t.dev = { s.dev with hst := t.dev.hst, pwr := t.dev.pwr, sec := t.dev.sec } ∧
        t.dev.sec.journal = s.dev.sec.journal ∧ t.dev.sec.keys = s.dev.sec.keys) ∧
      (∀ c, s.dev.hst.latchedCause = some c → JournalRoom s.dev 1 →
        t.dev = { s.dev with hst := t.dev.hst, pwr := t.dev.pwr, sec := t.dev.sec, flt := t.dev.flt, free := t.dev.free } ∧
        t.dev.hst.latchedCause = none ∧
        (∃ e, t.dev.sec.journal = (e :: s.dev.sec.journal).take 65536 ∧ e.kind = 9 ∧ e.source = 3 ∧ e.new = c % 2 ^ 256) ∧
        ∃ r, t.dev.flt = { s.dev.flt with log := (logInsert s.dev.flt.log r).take 256, nextSeq := t.dev.flt.nextSeq } ∧
          r.code = c ∧ r.sev = .chipStop ∧ r.unit = 24) ∧ SameBytes s t) ∧
    (s.dev.pwr.rails = true → exec (.powerGood straps) s = .next s)

/-- In stage 2, a firmware stage that verifies and carries a security version number not below the minimum extends the measurement register
to the SHAKE256 digest of the old value and the digest of the stage's image, which is listed among the stages, and after the last one stage
3 begins. A stage that does not verify, or is below the minimum, raises 0xA001; the first time the boot falls back to the other bank with
0xA002 and starts measuring again from zero, the second time FAILED is set and the stage stays 2. The end of boot checks the newest 256
entries of the journal's chain: one that does not hold raises 0xA023. In another stage, or with FAILED set, it does nothing. (R558, R559,
R560) -/
def Obligations.BootMeasuresEachStage : Prop :=
  ∀ (image : List Byte) (svn : BitVec 16) (ok last : Bool) (s : State),
    ((s.dev.hst.stage ≠ 2 ∨ s.dev.hst.failed = true) → exec (.bootStageVerify image svn ok last) s = .next s) ∧
    (s.dev.hst.stage = 2 → s.dev.hst.failed = false →
    (ok = true ∧ s.dev.sec.minSvn ≤ svn.toNat → ∃ t, exec (.bootStageVerify image svn ok last) s = .next t ∧
      t.dev.sec.meas = shake256 (leBytes 32 s.dev.sec.meas ++ leBytes 32 (shake256 image)) ∧
      t.dev.sec.stages = s.dev.sec.stages ++ [shake256 image] ∧ t.dev.hst.stage = (if last then 3 else 2) ∧
      t.dev.sec = { s.dev.sec with meas := t.dev.sec.meas, stages := t.dev.sec.stages, svn := svn.toNat } ∧
      t.dev.hst = { s.dev.hst with stage := t.dev.hst.stage } ∧
      (last = false ∨ chainOk 256 s.dev.sec.journal = true → t.dev = { s.dev with hst := t.dev.hst, sec := t.dev.sec }) ∧
      (last = true → chainOk 256 s.dev.sec.journal = false → Room s.dev 1 → Waits t.dev 0xA023 24 0 ∧ SameRegs s.dev t.dev countRegs) ∧
      SameBytes s t) ∧
    (¬(ok = true ∧ s.dev.sec.minSvn ≤ svn.toNat) → Room s.dev 2 → ∃ t, exec (.bootStageVerify image svn ok last) s = .next t ∧
      Waits t.dev 0xA001 24 0 ∧ t.dev.hst.stage = 2 ∧
      (s.dev.sec.fallback = false → t.dev.sec.bootBank = 1 - s.dev.sec.bootBank ∧ t.dev.sec.fallback = true ∧ t.dev.sec.meas = 0 ∧
        t.dev.sec.stages = [] ∧ t.dev.hst.failed = false ∧ Waits t.dev 0xA002 24 0 ∧
        t.dev.sec = { s.dev.sec with bootBank := 1 - s.dev.sec.bootBank, fallback := true, meas := 0, stages := [], svn := 0 }) ∧
      (s.dev.sec.fallback = true → t.dev.hst.failed = true ∧ t.dev.sec = s.dev.sec) ∧
      t.dev.hst = { s.dev.hst with failed := s.dev.sec.fallback } ∧ SameRegs s.dev t.dev countRegs ∧ SameBytes s t))

/-- In stage 3, MEMORY_TRAINED adds the stacks that trained, and stage 4 begins when all 12 have. In stage 4, a self-test without mismatch
and without failed link passes: the result is 0, stage 7 begins, and a solitary chip is aligned. A mismatch raises 0xB011, and a pair with
both routes failed, or more than 16 failed links, raises 0xB013; the result is then 2 and the stage stays 4 with FAILED set. Fewer failed
links pass with result 1 and 0xB012. While FAILED is clear, a stage timeout sets FAILED in stages 2, 3, 4 and 7. In stage 3 it raises
0xB010; in stage 4 it raises 0xB011 (the model's choice for a self-test that does not end, log entry 59); in stages 2 and 7 it raises
nothing. The stage stays. The self-test's record holds the step, the counts, the digest (without a mismatch the one that every device
produces; log entry 198) and the first 16 failed links; a pass of the activated image's first boot raises the minimum security version
number to its own. In any other stage, or with FAILED set, each does nothing. Before stage 7 a configuration request is answered with
Configuration Request Retry Status and changes nothing else; from stage 7 on it completes normally, and START.STAGE then reads at least 8
(the model's reading of Table 12.7). (R538, R539, R540, spec/12_host_and_startup.md, spec/13_power_security_management.md) -/
def Obligations.StartUpStagesEnd : Prop :=
  (∀ (s : State) (mask : BitVec 12) (vectors mismatch : BitVec 16) (failed : List (BitVec 8 × BitVec 8)) (both : Bool) (digest : BitVec 64),
    ((s.dev.hst.stage ≠ 3 ∨ s.dev.hst.failed = true) → exec (.memoryTrained mask) s = .next s) ∧
    ((s.dev.hst.stage ≠ 4 ∨ s.dev.hst.failed = true) → exec (.selfTest vectors mismatch failed both digest) s = .next s) ∧
    ((s.dev.hst.failed = true ∨ s.dev.hst.stage ∉ [2, 3, 4, 7]) → exec .startupStageTimeout s = .next s)) ∧
  ((∀ (mask : BitVec 12) (s : State), s.dev.hst.stage = 3 → s.dev.hst.failed = false →
    exec (.memoryTrained mask) s = .next { s with dev := { s.dev with hst := { s.dev.hst with
      trained := s.dev.hst.trained ||| mask.toNat, stage := if s.dev.hst.trained ||| mask.toNat = 4095 then 4 else 3 } } }) ∧
  ∀ (vectors mismatch : BitVec 16) (failed : List (BitVec 8 × BitVec 8)) (both : Bool) (digest : BitVec 64) (s : State),
    s.dev.hst.stage = 4 → s.dev.hst.failed = false → Room s.dev 2 →
    ∃ t, exec (.selfTest vectors mismatch failed both digest) s = .next t ∧
      t.dev.hst.selfTest = { result := t.dev.hst.selfTest.result, step := s.dev.regFld .ctlIdent 16 8, vectors := vectors.toNat, mismatch := mismatch.toNat
                             digest8 := if mismatch = 0 then Config.selfTestDigest.toNat else digest.toNat
                             links := (failed.map (fun x => (x.1.toNat, x.2.toNat))).take 16 } ∧
      SameRegs s.dev t.dev countRegs ∧
      (t.dev.hst.stage = 7 → (∀ v, s.dev.sec.raiseSvn = some v → s.dev.sec.fallback = false → t.dev.sec.minSvn = max s.dev.sec.minSvn v) ∧
        ((s.dev.sec.raiseSvn = none ∨ s.dev.sec.fallback = true) → t.dev.sec.minSvn = s.dev.sec.minSvn)) ∧
      (mismatch = 0 → both = false → failed = [] → t.dev.hst.selfTest.result = 0 ∧ t.dev.hst.stage = 7 ∧ t.dev.hst.failed = false ∧
        t.dev.frm.aligned = (s.dev.lnk.solitary || s.dev.frm.aligned) ∧ t.dev.flt = s.dev.flt) ∧
      (mismatch = 0 → both = false → failed ≠ [] → failed.length ≤ 16 → t.dev.hst.selfTest.result = 1 ∧ t.dev.hst.stage = 7 ∧
        Waits t.dev 0xB012 24 0) ∧
      (mismatch ≠ 0 → Waits t.dev 0xB011 24 0) ∧ (both = true ∨ 16 < failed.length → Waits t.dev 0xB013 24 0) ∧
      (mismatch ≠ 0 ∨ both = true ∨ 16 < failed.length →
        t.dev.hst.selfTest.result = 2 ∧ t.dev.hst.stage = 4 ∧ t.dev.hst.failed = true) ∧ SameBytes s t) ∧
  (∀ s : State, s.dev.hst.failed = false → s.dev.hst.stage ∈ [2, 3, 4, 7] → Room s.dev 1 →
    ∃ t, exec .startupStageTimeout s = .next t ∧ t.dev.hst = { s.dev.hst with failed := true } ∧
      (s.dev.hst.stage = 3 → Waits t.dev 0xB010 24 0) ∧ (s.dev.hst.stage = 4 → Waits t.dev 0xB011 24 0) ∧
      (s.dev.hst.stage = 2 ∨ s.dev.hst.stage = 7 → t.dev.flt = s.dev.flt) ∧ SameRegs s.dev t.dev countRegs ∧ SameBytes s t) ∧
  ∀ s : State,
    (s.dev.hst.stage < 7 → exec .configRequest s = .next { s with dev := { s.dev with out := .retry :: s.dev.out } }) ∧
    (7 ≤ s.dev.hst.stage → ∃ t, exec .configRequest s = .next t ∧ t.dev.out = .configDone :: s.dev.out ∧ 8 ≤ t.dev.hst.stage ∧
      t.dev = { s.dev with hst := t.dev.hst, out := t.dev.out } ∧ t.dev.hst.rings = s.dev.hst.rings ∧ SameBytes s t)

/-- While the rails are on, an undervoltage, an overvoltage, a current limit or a thermal trip turns them off: device memory reads blank at
every address, the registers are at their reset values, the stage is 0 and the cause is latched for the next power-good; the journal,
the owner keys and host memory are kept, and everything else of the device is as at first power. PWRGD falls. A thermal trip also
sets the trip latch, which holds THERMTRIP# low and which an undervoltage clears, and without the rails they do only that. (R545, R600,
R602) -/
def Obligations.InputFaultsTurnTheRailsOff : Prop :=
  (∀ s : State, s.dev.pwr.rails = false → exec .inputOvervoltage s = .next s ∧ exec .inputCurrentLimit s = .next s ∧
    exec .inputUndervoltage s = .next { s with dev := { s.dev with hst := { s.dev.hst with thermTrip := false } } } ∧
    exec .thermalTrip s = .next { s with dev := { s.dev with hst := { s.dev.hst with thermTrip := true } } }) ∧
  ∀ (s : State) (c : Instr × Nat), s.dev.pwr.rails = true →
    c ∈ [(Instr.inputUndervoltage, 0x9001), (.inputOvervoltage, 0x9002), (.inputCurrentLimit, 0x9013), (.thermalTrip, 0x9022)] →
    ∃ t, exec c.1 s = .next t ∧ t.dev.pwr.rails = false ∧ t.dev.hst.stage = 0 ∧ t.dev.hst.latchedCause = some c.2 ∧
      t.dev.regs = [] ∧ (∀ a, t.byte a = Memory.blank) ∧ t.dev.sec.journal = s.dev.sec.journal ∧ t.dev.sec.keys = s.dev.sec.keys ∧
      (c.1 = .thermalTrip → t.dev.pins.thermTripLow = true) ∧ (c.1 = .inputUndervoltage → t.dev.pins.thermTripLow = false) ∧
      t.dev.pins.pwrgd = false ∧
      t.dev = { ({} : Dev) with hst := t.dev.hst, sec := t.dev.sec, out := t.dev.out, free := s.dev.free } ∧
      t.dev.hst = { ({} : Hst) with latchedCause := some c.2, thermTrip := t.dev.hst.thermTrip, seated := s.dev.hst.seated } ∧
      t.dev.sec.seals = s.dev.sec.seals ∧ t.dev.sec.acked = s.dev.sec.acked ∧ t.dev.sec.minSvn = s.dev.sec.minSvn ∧
      t.dev.sec.activeBank = s.dev.sec.activeBank ∧ t.pending = s.pending ∧ t.host = s.host

/-- A sustained power excess raises 0x9011 unless one was raised less than a second ago, and then does nothing. A peak power excess raises
0x9012 unless one has been raised in the step in progress, and then does nothing. DROOP begins an episode when none lasts and adds 1 to
PWR.DROOP.TOTAL, saturating; during an episode it changes nothing. DROOP_END ends the episode and adds its stretched cycles to the stretch
debt of the frame; without an episode it changes nothing. Nothing else changes. (R546, R549, R550) -/
def Obligations.PowerExcessIsReportedOnce : Prop :=
  (∀ s : State, Room s.dev 1 →
    (∀ ns, s.dev.pwr.since9011 = some ns → ns < 10 ^ 9 → exec .sustainedPowerExcess s = .next s) ∧
    ((∀ ns, s.dev.pwr.since9011 = some ns → 10 ^ 9 ≤ ns) → ∃ t, exec .sustainedPowerExcess s = .next t ∧ Waits t.dev 0x9011 24 0 ∧
      t.dev.pwr = { s.dev.pwr with since9011 := some 0 } ∧ FaultPartsOf { s.dev with pwr := t.dev.pwr } t.dev ∧ SameRegs s.dev t.dev countRegs ∧ SameBytes s t) ∧
    (s.dev.seq.inStep = true → s.dev.pwr.raised9012 = true → exec .peakPowerExcess s = .next s) ∧
    (¬(s.dev.seq.inStep = true ∧ s.dev.pwr.raised9012 = true) → ∃ t, exec .peakPowerExcess s = .next t ∧ Waits t.dev 0x9012 24 0 ∧
      t.dev.pwr = { s.dev.pwr with raised9012 := s.dev.seq.inStep } ∧ FaultPartsOf { s.dev with pwr := t.dev.pwr } t.dev ∧ SameRegs s.dev t.dev countRegs ∧ SameBytes s t)) ∧
  ∀ (s : State) (n : Nat),
    (s.dev.pwr.droop = false → s.dev.reg .pwrDroop < 2 ^ 32 → ∃ t, exec .droop s = .next t ∧
      t.dev.pwr = { s.dev.pwr with droop := true, thisFrame := s.dev.pwr.thisFrame + 1 } ∧
      t.dev.regFld .pwrDroop 16 16 = min 65535 (s.dev.regFld .pwrDroop 16 16 + 1) ∧
      t.dev = { s.dev with pwr := t.dev.pwr, regs := t.dev.regs } ∧ SameRegs s.dev t.dev [Reg.pwrDroop.card.addr] ∧ SameBytes s t) ∧
    (s.dev.pwr.droop = true → exec .droop s = .next s) ∧
    (s.dev.pwr.droop = false → exec (.droopEnd n) s = .next s) ∧
    (s.dev.pwr.droop = true → exec (.droopEnd n) s = .next { s with dev := { s.dev with
      pwr := { s.dev.pwr with droop := false }, frm := { s.dev.frm with debt := s.dev.frm.debt + n } } })

/-- An inlet above 40 °C with its status bit clear raises 0x9023, sets the bit and shows the inlet in PWR.THERM. From the 37 sensors'
temperatures, a thermal margin (the least of the limits, 105 °C on a logic die and 95 °C on a stack logic die, minus the temperatures, but no
less than -128) below 5 °C raises 0x9020 and sets its bit; a margin at or below 0 °C raises 0x9021; PWR.THERM shows the margin and the
hottest sensor with its temperature. An inlet below 39 °C and a margin of 6 °C or more clear their bits. Otherwise, a status bit that is set,
an inlet of 40 °C or less, a margin at its limit or above or a recovery short of its bound leaves only the readings in PWR.THERM. Only
PWR.STATUS and PWR.THERM change beside what a raising changes. (R551) -/
def Obligations.ThermalActions : Prop :=
  ∀ (x : BitVec 8) (temps : List (BitVec 8)) (s : State), temps.length = 37 → Room s.dev 1 → s.dev.reg .pwrStatus < 2 ^ 32 → s.dev.reg .pwrTherm < 2 ^ 32 →
    let mine := countRegs ++ [Reg.pwrStatus.card.addr, Reg.pwrTherm.card.addr]
    let m := thermalMargin temps
    let h := hottestSensor temps
    let reads := fun (t : State) => t.dev.regFld .pwrTherm 16 8 = wrap 8 m ∧ t.dev.regFld .pwrTherm 8 8 = h.1 ∧ t.dev.regFld .pwrTherm 0 8 = h.2
    let limit := fun (i : Nat) => (if i < 25 then 105 else 95) - ((temps.getD i 0).toNat : Int)
    let only := fun (t : State) => t.dev = { s.dev with regs := t.dev.regs } ∧ SameRegs s.dev t.dev [Reg.pwrTherm.card.addr] ∧ SameBytes s t
    let inlet := fun (c : Instr) => ∃ t, exec c s = .next t ∧ t.dev.regFld .pwrTherm 24 8 = x.toNat ∧ only t
    let margin := fun (c : Instr) => ∃ t, exec c s = .next t ∧ reads t ∧ only t
    ((∀ i < 37, m ≤ max (-128) (limit i)) ∧ ∃ i < 37, m = max (-128) (limit i)) ∧
    ((∀ i < 37, (temps.getD i 0).toNat ≤ h.2) ∧ h.1 < 37 ∧ (temps.getD h.1 0).toNat = h.2) ∧
    ((x.toNat ≤ 40 ∨ s.dev.regFld .pwrStatus 5 1 = 1) → inlet (.inletHigh x)) ∧
    ((5 ≤ m ∨ s.dev.regFld .pwrStatus 4 1 = 1) → margin (.thermalMarginLow temps)) ∧
    (0 < m → margin (.thermalMarginExhausted temps)) ∧
    (39 ≤ x.toNat → inlet (.inletRecovered x)) ∧
    (m < 6 → margin (.thermalMarginRecovered temps)) ∧
    (40 < x.toNat → s.dev.regFld .pwrStatus 5 1 = 0 → ∃ t, exec (.inletHigh x) s = .next t ∧ Waits t.dev 0x9023 24 0 ∧
      t.dev.regFld .pwrStatus 5 1 = 1 ∧ t.dev.regFld .pwrTherm 24 8 = x.toNat ∧ FaultPartsOf s.dev t.dev ∧ SameRegs s.dev t.dev mine ∧
      SameBytes s t) ∧
    (m < 5 → s.dev.regFld .pwrStatus 4 1 = 0 → ∃ t, exec (.thermalMarginLow temps) s = .next t ∧ Waits t.dev 0x9020 24 0 ∧
      t.dev.regFld .pwrStatus 4 1 = 1 ∧ reads t ∧ FaultPartsOf s.dev t.dev ∧ SameRegs s.dev t.dev mine ∧ SameBytes s t) ∧
    (m ≤ 0 → ∃ t, exec (.thermalMarginExhausted temps) s = .next t ∧ Waits t.dev 0x9021 24 0 ∧ reads t ∧ FaultPartsOf s.dev t.dev ∧
      SameRegs s.dev t.dev mine ∧ SameBytes s t) ∧
    (x.toNat < 39 → ∃ t, exec (.inletRecovered x) s = .next t ∧ t.dev.regFld .pwrStatus 5 1 = 0 ∧ t.dev.regFld .pwrTherm 24 8 = x.toNat ∧
      t.dev = { s.dev with regs := t.dev.regs } ∧ SameRegs s.dev t.dev mine ∧ SameBytes s t) ∧
    (6 ≤ m → ∃ t, exec (.thermalMarginRecovered temps) s = .next t ∧ t.dev.regFld .pwrStatus 4 1 = 0 ∧ reads t ∧
      t.dev = { s.dev with regs := t.dev.regs } ∧ SameRegs s.dev t.dev mine ∧ SameBytes s t)

/-- Written by the host or the management port, FREE adds the partner entry that LNK.PT_SEL selects to the entries that the next tick
frees, and YIELD asks for the next tick's rejoin; nothing else changes. While a run command is active, YIELD is refused with notice 0x7021
of the one foreign link, or of port 0 where there is none, at most once per link and frame; nothing else of the link block changes. COMMIT
and ERASE of SEC.KEY_CTL name the slot that SEC.KEY_SEL selects and wait for the tick, as a KEY_WRITE message does, which is accepted; a
word written into the SEC.KEY_DATA window stands there at once. Applying a waiting command writes or erases exactly its slot, with the
window's key where it brings none, and enters one entry of KIND 7. It refuses with 0xA011 a key that does not begin with 0x0A, or a USE of
0, and leaves every slot as it is. (R428, R433, R557, R572, R568) -/
def Obligations.LinkAndKeyCommandsWaitForTheTick : Prop :=
  (∀ (s : State) (src : Master), (src = .host ∨ src = .management) → JournalRoom s.dev 0 →
    exec (.partnerFree src) s = .next { s with dev := { s.dev with lnk := { s.dev.lnk with free := s.dev.lnk.free ++ [s.dev.regFld .lnkPtSel 0 8] } } } ∧
    (s.dev.seq.run = none → exec (.yield src) s = .next { s with dev := { s.dev with lnk := { s.dev.lnk with yield := true } } }) ∧
    (s.dev.seq.run ≠ none → Room s.dev 1 → ∃ t, exec (.yield src) s = .next t ∧ t.dev.lnk = { s.dev.lnk with raised := t.dev.lnk.raised } ∧
      (s.dev.lnk.links.filter Link.foreign = [] → (0x7021, 0) ∉ s.dev.lnk.raised → Waits t.dev 0x7021 20 0) ∧
      (s.dev.lnk.links.filter Link.foreign = [] → (0x7021, 0) ∈ s.dev.lnk.raised → t = s) ∧
      (∀ l, s.dev.lnk.links.filter Link.foreign = [l] → (0x7021, l.key) ∉ s.dev.lnk.raised →
        Waits t.dev 0x7021 (20 + l.port / 3) (16 * l.port + l.lanes.headD 0 % 8)) ∧
      (∀ l, s.dev.lnk.links.filter Link.foreign = [l] → (0x7021, l.key) ∈ s.dev.lnk.raised → t = s) ∧
      FaultPartsOf { s.dev with lnk := t.dev.lnk } t.dev ∧ SameBytes s t)) ∧
  (∀ s : State, JournalRoom s.dev 1 →
    (∀ (src : Master) (use : BitVec 2), (src = .host ∨ src = .management) →
      exec (.keyCommit src use) s = .next { s with dev := { s.dev with sec := { s.dev.sec with keyOps := s.dev.sec.keyOps ++
        [{ src := src, slot := s.dev.regFld .secKeySel 0 3, erase := false, use := use.toNat, key := none }] } } } ∧
      exec (.keyErase src) s = .next { s with dev := { s.dev with sec := { s.dev.sec with keyOps := s.dev.sec.keyOps ++
        [{ src := src, slot := s.dev.regFld .secKeySel 0 3, erase := true, use := 0, key := none }] } } }) ∧
    (∀ (src : Master) (off : BitVec 12) (v : BitVec 32), (src = .host ∨ src = .management) →
      exec (.keyDataWrite src off v) s = .next { s with dev := { s.dev with sec := { s.dev.sec with
        window := tput s.dev.sec.window (off.toNat % 2048 / 4) v.toNat } } }) ∧
    (∀ (slot : Fin 8) (use : BitVec 2) (key : List Byte) (erase : Bool), 3 ≤ s.dev.hst.stage →
      exec (.keyWrite slot use key erase) s = .next { s with dev := { s.dev with out := .accepted true :: s.dev.out, sec := { s.dev.sec with keyOps := s.dev.sec.keyOps ++
        [{ src := .management, slot := slot.val, erase := erase, use := use.toNat, key := some key }] } } }) ∧
    ∀ o : KeyOp, Room s.dev 1 →
      let key := o.key.getD s.dev.sec.windowKey
      let e := s.dev.applyKey o
      let entered := e = { s.dev with sec := e.sec, free := e.free } ∧ Entered s.dev e 7 (masterNum o.src) ∧ e.sec.window = s.dev.sec.window ∧
        e.sec.acked = s.dev.sec.acked
      (o.erase = true → e.sec.keys = tdel s.dev.sec.keys o.slot ∧ entered) ∧
      (o.erase = false → key.headD 0 = 0x0A → o.use ≠ 0 → e.sec.keys = tput s.dev.sec.keys o.slot (o.use, key) ∧ entered) ∧
      (o.erase = false → (key.headD 0 ≠ 0x0A ∨ o.use = 0) →
        e.sec = s.dev.sec ∧ Waits e 0xA011 24 o.slot ∧ FaultPartsOf s.dev e ∧ SameRegs s.dev e countRegs))

/-- A request for a seal, by SEC.JRN_CTL or by message, adds SEQ and CHAIN of the newest entry with the identity key's signature over them
(free bytes; log entry 3) to the seals while a slot is free, and the message is answered with those bytes; without one, or with an empty
journal, it adds none, and the message is answered as refused (log entry 176). An acknowledgement of an entry that has been written and not
been exported frees the entries up to it with their seals and enters an entry of KIND 10; one of the number that was acknowledged last
changes nothing, and one outside that range is ignored with notice 0xA024. A write of SEC.JRN_ACK by the host or the management port waits
for the tick. (R565, R566) -/
def Obligations.SealsAndAcknowledgements : Prop :=
  ∀ s : State, JournalRoom s.dev 1 →
    (s.dev.sec.journal = [] → (∀ src : Master, exec (.jrnCtlSeal src) s = .next s) ∧
      (3 ≤ s.dev.hst.stage → exec .jrnSeal s = .next { s with dev := { s.dev with out := .accepted false :: s.dev.out } })) ∧
    (∀ (src : Master) (e : JEntry) (rest : List JEntry), (src = .host ∨ src = .management) → s.dev.sec.journal = e :: rest →
      let b := leBytes 8 e.seq ++ leBytes 32 e.chain
      let d := { s.dev with sec := { s.dev.sec with seals := { seq := e.seq, chain := e.chain, sig := signBytes s.dev.free b } :: s.dev.sec.seals }
                            free := s.dev.free + 1 }
      (s.dev.sec.seals.length < 512 → exec (.jrnCtlSeal src) s = .next { s with dev := d } ∧
        (3 ≤ s.dev.hst.stage → exec .jrnSeal s = .next { s with dev := { d with out := .bytes (b ++ signBytes s.dev.free b) :: s.dev.out } })) ∧
      (512 ≤ s.dev.sec.seals.length → exec (.jrnCtlSeal src) s = .next s ∧
        (3 ≤ s.dev.hst.stage → exec .jrnSeal s = .next { s with dev := { s.dev with out := .accepted false :: s.dev.out } }))) ∧
    (∀ seq : BitVec 64, 3 ≤ s.dev.hst.stage →
      (s.dev.sec.acked ≤ seq.toNat → seq.toNat < s.dev.sec.nextSeq → ∃ t e, exec (.jrnAck seq) s = .next t ∧
        t.dev.sec.acked = seq.toNat + 1 ∧ t.dev.sec.journal = (e :: s.dev.sec.journal).take 65536 ∧ e.kind = 10 ∧ e.source = 0 ∧
        e.new = seq.toNat ∧ (∀ x ∈ t.dev.sec.seals, x ∈ s.dev.sec.seals ∧ seq.toNat < x.seq ∨ x.seq = e.seq) ∧
        t.dev.out = .accepted true :: s.dev.out ∧ t.dev = { s.dev with sec := t.dev.sec, out := t.dev.out, free := t.dev.free } ∧
        t.dev.sec.keys = s.dev.sec.keys ∧ SameBytes s t) ∧
      (seq.toNat + 1 = s.dev.sec.acked → s.dev.sec.acked ≤ s.dev.sec.nextSeq →
        exec (.jrnAck seq) s = .next { s with dev := { s.dev with out := .accepted true :: s.dev.out } }) ∧
      ((seq.toNat + 1 < s.dev.sec.acked ∨ s.dev.sec.nextSeq ≤ seq.toNat) → Room s.dev 1 → ∃ t, exec (.jrnAck seq) s = .next t ∧
        Waits t.dev 0xA024 24 0 ∧ t.dev.sec = s.dev.sec ∧ t.dev.out.head? = some (.accepted false) ∧ FaultPartsOf s.dev t.dev ∧
        SameRegs s.dev t.dev countRegs ∧ SameBytes s t)) ∧
    ∀ (src : Master) (seq : BitVec 64), (src = .host ∨ src = .management) → exec (.jrnAckWrite src seq) s = .next { s with dev := { s.dev with
      lowWords := tdel (tput s.dev.lowWords Reg.secJrnAckLo.card.addr (seq.toNat % 2 ^ 32)) Reg.secJrnAckLo.card.addr
      staged := s.dev.staged ++ [({ src := src, addr := Reg.secJrnAckHi.card.addr, value := seq.toNat, sel := 0, pos := s.dev.arrived } : StagedWrite)] } }

/-- Under the pin policy ARM empties the buffer and arms it, unless recording is paused; under another it leaves the trace as it is.
TRIGGER in the armed state leaves a trigger of code 0 taken at the current frame and cycle, unless one has been taken; in any other state
it leaves the trace as it is. Each write is journalled. DUMP sets DUMPREF in a state that forbids it, BADALLOC where TRC_ALLOC names no
allocation of R587, and otherwise (said here where no block is frozen) writes the buffer, oldest record first, into the allocation from
record 0 and no other byte, and sets TRC_HEAD to the records written, in whole granules of two. A drain with its allocation writes the two
oldest records not yet drained at the place of the number drained since the drain began, and no other byte, counts them, and sets TRC_HEAD
to that count. (R586, R587, R588, R591) -/
def Obligations.TraceCommandsFollowTheState : Prop :=
  ∀ s : State, JournalRoom s.dev 1 →
    let stored := fun (x : Nat × Nat) (l : List (Nat × Nat)) (t : State) =>
      let place := fun (n : Nat) => s.dev.translate (s.dev.alloc x.1) (n % max 1 x.2 * 32)
      (∀ e ∈ l, (∀ f ∈ l, f ≠ e → place f.1 + 32 ≤ place e.1 ∨ place e.1 + 32 ≤ place f.1) →
        StoredBytes s.dev x.1 (e.1 % max 1 x.2 * 32) (leBytes 32 e.2) t) ∧
      ∀ p, (∀ e ∈ l, OutsideBytes s.dev x.1 (e.1 % max 1 x.2 * 32) 32 p) → t.byte p = s.byte p
    (∀ src : Master, (src = .host ∨ src = .management) →
      let noted := fun (t : State) => t.dev = { s.dev with obs := t.dev.obs, sec := t.dev.sec, free := t.dev.free } ∧ Entered s.dev t.dev 1 (masterNum src) ∧
        SameBytes s t
      (s.dev.modeTrc = 2 → ∃ t, exec (.trcArm src) s = .next t ∧ t.dev.obs.buffer = [] ∧ t.dev.obs.lost = 0 ∧
        t.dev.obs.state = (if s.dev.obs.state = .paused then .paused else .armed) ∧ noted t) ∧
      (s.dev.modeTrc ≠ 2 → ∃ t, exec (.trcArm src) s = .next t ∧ t.dev.obs = s.dev.obs ∧ noted t) ∧
      (let now := 2 ^ 20 * (s.dev.frm.frame % 2 ^ 48) + s.dev.frm.cycle % 2 ^ 20
       s.dev.obs.state = .armed → ∃ t, exec (.trcTrigger src) s = .next t ∧
        t.dev.obs = { s.dev.obs with trigger := some (s.dev.obs.trigger.getD (0, now)) } ∧ noted t) ∧
      (s.dev.obs.state ≠ .armed → ∃ t, exec (.trcTrigger src) s = .next t ∧ t.dev.obs = s.dev.obs ∧ noted t) ∧
      (s.dev.obs.state ∉ [.off, .full, .paused] → s.dev.reg .obsTrcStatus < 2 ^ 32 →
        ∃ t, exec (.trcDump src) s = .next t ∧ t.dev.regFld .obsTrcStatus 11 1 = 1 ∧ t.dev.obs = s.dev.obs ∧ SameBytes s t) ∧
      (s.dev.traceAlloc = none → s.dev.reg .obsTrcStatus < 2 ^ 32 →
        ∃ t, exec (.trcDump src) s = .next t ∧ t.dev.regFld .obsTrcStatus 10 1 = 1 ∧ t.dev.obs = s.dev.obs ∧ SameBytes s t) ∧
      (s.dev.obs.state ∈ [.off, .full, .paused] → s.dev.traceAlloc ≠ none → s.dev.prt.frozen = [] →
        ∃ t, exec (.trcDump src) s = .next t ∧ t.dev.obs = { s.dev.obs with head := (s.dev.obs.buffer.length + 1) / 2 * 2 } ∧ t.host = s.host ∧
          ∀ x, s.dev.traceAlloc = some x →
            stored x ((List.range ((s.dev.obs.buffer.length + 1) / 2 * 2)).map (fun i => (i, s.dev.obs.buffer.reverse.getD i 0))) t)) ∧
    (s.dev.modeTrc = 3 → s.dev.traceAlloc ≠ none → 0 < s.dev.obs.undrained → s.dev.obs.buffer ≠ [] →
      ∃ t, exec .traceDrain s = .next t ∧ t.dev.obs.drained = s.dev.obs.drained + 2 ∧ t.dev.obs.head = s.dev.obs.drained + 2 ∧
        t.dev.obs.undrained = min s.dev.obs.undrained s.dev.obs.buffer.length - 2 ∧ t.host = s.host ∧
        (s.dev.prt.frozen = [] → ∀ x, s.dev.traceAlloc = some x →
          let old := (s.dev.obs.buffer.take (min s.dev.obs.undrained s.dev.obs.buffer.length)).reverse
          stored x [(s.dev.obs.drained, old.getD 0 0), (s.dev.obs.drained + 1, old.getD 1 0)] t)) ∧
    ((s.dev.modeTrc ≠ 3 ∨ s.dev.traceAlloc = none ∨ s.dev.obs.undrained = 0) → exec .traceDrain s = .next s)

/-- Before stage 2 nothing answers and no management message changes the state. In stage 2 the recovery service answers ATTEST and REG_READ
of HST.START; every message of the controller has an MCTP error completion and no other effect. From stage 3 on REG_READ of any offset
delivers the value that a host read would, REG_WRITE of a read-write register that is not immediate is accepted and waits for the tick with
source management, a sensor reads as Table 13.8 says (as its value, or as refused where the table names none), JRN_READ of one held entry
answers its 128 bytes, and ATTEST answers a report with the nonce. (R603, R568, R569, R562) -/
def Obligations.ManagementPortByStage : Prop :=
  ∀ s : State,
    (s.dev.hst.stage < 2 → ∀ (a : BitVec 24) (v : BitVec 32) (x : BitVec 64) (n : Nat) (slot : Fin 8) (use : BitVec 2) (k : List Byte) (e : Bool)
      (nonce : BitVec 256), ∀ c ∈ [Instr.regRead a, .regWrite a v, .attest nonce, .jrnRead x n, .jrnAck x, .jrnSeal, .keyWrite slot use k e,
        .pldmSensorRead n, .requestUpdate, .activateFirmware], exec c s = .next s) ∧
    (s.dev.hst.stage = 2 →
      (∀ (a : BitVec 24), a.toNat = Reg.hstStart.card.addr →
        exec (.regRead a) s = .next { s with dev := { s.dev with out := .value (s.view .hstStart 0) :: s.dev.out } }) ∧
      (∀ (a : BitVec 24) (v : BitVec 32) (x : BitVec 64) (n : Nat) (slot : Fin 8) (use : BitVec 2) (k : List Byte) (e : Bool),
        a.toNat ≠ Reg.hstStart.card.addr → ∀ c ∈ [Instr.regRead a, .regWrite a v, .jrnRead x n, .jrnAck x, .jrnSeal, .keyWrite slot use k e, .pldmSensorRead n],
          exec c s = .next { s with dev := { s.dev with out := .mctpError :: s.dev.out } })) ∧
    (2 ≤ s.dev.hst.stage → ∀ nonce : BitVec 256, ∃ t b, exec (.attest nonce) s = .next t ∧ t.dev.out = .bytes b :: s.dev.out ∧
      b.take 4 = leBytes 4 0x54545441 ∧ (b.drop 8).take 32 = leBytes 32 nonce.toNat ∧
      t.dev = { s.dev with out := t.dev.out, free := s.dev.free + 1 } ∧ SameBytes s t) ∧
    (3 ≤ s.dev.hst.stage →
      (∀ (a : BitVec 24) (c : RegDef) (i : Nat), regAt a.toNat = some (c, i) → tget s.dev.latched a.toNat = none → c.reg.isLow = false →
        exec (.regRead a) s = .next { s with dev := { s.dev with out := .value (s.view c.reg i) :: s.dev.out } }) ∧
      (∀ (a : BitVec 24) (v : BitVec 32) (c : RegDef) (i : Nat), JournalRoom s.dev 1 → regAt a.toNat = some (c, i) → (c.reg.chipOnly = true → i = 0) →
        c.wo = 0 → c.w1c = 0 → c.rw ≠ 0 → c.imm = 0 → c.reg.isLowRw = false → c.reg.isHighRw = false →
        exec (.regWrite a v) s = .next { s with dev := { s.dev with
          out := .accepted true :: s.dev.out
          staged := s.dev.staged ++ [({ src := .management, addr := a.toNat, value := v.toNat, sel := s.dev.selected c.reg
                                        pos := s.dev.arrived } : StagedWrite)] } }) ∧
      (∀ a : BitVec 24, ∃ t, exec (.regRead a) s = .next t ∧ t.dev.out.head? = some (.value (s.busRead .host a.toNat).1) ∧ SameBytes s t) ∧
      (∀ c ∈ [(1, s.dev.regFld .pwrInput 0 16), (2, s.dev.regFld .pwrMean 0 16), (3, s.dev.regFld .pwrTherm 0 8), (4, s.dev.regFld .pwrTherm 16 8),
          (5, s.dev.regFld .pwrTherm 24 8), (6, s.dev.prt.score), (7, sumNat s.dev.pwr.recent), (8, s.dev.sec.unexported)],
        exec (.pldmSensorRead c.1) s = .next { s with dev := { s.dev with out := .value c.2 :: s.dev.out } }) ∧
      (∀ i, (i = 0 ∨ 8 < i) → exec (.pldmSensorRead i) s = .next { s with dev := { s.dev with out := .accepted false :: s.dev.out } }) ∧
      ∀ (first : BitVec 64) (e : JEntry), s.dev.sec.journal.filter (fun (x : JEntry) => decide (first.toNat ≤ x.seq ∧ x.seq < first.toNat + 1)) = [e] →
        ∃ b, exec (.jrnRead first 1) s = .next { s with dev := { s.dev with out := .bytes b :: s.dev.out } } ∧ b.take 128 = e.bytes)

/-- With the controller or the recovery service answering, RequestUpdate is answered busy while a run is active, the escrow is not idle or
protection is busy, and then changes nothing else; otherwise a farewell leaves on every link that is up and not foreign, a session opens
and it is accepted. The start's journal entry holds the digest of the image to come, a free value (log entry 200); the result's and the
activation's hold the image's SHAKE256 digest. In a session an image that verifies with a version not below the minimum is kept and one
that does not is rejected with 0xA003; either ends the session (the model's choice). Activation without a verified image is refused; with
one, the inactive bank is the next to boot, and a reset order of management waits for the next tick. Each of these events but a busy answer
or a refusal enters one entry of KIND 8. (R561, R559, R560) -/
def Obligations.FirmwareUpdateSession : Prop :=
  ∀ s : State, 2 ≤ s.dev.hst.stage → JournalRoom s.dev 1 →
    (s.dev.updateBusy = true → exec .requestUpdate s = .next { s with dev := { s.dev with out := .pldmBusy :: s.dev.out } }) ∧
    (s.dev.updateBusy = false → ∃ t, exec .requestUpdate s = .next t ∧ t.dev.sec.updating = true ∧ t.dev.sec.image = none ∧
      t.dev.out.head? = some (.accepted true) ∧ t.dev.out.length = s.dev.out.length + (s.dev.lnk.links.filter (fun l => l.up && !l.foreign)).length + 1 ∧
      Entered s.dev t.dev 8 0 ∧ t.dev.flt = s.dev.flt ∧ t.dev.regs = s.dev.regs ∧ SameBytes s t) ∧
    (∀ (image : List Byte) (svn : BitVec 16) (ok : Bool),
      let holds := fun (t : State) => t.dev.sec.journal.head?.map JEntry.new = some (shake256 image % 2 ^ 256)
      (s.dev.sec.updating = false → exec (.firmwareImageVerified image svn ok) s = .next s) ∧
      (s.dev.sec.updating = true → ok = true → s.dev.sec.minSvn ≤ svn.toNat → ∃ t, exec (.firmwareImageVerified image svn ok) s = .next t ∧
        t.dev.sec.image = some (shake256 image, svn.toNat) ∧ t.dev.sec.updating = false ∧ t.dev = { s.dev with sec := t.dev.sec, free := t.dev.free } ∧
        Entered s.dev t.dev 8 0 ∧ holds t ∧ SameBytes s t) ∧
      (s.dev.sec.updating = true → (ok = false ∨ svn.toNat < s.dev.sec.minSvn) → Room s.dev 1 →
        ∃ t, exec (.firmwareImageVerified image svn ok) s = .next t ∧ t.dev.sec.image = s.dev.sec.image ∧ t.dev.sec.updating = false ∧
          Waits t.dev 0xA003 24 0 ∧ Entered s.dev t.dev 8 0 ∧ holds t ∧
          FaultPartsOf { s.dev with sec := t.dev.sec, free := t.dev.free } t.dev ∧ SameRegs s.dev t.dev countRegs ∧ SameBytes s t)) ∧
    (s.dev.sec.image = none → exec .activateFirmware s = .next { s with dev := { s.dev with out := .accepted false :: s.dev.out } }) ∧
    (∀ x, s.dev.sec.image = some x → ∃ t, exec .activateFirmware s = .next t ∧ t.dev.sec.activeBank = 1 - s.dev.sec.bootBank ∧ t.dev.sec.image = none ∧
      t.dev.flt.orders = s.dev.flt.orders ++
        [{ src := .management, bits := 0x20, key := 0xA5, at_ := 0, arrival := s.dev.frm.frame, pos := s.dev.arrived }] ∧
      t.dev.out = .accepted true :: s.dev.out ∧ Entered s.dev t.dev 8 0 ∧ t.dev.sec.journal.head?.map JEntry.new = some (x.1 % 2 ^ 256) ∧
      t.dev = { s.dev with sec := t.dev.sec, flt := { s.dev.flt with orders := t.dev.flt.orders }, out := t.dev.out, free := t.dev.free } ∧
      SameBytes s t)

/-- A write of FLT.ORDER by the host or the management port, whichever order it names, joins the orders of the next tick with bits 5:0,
KEY, the frame parameter of FLT.AT and its frame of arrival, and changes nothing else; a write that claims another source does nothing. An
order of the host or the management port whose key is not 0xA5 is refused at its tick with notice 0x1062 and a journal entry of outcome 3,
and no stop or resume comes of it. The head entry of a due ring, when it is a stop command, passes. Malformed, it is refused with notice
0xB002 and completes refused; with a key other than 0xA5, or without STOP, it is refused with 0x1062 and completes refused. Well formed
with key 0xA5, STOP alone and AT 0, on a running chip that no other stop waits for, it takes effect at this frame: the chip no longer runs,
the stop tick is the frame, and the command completes; with NOW a halt begins at cycle 0 instead; with FABRIC the stop waits for the tick
17 frames on; and with a later AT it waits for that tick. A ring that is not due, or an entry of another command, leaves the state as it
is. (R501, R502, R503, R506, R534, R507, R530) -/
def Obligations.OrdersWaitForTheTick : Prop :=
  ((∀ (s : State) (src : Master) (v : BitVec 32),
    ∀ c ∈ [Instr.orderStopAtTick src v, .orderHaltNow src v, .orderFabricStop src v, .orderResume src v, .orderReset src v],
      ((src = .host ∨ src = .management) → exec c s = .next { s with dev := { s.dev with flt := { s.dev.flt with orders := s.dev.flt.orders ++
        [{ src := src, bits := v.toNat % 64, key := v.toNat / 2 ^ 24, at_ := s.dev.pair .fltAtLo .fltAtHi, arrival := s.dev.frm.frame
           pos := s.dev.arrived }] } } }) ∧
      ((src = .peer ∨ src = .device) → exec c s = .next s)) ∧
  ∀ (d : Dev) (o : Order) (stopping : Bool), (o.src = .host ∨ o.src = .management) → o.cmd = none → o.key ≠ 0xA5 → JournalRoom d 1 → Room d 1 →
    let x := d.applyOrder stopping o
    Waits x 0x1062 24 0 ∧ FaultPartsOf { d with sec := x.sec, free := x.free } x ∧
    ∃ e, x.sec.journal = (e :: d.sec.journal).take 65536 ∧ e.kind = 2 ∧ e.source = masterNum o.src ∧ e.new % 2 ^ 16 = 3) ∧
  (∀ (s : State) (ring : Fin 64) (entry : BitVec 1024),
    let e : Entry := entry
    (((s.dev.ring ring.val).due = false ∨ e.opcode ≠ 7) → exec (.stopCommand ring entry) s = .next s) ∧
    ((s.dev.ring ring.val).due = true → e.opcode = 7 → JournalRoom s.dev 3 → Room s.dev 2 → s.dev.flt.stop = .running → s.dev.flt.halting = none →
      s.dev.flt.chipStop = false → s.dev.flt.pending = none → s.dev.flt.boundary = none → s.dev.flt.fabric = none → s.dev.flt.resume = none →
      ∃ t, exec (.stopCommand ring entry) s = .next t ∧  HeadPassed s t ring.val ∧
        (e.wellFormed = false → Waits t.dev 0xB002 37 ring.val ∧ t.dev.flt.stop = .running ∧
          ∃ x ∈ t.dev.hst.done, x.cmd.ring = ring.val ∧ x.cmd.index = (s.dev.ring ring.val).head ∧ x.status = 2) ∧
        (e.wellFormed = true → (e.key ≠ 0xA5 ∨ e.order ∈ [0, 16, 32]) → Waits t.dev 0x1062 24 0 ∧ t.dev.flt.stop = .running ∧ t.dev.flt.orders = s.dev.flt.orders ∧
          ∃ x ∈ t.dev.hst.done, x.cmd.ring = ring.val ∧ x.cmd.index = (s.dev.ring ring.val).head ∧ x.status = 2) ∧
        (e.wellFormed = true → e.key = 0xA5 → e.order = 1 → e.stopAt = 0 →
          t.dev.flt.stop ≠ .running ∧ t.dev.flt.stopTick = s.dev.frm.frame ∧
          ∃ x ∈ t.dev.hst.done, x.cmd.ring = ring.val ∧ x.cmd.index = (s.dev.ring ring.val).head ∧ x.status = 1) ∧
        (e.wellFormed = true → e.key = 0xA5 → e.order = 3 → e.stopAt = 0 →
          t.dev.flt.halting = some (0, 1, 0) ∧ t.dev.flt.stopTick = s.dev.frm.frame ∧
          ∃ x ∈ t.dev.hst.done, x.cmd.ring = ring.val ∧ x.cmd.index = (s.dev.ring ring.val).head ∧ x.status = 1) ∧
        (e.wellFormed = true → e.key = 0xA5 → e.order ∈ [9, 11] → e.stopAt = 0 → t.dev.flt.stop = .running ∧
          (∃ m, t.dev.flt.fabric = some m ∧ m.t = frameAfter s.dev.frm.frame 17 ∧ m.now = e.order.testBit 1 ∧
            m.origin = Config.fingerprint.toNat) ∧
          ∃ x ∈ t.dev.hst.done, x.cmd.ring = ring.val ∧ x.cmd.index = (s.dev.ring ring.val).head ∧ x.status = 1) ∧
        (e.wellFormed = true → e.key = 0xA5 → e.order ∈ [1, 3, 5, 7] → e.stopAt ≠ 0 → frameBefore s.dev.frm.frame e.stopAt = true →
          t.dev.flt.stop = .running ∧
          (∃ p, (if e.order.testBit 2 then t.dev.flt.boundary else t.dev.flt.pending) = some p ∧ p.t = e.stopAt ∧ p.now = e.order.testBit 1 ∧
            p.boundary = e.order.testBit 2) ∧
          ∃ x ∈ t.dev.hst.done, x.cmd.ring = ring.val ∧ x.cmd.index = (s.dev.ring ring.val).head ∧ x.status = 1)))

/-- At a tick, STOP_COMPLETE ends a stop in progress, none being halted, from the tick before stop tick + D_max on and when no mirror
streams: FLT.STATUS.STOP then reads stopped, or chip-stopped after a chip-stop, under the drain policy too (said there where no block is
frozen); before that, within a frame, or with a mirror streaming, it does nothing. HALTED ends a halt in progress, reads halted or
chip-stopped, and fills in the halt record's offsets; without one it does nothing. Both leave memory, a HALTED all but the fault block and
the trace, as they are. CONTROL_DIE_UE raises 0x1065 for a parity failure and 0x1066 for an uncorrectable error and takes its chip-stop at
once; on a running chip without a charter it begins a halt. Each CXL reset event raises notice 0xB006 and joins a reset order of source
host to the orders of the next tick; the chip runs on until then. (R509, R514, R515, R516, R500, R525) -/
def Obligations.StopsHaltsAndResets : Prop :=
  ((∀ s : State,
    let past := tickDue (frameAfter s.dev.flt.stopTick s.dev.dMax) (frameAfter s.dev.frm.frame 1)
    (s.dev.flt.stop = .stopping → s.dev.flt.halting = none → past = true →
      s.dev.prt.mirrorState ≠ .streaming → s.dev.frm.cycle = 0 → s.dev.modeTrc ≠ 3 →
      exec .stopComplete s = .next { s with dev := { s.dev with flt := { s.dev.flt with
        stop := if s.dev.flt.chipStop then .chipStopped else .stopped } } }) ∧
    (s.dev.flt.stop = .stopping → s.dev.flt.halting = none → past = true → s.dev.prt.mirrorState ≠ .streaming → s.dev.frm.cycle = 0 → s.dev.modeTrc = 3 →
      s.dev.prt.frozen = [] → ∃ t, exec .stopComplete s = .next t ∧ t.host = s.host ∧ t.pending = s.pending ∧
        t.dev.flt = { s.dev.flt with stop := if s.dev.flt.chipStop then .chipStopped else .stopped }) ∧
    ((s.dev.flt.stop ≠ .stopping ∨ s.dev.flt.halting ≠ none ∨ past = false ∨ s.dev.frm.cycle ≠ 0 ∨
      s.dev.prt.mirrorState = .streaming) → exec .stopComplete s = .next s)) ∧
  ∀ (s : State) (offsets : List (Fin 49)),
    (s.dev.flt.halting ≠ none → ∃ t, exec (.halted offsets) s = .next t ∧ t.dev.flt.halting = none ∧
      t.dev.flt.stop = (if s.dev.flt.chipStop then .chipStopped else .halted) ∧
      (∀ r, s.dev.flt.haltRecord = some r → r.units.length = 37 → offsets.length = 37 →
        ∃ q, t.dev.flt.haltRecord = some q ∧ q.units.map Prod.fst = offsets.map Fin.val ∧ q.units.map Prod.snd = r.units.map Prod.snd) ∧
      t.dev = { s.dev with flt := t.dev.flt, obs := t.dev.obs } ∧ SameBytes s t) ∧
    (s.dev.flt.halting = none → exec (.halted offsets) s = .next s)) ∧
  (∀ s : State, Room s.dev 2 →
    (∀ parity : Bool, ∃ t, exec (.controlDieUE parity) s = .next t ∧ t.dev.flt.chipStop = true ∧
      Waits t.dev (if parity then 0x1065 else 0x1066) 24 0 ∧
      (s.dev.flt.stop = .running → s.dev.flt.chipStop = false → s.dev.cht.active = none → t.dev.flt.halting ≠ none)) ∧
    ∀ kind : CxlReset, ∃ t, exec (.cxlResetEvent kind) s = .next t ∧ Waits t.dev 0xB006 37 0 ∧ t.dev.flt.stop = s.dev.flt.stop ∧
      t.dev.flt.orders = s.dev.flt.orders ++
        [{ src := .host, bits := 0x20, key := 0xA5, at_ := 0, arrival := s.dev.frm.frame, pos := s.dev.arrived }] ∧
      FaultPartsOf s.dev { t.dev with flt := { t.dev.flt with orders := s.dev.flt.orders } } ∧ SameRegs s.dev t.dev countRegs ∧ SameBytes s t)

/-- With nothing being handled and no overflow record, FAULT_HANDLE takes the waiting record of the highest severity and, among equals, of
the lowest SEQ, removes it from the queue and writes it to the log. A step-abort record in an active run leaves the step to be cancelled at
the next tick; a notice or a degrade record cancels nothing; a chip-stop record leaves the chip with its chip-stop taken. With nothing
waiting it does nothing. A record that a more severe one had interrupted is finished first, and before it the reserved record of an
overflow, which takes its chip-stop; each is logged. Taking, carrying out and logging a record are one step of the model (log entry 61).
(R45, R495, R497, R499) -/
def Obligations.TheMostSevereRecordIsHandledFirst : Prop :=
  (∀ (s : State) (r : FaultRec), s.dev.flt.log.length < 256 →
    (s.dev.flt.reserved = some r → r.sev = .chipStop → ∃ t, exec .faultHandle s = .next t ∧ t.dev.flt.chipStop = true ∧ r ∈ t.dev.flt.log) ∧
    (s.dev.flt.reserved = none → s.dev.flt.handling = some r → r.sev ≠ .chipStop → ∃ t, exec .faultHandle s = .next t ∧
      t.dev.flt.handling = none ∧ t.dev.flt.queue = s.dev.flt.queue ∧ r ∈ t.dev.flt.log ∧ t.dev.flt.stop = s.dev.flt.stop ∧
      t.dev.regs = s.dev.regs ∧ SameBytes s t)) ∧
  ∀ s : State, s.dev.flt.reserved = none → s.dev.flt.handling = none →
    (s.dev.flt.queue = [] → exec .faultHandle s = .next s) ∧
    ∀ r ∈ s.dev.flt.queue, (∀ x ∈ s.dev.flt.queue, x ≠ r → x.sev.val < r.sev.val ∨ (x.sev = r.sev ∧ r.seq < x.seq)) →
      ∃ t, exec .faultHandle s = .next t ∧
        (r.sev = .chipStop → t.dev.flt.chipStop = true) ∧
        (r.sev ≠ .chipStop → t.dev.flt.queue = s.dev.flt.queue.erase r ∧ t.dev.flt.handling = none ∧ t.dev.flt.stop = s.dev.flt.stop ∧
          (s.dev.flt.log.length < 256 → r ∈ t.dev.flt.log) ∧
          (r.sev = .stepAbort → s.dev.seq.run ≠ none → s.dev.flt.cancel = none → t.dev.flt.cancel = some r) ∧
          (r.sev ≠ .stepAbort → t.dev.flt.cancel = s.dev.flt.cancel) ∧ t.dev.regs = s.dev.regs ∧ SameBytes s t)

/-- Raising a fault, whatever its severity and place, keeps the records that wait and the one being handled together at most 32. A fault
that finds a waiting record of its code, UNIT and WHERE adds none and that record waits on with REPEAT raised; with room a new one
waits with its severity, or as a downgraded notice where it is a step-abort outside a run; a full queue loses the fault and gets the
reserved 0x1060 record with OVERFLOW set and REPEAT 1, or raises the REPEAT of the one that stands. (R45, R494, R496, R498) -/
def Obligations.RaisingAFaultKeepsTheQueueBounded : Prop :=
  ∀ (d : Dev) (sev : Severity) (code unit wher detail : Nat),
    (QueueBounded d → QueueBounded (d.raiseAs sev code unit wher detail)) ∧
    (∀ q ∈ d.flt.queue, q.code = code → q.unit = unit → q.wher = wher →
      { q with rep := min 65535 (q.rep + 1) } ∈ (d.raiseAs sev code unit wher detail).flt.queue ∧
      (d.raiseAs sev code unit wher detail).flt.queue.length ≤ d.flt.queue.length + b2n d.flt.handling.isSome) ∧
    (¬ Waits d code unit wher → Room d 1 → ∃ r ∈ (d.raiseAs sev code unit wher detail).flt.queue,
      r.code = code ∧ r.unit = unit ∧ r.wher = wher ∧ r.seq = d.flt.nextSeq ∧ r.frame = d.frm.frame ∧ r.rep = 0 ∧
      (sev = .stepAbort ∧ d.seq.run = none → r.sev = .notice ∧ r.downgraded = true) ∧
      (¬(sev = .stepAbort ∧ d.seq.run = none) → r.sev = sev ∧ r.downgraded = false)) ∧
    (¬ Waits d code unit wher → d.flt.queue.length + b2n d.flt.handling.isSome = 32 → d.flt.reserved = none →
      ∃ r, (d.raiseAs sev code unit wher detail).flt.reserved = some r ∧ r.code = 0x1060 ∧ r.sev = .chipStop ∧ r.rep = 1 ∧ r.overflow = true ∧
        (d.raiseAs sev code unit wher detail).flt.overflow = true) ∧
    (¬ Waits d code unit wher → d.flt.queue.length + b2n d.flt.handling.isSome = 32 → ∀ q, d.flt.reserved = some q →
      (d.raiseAs sev code unit wher detail).flt.reserved = some { q with rep := min 65535 (q.rep + 1) } ∧
        (d.raiseAs sev code unit wher detail).flt.nextSeq = d.flt.nextSeq)

/-- DOORBELL leaves in host memory what the host wrote there before it. On an enabled ring with a tail in range it sets the tail of that
ring and of no other, and nothing else; on a disabled ring, or out of range, no ring changes and notice 0xB004 of the host interface
names the ring. (R528, R86) -/
def Obligations.DoorbellMovesTheTail : Prop :=
  ∀ (s : State) (ring : Fin 64) (tail : BitVec 32) (writes : List (Nat × Byte)), s.dev.hst.rings.length = 64 →
    let ok := (s.dev.ring ring.val).live = true ∧ tail.toNat % 4096 < 2 ^ (s.dev.ring ring.val).n
    ∃ t, exec (.doorbell ring tail writes) s = .next t ∧
      t.host = writes.foldl (fun (m : Memory) (w : Nat × Byte) => m.set w.1 w.2) s.host ∧ t.mem = s.mem ∧ t.pending = s.pending ∧
      (ok → t.dev = { s.dev with hst := { s.dev.hst with rings := t.dev.hst.rings } } ∧
        t.dev.ring ring.val = { s.dev.ring ring.val with tail := tail.toNat % 4096 } ∧ ∀ j, j ≠ ring.val → t.dev.ring j = s.dev.ring j) ∧
      (¬ ok → Room s.dev 1 → t.dev.hst = s.dev.hst ∧ Waits t.dev 0xB004 37 ring.val ∧ FaultPartsOf s.dev t.dev ∧
        SameRegs s.dev t.dev countRegs)

/-- For each of the 14 rows of a ring's commands: while its ring is not due, or the entry is another row's, nothing happens. A malformed
entry passes, raises notice 0xB002, is journalled as refused and completes with status refused. A well-formed entry that must wait stays at
the head and nothing but the note of waiting runs changes. A run, a load or a copy on a chip that is stopping, stopped, halted or
chip-stopped passes with notice 0x1064 and completes refused; so does any that a check of its own refuses, with that check's fault. (R30,
R518, R529, R530, R537) -/
def Obligations.HeadEntriesAreExamined : Prop :=
  ∀ (s : State) (ring : Fin 64) (entry : BitVec 1024), ∀ c ∈ ringRows ring entry,
    let e : Entry := entry
    (((s.dev.ring ring.val).due = false ∨ c.2 = false) → exec c.1 s = .next s) ∧
    ((s.dev.ring ring.val).due = true → c.2 = true → JournalRoom s.dev 1 → Room s.dev 1 →
      (e.wellFormed = false → ∃ t, exec c.1 s = .next t ∧ Waits t.dev 0xB002 37 ring.val ∧ HeadPassed s t ring.val ∧
        Finished s t ring.val 2 ∧ Entered s.dev t.dev 3 1 ∧ SameRegs s.dev t.dev countRegs ∧ SameBytes s t) ∧
      (e.wellFormed = true → s.dev.waits e = true → ∃ t, exec c.1 s = .next t ∧
        t.dev = { s.dev with hst := { s.dev.hst with runWaiting := t.dev.hst.runWaiting } } ∧ SameBytes s t) ∧
      (e.wellFormed = true → s.dev.waits e = false → e.opcode ≤ 3 → s.dev.flt.stop ≠ .running →
        ∃ t, exec c.1 s = .next t ∧ Waits t.dev 0x1064 37 ring.val ∧ HeadPassed s t ring.val ∧ Finished s t ring.val 2 ∧
          Entered s.dev t.dev 3 1 ∧ SameRegs s.dev t.dev (Reg.frmAdm.card.addr :: countRegs) ∧ SameBytes s t) ∧
      (∀ code create, s.examine e = .refuse code create → ∃ t, exec c.1 s = .next t ∧ HeadPassed s t ring.val ∧ Finished s t ring.val 2 ∧
        Waits t.dev code (if create = none then 37 else (s.refusedPlace entry code create).1)
          (if create = none then ring.val else (s.refusedPlace entry code create).2) ∧ Entered s.dev t.dev 3 1 ∧
        t.mem = s.mem ∧ t.host = s.host ∧ t.pending = s.pending))

/-- A RUN that passes every check passes the head, is journalled as admitted and becomes the active run, with its program base, step count,
loop counts and first frame: the one after the admitting frame. A LOAD_CHARTER with enough frames and an effect tick in range, on a
chip with no run and no load, is held by the loader with its image address and length; E of 0 asks for the admitting tick plus the
minimum frames minus 1. The charter in force does not change. (R31, R47, R109, R110) -/
def Obligations.AdmittedRunsAndLoadsBegin : Prop :=
  ∀ (s : State) (ring : Fin 64) (entry : BitVec 1024), (s.dev.ring ring.val).due = true → JournalRoom s.dev 1 → s.dev.obs.counting = false →
    let e : Entry := entry
    (e.opcode = 1 → ∀ a, s.examine e = .admitted a → ∃ t r, exec (.run ring entry) s = .next t ∧ HeadPassed s t ring.val ∧
      Entered s.dev t.dev 3 1 ∧ t.dev.seq.run = some r ∧ r.base = e.base ∧ r.n = e.steps ∧ r.loops = e.loops ∧ r.s = a.scan.frames ∧
      r.first = frameAfter s.dev.frm.frame 1 ∧ r.cmd.index = (s.dev.ring ring.val).head ∧ t.dev.seq.inStep = false ∧ t.dev.cht = s.dev.cht ∧
      t.dev.flt = s.dev.flt ∧ SameBytes s t) ∧
    (e.opcode = 2 → e.wellFormed = true → s.dev.seq.run = none → s.dev.cht.loader = none → s.dev.flt.stop = .running → s.dev.flt.halting = none →
      s.dev.loadFrames e.length ≤ e.frames →
      (e.effect = 0 ∨ (tickDue (frameAfter s.dev.frm.frame (s.dev.loadFrames e.length - 1)) e.effect = true ∧
        frameBefore e.effect (frameAfter s.dev.frm.frame e.frames) = true)) →
      ∃ t l, exec (.loadCharter ring entry) s = .next t ∧ HeadPassed s t ring.val ∧ Entered s.dev t.dev 3 1 ∧
        t.dev.cht = { s.dev.cht with loader := some l } ∧ l.addr = e.addr ∧ l.length = e.length ∧ l.staged = none ∧
        l.effect = (if e.effect = 0 then frameAfter s.dev.frm.frame (s.dev.loadFrames e.length - 1) else e.effect) ∧
        t.dev.flt = s.dev.flt ∧ SameBytes s t)

/-- A copy that passes every check passes the head, takes its place in the host copy engine up to its committed end, and waits there for
its completion. With host memory failing, a copy to or from the device moves nothing and fails with notice 0xB003. A copy to the device
changes no byte outside its layout's elements, and one granule that its allocation permits and no other engine contests stands there
afterwards. A copy to the host leaves device memory as it is and changes host memory only in its granules, and one granule that its
allocation permits stands there afterwards. A copy into the bundle store, where its allocation may be read, puts the allocation's bytes at
INDEX and leaves every other byte as it is where no signature is asked for; with a signature that does not verify it moves nothing, raises
0xA010 and fails (said where memory is plain). (R531, R532, R536, R33) -/
def Obligations.AdmittedCopiesMoveTheirData : Prop :=
  ∀ (s : State) (ring : Fin 64) (entry : BitVec 1024) (a : Admit) (ok : Bool), (s.dev.ring ring.val).due = true → JournalRoom s.dev 1 → Room s.dev 1 →
    let e : Entry := entry
    e.opcode = 3 → s.examine e = .admitted a → PlainMemory s →
    (∀ c ∈ [(0, Instr.copyHostToDevice ring entry ok), (1, .copyDeviceToHost ring entry ok), (2, .copyToBundleStore ring entry ok)], e.dir = c.1 →
      ∃ t x, exec c.2 s = .next t ∧ HeadPassed s t ring.val ∧ (t.dev.engine 36).committed = a.stop ∧
        (t.dev.engine 36).jobs.length = (s.dev.engine 36).jobs.length + 1 ∧ t.dev.hst.copies = s.dev.hst.copies ++ [x] ∧
        x.cmd.ring = ring.val ∧ x.cmd.index = (s.dev.ring ring.val).head) ∧
    (ok = false → ∀ c ∈ [(0, Instr.copyHostToDevice ring entry ok), (1, .copyDeviceToHost ring entry ok)], e.dir = c.1 →
      ∃ t x, exec c.2 s = .next t ∧ Waits t.dev 0xB003 37 ring.val ∧ t.dev.hst.copies = s.dev.hst.copies ++ [x] ∧ x.status = 7 ∧ SameBytes s t) ∧
    (let l := a.layout
     let al := s.dev.alloc l.alloc
     let o := l.bitPos (l.elem (l.tuple 0)) / 8
     (e.dir = 0 → ∃ t x, exec (.copyHostToDevice ring entry true) s = .next t ∧ t.host = s.host ∧ t.dev.hst.copies = s.dev.hst.copies ++ [x] ∧
       ((al.purpose ≠ 1 ∨ al.loc ≤ 1) → ∀ p, OutsideElems s.dev l p → t.byte p = s.byte p) ∧
       (al.purpose ≠ 1 → l.count = 1 → s.dev.accessKind 6 l.alloc o 64 true = none →
         s.dev.contested 36 (s.dev.hostRanges e l) = [] → x.status = 1 ∧ StoredBytes s.dev l.alloc o (s.host.read e.hostAddr 64) t)) ∧
     (e.dir = 1 → ∃ t x, exec (.copyDeviceToHost ring entry true) s = .next t ∧ (∀ p, t.byte p = s.byte p) ∧
       t.dev.hst.copies = s.dev.hst.copies ++ [x] ∧
       (∀ p, p < e.hostAddr ∨ e.hostAddr + 64 * l.count ≤ p → t.host.get p = s.host.get p) ∧
       (l.count = 1 → s.dev.accessKind 6 l.alloc o 64 false = none →
         x.status = 1 ∧ t.host.read e.hostAddr 64 = s.peekBytes l.alloc o 64))) ∧
    (e.dir = 2 → (s.dev.reg .secPolicy).testBit 0 = true → ok = false →
      (∀ b ∈ [(64 * e.copyOffset, 64 * e.copyCount), (64 * e.copyOffset + 64 * e.copyCount, sigBytes)],
        s.dev.accessKind 7 e.copyAlloc b.1 b.2 false = none) →
      ∃ t x, exec (.copyToBundleStore ring entry ok) s = .next t ∧ SameBytes s t ∧ Waits t.dev 0xA010 24 0 ∧
        t.dev.hst.copies = s.dev.hst.copies ++ [x] ∧ x.status = 7) ∧
    (e.dir = 2 → (s.dev.reg .secPolicy).testBit 0 = false →
      s.dev.accessKind 7 e.copyAlloc (64 * e.copyOffset) (64 * e.copyCount) false = none →
      ∃ t, exec (.copyToBundleStore ring entry ok) s = .next t ∧ t.host = s.host ∧
        (∀ i < 64 * e.copyCount, t.byte (0x40000000000 + 64 * e.copyIndex + i) =
          (s.peekBytes e.copyAlloc (64 * e.copyOffset) (64 * e.copyCount)).getD i 0) ∧
        ∀ p, p < 0x40000000000 + 64 * e.copyIndex ∨ 0x40000000000 + 64 * e.copyIndex + 64 * e.copyCount ≤ p → t.byte p = s.byte p)

/-- Well formed, due and with its frames, and where the control die may read the tracker table and the directory and neither holds poison
or an error, READ_TALLIES completes: it writes the tally record of each index, 304 bytes each, from its address and the last step record in
the 64 bytes after them, changes no other byte of host memory and none of the device. With host memory failing it fails with 0xB003. (R533,
R536) -/
def Obligations.TalliesAreDelivered : Prop :=
  ∀ (s : State) (ring : Fin 64) (entry : BitVec 1024),
    let e : Entry := entry
    (s.dev.ring ring.val).due = true → e.wellFormed = true → e.opcode = 4 → 1 ≤ e.frames → JournalRoom s.dev 1 → s.dev.obs.counting = false →
    (s.host.wf = true → s.dev.stk.poison = [] → s.dev.stk.upsets = [] →
      (∀ o n, (s.dev.alloc s.dev.tallyTable).valid = true → o + n ≤ (s.dev.alloc s.dev.tallyTable).size →
        s.dev.accessKind 7 s.dev.tallyTable o n false = none) →
      (∀ p, s.lastStepPlace = some p → s.dev.accessKind 7 p.1 p.2 64 false = none) →
      ∃ t, exec (.readTallies ring entry true) s = .next t ∧ HeadPassed s t ring.val ∧ Finished s t ring.val 1 ∧ t.mem = s.mem ∧
        t.host.read e.addr (304 * e.tallyCount) = (List.range e.tallyCount).flatMap (fun i => s.tallyRecord (e.first + i)) ∧
        t.host.read (e.addr + 304 * e.tallyCount) 64 = s.lastStepRecord ∧
        ∀ p, p < e.addr ∨ e.addr + 304 * e.tallyCount + 64 ≤ p → t.host.get p = s.host.get p) ∧
    (Room s.dev 1 → ∃ t, exec (.readTallies ring entry false) s = .next t ∧ HeadPassed s t ring.val ∧ Finished s t ring.val 7 ∧
      Waits t.dev 0xB003 37 ring.val ∧ SameBytes s t)

/-- Well formed, due and with its frames, a DECIDE on the step that the escrow is held for completes: RELEASE sets RELEASED in the step's
record and settles where the barrier is met, or stays held; SKIP commits the step as skipped and leaves the escrow idle. A DECIDE on any
other step completes refused with 0x501A and leaves the ledger and the bytes as they are. (R356) -/
def Obligations.HeldStepsAreDecided : Prop :=
  ∀ (s : State) (ring : Fin 64) (entry : BitVec 1024),
    let e : Entry := entry
    (s.dev.ring ring.val).due = true → e.wellFormed = true → e.opcode = 5 → 1 ≤ e.frames → JournalRoom s.dev 1 →
    (s.dev.heldFor e.step = true →
      (e.decision = 1 → ∃ t, exec (.release ring entry) s = .next t ∧ HeadPassed s t ring.val ∧ Finished s t ring.val 1 ∧
        (∀ r, s.dev.ldg.record = some r → t.dev.ldg.record = some { r with released := true }) ∧
        (t.dev.ldg.state = .held ∨ (t.dev.ldg.state = .settling ∧ t.dev.ldg.outside = true)) ∧ SameBytes s t) ∧
      (e.decision = 2 → ∃ t, exec (.skip ring entry) s = .next t ∧ t.dev.ldg.state = .idle ∧ t.dev.ldg.record = s.dev.ldg.record ∧ t.host = s.host ∧
        ∃ x ∈ t.dev.hst.done, x.cmd.ring = ring.val ∧ x.cmd.index = (s.dev.ring ring.val).head ∧ x.status = 1)) ∧
    (s.dev.heldFor e.step = false → Room s.dev 1 → ∀ c ∈ [(1, Instr.release ring entry), (2, .skip ring entry)], e.decision = c.1 →
      ∃ t, exec c.2 s = .next t ∧ HeadPassed s t ring.val ∧ Finished s t ring.val 2 ∧ Waits t.dev 0x501A 24 0 ∧ t.dev.ldg = s.dev.ldg ∧
        SameBytes s t)

/-- Well formed, due and with its two frames, a securing request of each kind is admitted and waits for the next tick. There it completes
refused with 0x8020 where Table 10.9 says so, and changes nothing else of the protection block. Else it acts: SNAPSHOT arms its step, MIRROR
freezes the mirrors, REFILL enters the rollback state and asks a source for its lost chip and group (or has failed where none can be asked),
RESTORE enters it for its lost chip's generation, RECONCILE keeps its program and settle list for the first step, and CANCEL leaves nothing
armed, no snapshot in progress and no refill. It completes as armed (SNAPSHOT) or as started. (R486) -/
def Obligations.SecuringRequestsActAtTheTick : Prop :=
  (∀ (s : State) (ring : Fin 64) (entry : BitVec 1024),
    let e : Entry := entry
    (s.dev.ring ring.val).due = true → e.wellFormed = true → e.opcode = 6 → 2 ≤ e.frames → JournalRoom s.dev 1 →
    ∀ c ∈ [(1, Instr.snapshotRequest ring entry), (2, .mirrorRequest ring entry), (3, .refill ring entry), (4, .restore ring entry),
      (5, .reconcile ring entry), (6, .cancel ring entry)], e.kind = c.1 →
      ∃ t x, exec c.2 s = .next t ∧ HeadPassed s t ring.val ∧ Entered s.dev t.dev 3 1 ∧
        t.dev.prt = { s.dev.prt with requests := s.dev.prt.requests ++ [(x, entry)] } ∧
        x.ring = ring.val ∧ x.index = (s.dev.ring ring.val).head ∧ x.admitted = s.dev.frm.frame ∧ SameBytes s t) ∧
  ∀ (s : State) (x : CmdRef) (e : Entry), s.dev.prt.requests = [(x, e)] → Room s.dev 1 →
    let s0 : State := { s with dev := { s.dev with prt := { s.dev.prt with requests := [] } } }
    let t := s.secureTick
    (s0.secureRefused e = true → Waits t.dev 0x8020 24 e.kind ∧ t.dev.prt = s0.dev.prt ∧ SameBytes s t ∧
      ∃ y, t.dev.hst.done = s.dev.hst.done ++ [y] ∧ y.cmd = x ∧ y.status = 2) ∧
    (s0.secureRefused e = false →
      (∃ y ∈ t.dev.hst.done, y.cmd = x ∧ y.status = (if e.kind = 1 then 9 else 8)) ∧
      (e.kind = 1 → t.dev.prt = { s0.dev.prt with armed := some e.secStep }) ∧
      (e.kind = 2 → t.dev.prt = s0.mirrorFreeze.dev.prt) ∧
      (e.kind = 3 → t.dev.prt.ready = false ∧ t.dev.prt.passed = false ∧
        ((t.dev.prt.refill = none ∧ t.dev.prt.refillState = 4) ∨
          ∃ r, t.dev.prt.refill = some r ∧ r.restore = false ∧ r.fp = e.fp ∧ r.group = e.pgroup ∧ r.source ≠ none)) ∧
      (e.kind = 4 → t.dev.prt.ready = false ∧ t.dev.prt.passed = false ∧
        ((t.dev.prt.refill = none ∧ t.dev.prt.refillState = 4) ∨ ∃ r, t.dev.prt.refill = some r ∧ r.restore = true ∧ r.fp = e.fp)) ∧
      (e.kind = 5 → t.dev.prt = { s0.dev.prt with reconcile := some (e.secBase, e.slist) }) ∧
      (e.kind = 6 → t.dev.prt.armed = none ∧ t.dev.prt.snap = none ∧ t.dev.refilling = false))

/-- CHARTER_IMAGE_READ without a load that waits for its image does nothing. An image that passes every check is staged in the loader and
nothing else changes. One that fails raises the check's fault and completes rejected; the charter in force stays, no load is left, and
CHT.ERR_WHERE names the place. A read that host memory does not deliver completes failed with notice 0xB003. (R107, R108, R111, R536) -/
def Obligations.CharterImagesAreJudged : Prop :=
  ∀ (s : State) (sigOk : Bool), JournalRoom s.dev 1 → Room s.dev 1 →
    ((s.dev.cht.loader = none ∨ ∃ l, s.dev.cht.loader = some l ∧ l.staged ≠ none) → ∀ ok : Bool, exec (.charterImageRead ok sigOk) s = .next s) ∧
    ∀ l, s.dev.cht.loader = some l → l.staged = none →
      (∀ c, s.dev.validate (s.host.read l.addr l.length) l.length sigOk = .ok c →
        exec (.charterImageRead true sigOk) s = .next { s with dev := { s.dev with cht := { s.dev.cht with loader := some { l with staged := some c } } } }) ∧
      (∀ f, s.dev.validate (s.host.read l.addr l.length) l.length sigOk = .error f → ∃ t x, exec (.charterImageRead true sigOk) s = .next t ∧
        t.dev.cht = { s.dev.cht with loader := none } ∧ Waits t.dev f.1 24 f.2.1 ∧ t.dev.hst.done = s.dev.hst.done ++ [x] ∧ x.cmd = l.cmd ∧
        x.status = 4 ∧ t.dev.reg .chtErrWhere = (2 ^ 24 * f.2.1 + f.2.2 % 2 ^ 16) % 2 ^ 32 ∧ SameBytes s t) ∧
      (∃ t x, exec (.charterImageRead false sigOk) s = .next t ∧ t.dev.cht = { s.dev.cht with loader := none } ∧
        Waits t.dev 0xB003 37 l.cmd.ring ∧ t.dev.hst.done = s.dev.hst.done ++ [x] ∧ x.cmd = l.cmd ∧ x.status = 7 ∧ SameBytes s t)

/-- COMMAND_COMPLETION with nothing finished does nothing. Else it writes the 64 bytes of the record of the command that finished first
into slot INDEX of its completion area, changes no other byte of host memory, opens the entry for the next lap and raises the ring's vector
when IRQ is set; without a counter record it changes no byte of device memory. Where the write fails, nothing is written and the command
counts as failed with 0xB003, a step-abort for a RUN while a run is active and a notice otherwise (its next attempt is the model's reading,
log entry 41). (R529, R535, R536) -/
def Obligations.CompletionRecordsAreWritten : Prop :=
  ∀ s : State, (∀ ok : Bool, s.dev.hst.done = [] → exec (.commandCompletion ok) s = .next s) ∧
    ∀ (x : Completion) (rest : List Completion), s.dev.hst.done = x :: rest →
      (s.host.wf = true → ∃ t, exec (.commandCompletion true) s = .next t ∧
        t.host.read (x.cmd.comp + 64 * x.cmd.index) 64 = x.bytes s.dev.frm.frame ∧
        (∀ p, p < x.cmd.comp + 64 * x.cmd.index ∨ x.cmd.comp + 64 * x.cmd.index + 64 ≤ p → t.host.get p = s.host.get p) ∧
        t.dev.hst.done = rest ∧ x.cmd.index ∉ (t.dev.ring x.cmd.ring).open_ ∧
        (x.cmd.irq = true → t.dev.out.head? = some (.msix (s.dev.ring x.cmd.ring).vector)) ∧
        (x.cmd.record = none → t.mem = s.mem ∧
          t.dev.out = (if x.cmd.irq then .msix (s.dev.ring x.cmd.ring).vector :: s.dev.out else s.dev.out))) ∧
      (Room s.dev 1 → ∃ t y, exec (.commandCompletion false) s = .next t ∧ Waits t.dev 0xB003 37 x.cmd.ring ∧
        t.dev.hst.done = y :: rest ∧ y.cmd = x.cmd ∧ y.status = 7 ∧ SameBytes s t ∧
        (¬ Waits s.dev 0xB003 37 x.cmd.ring → ∃ r ∈ t.dev.flt.queue, r.code = 0xB003 ∧
          r.sev = (if x.cmd.opcode = 1 ∧ s.dev.seq.run ≠ none then .stepAbort else .notice)))

/-- While nothing can issue, or the next bundle is of another kind, RUN_BUNDLE, LOOP_OPEN and LOOP_CLOSE do nothing. A bundle that passes
its checks and whose slots are all admitted lets the slots act in ascending order on the state after every admission, and the sequencer goes
on. Where its slots are CONTINUE only, nothing but the sequencer, the cycle and observation changes, and each unit named in a slot is noted
as acting for the span (a backward group that is asleep issues none; R290): RUN goes to the next index, span cycles later; LOOP_OPEN loads
its counter with the run's bound and opens its loop innermost; LOOP_CLOSE counts down, and then either goes back to the index after its
LOOP_OPEN with that loop innermost, or closes the loop and goes on. (R49, R50, R54, R55) -/
def Obligations.BundlesIssueAndLoopsTurn : Prop :=
  ∀ s : State, ∀ c ∈ [(0, Instr.runBundle), (1, .loopOpen), (2, .loopClose)],
    let d := s.dev
    let q := d.seq
    let b := s.bundle q.index
    let s0 : State := { s with dev := d.advanceTo q.cycle }
    let loops := (q.run.map RunCmd.loops).getD []
    ((d.canIssue = false ∨ (b.kind ≠ c.1 ∧ b.kind < 5)) → exec c.2 s = .next s) ∧
    (d.canIssue = true → b.kind = c.1 → d.headerFault b (q.index - d.programBase) = none → q.cycle + b.span ≤ d.plannable →
      q.loopFault b = false → q.counters.length = 16 →
      (∀ r, s0.admitSlots b.span q.cycle b.slots = .ok r →
        let v := ({ r.2 with dev := r.2.dev.noteBundle b b.span } : State).actSlots b.span q.cycle r.1
        exec c.2 s = .next { v with dev := { v.dev with seq := v.dev.seq.advance b loops } }) ∧
      ((∀ x ∈ b.slots, x.op = 1 ∧ (x.target < 0x40 → (d.group x.target).kind = 1 ∨
          ((d.group x.target).kind = 2 ∧ d.bwdAsleep q.cycle = false))) →
        ∃ t, exec c.2 s = .next t ∧ SameBytes s t ∧
          t.dev = { d with seq := t.dev.seq, frm := { d.frm with cycle := max d.frm.cycle q.cycle }, obs := t.dev.obs } ∧
          t.dev.seq.acting = b.slots.map (fun (x : Slot) => (x.target, x.op, x.arg)) ∧ t.dev.seq.cycle = q.cycle + b.span ∧
          t.dev.seq.lastSpan = b.span ∧ t.dev.seq.run = q.run ∧ t.dev.seq.waiting = false ∧
          (c.1 = 0 → t.dev.seq.index = q.index + 1 ∧ t.dev.seq.counters = q.counters ∧ t.dev.seq.nest = q.nest) ∧
          (c.1 = 1 → t.dev.seq.index = q.index + 1 ∧ t.dev.seq.counters.getD b.loop 0 = loops.getD b.loop 0 ∧
            (∀ k, k ≠ b.loop → t.dev.seq.counters.getD k 0 = q.counters.getD k 0) ∧
            t.dev.seq.nest.head? = some (b.loop, q.index + 1) ∧
            (q.nest.all (fun x => decide (x.1 ≠ b.loop)) = true → t.dev.seq.nest.tail = q.nest)) ∧
          (c.1 = 2 → t.dev.seq.counters.getD b.loop 0 = q.counters.getD b.loop 0 - 1 ∧
            (∀ k, k ≠ b.loop → t.dev.seq.counters.getD k 0 = q.counters.getD k 0) ∧
            (q.counters.getD b.loop 0 ≤ 1 → t.dev.seq.index = q.index + 1 ∧ t.dev.seq.nest = closeLoop q.nest b.loop) ∧
            (1 < q.counters.getD b.loop 0 → t.dev.seq.nest.head? = some (b.loop, t.dev.seq.index) ∧
              (b.loop, t.dev.seq.index) ∈ q.nest ∧ t.dev.seq.nest.tail = closeLoop q.nest b.loop))))

/-- A TICK_WAIT bundle that passes its checks ends the bundle stream of the frame: nothing issues before the next tick, and the next bundle
is the one after it. A STEP_END with every fill item done ends the stream and the step, and captures the step's counters in the
registers of the forward arrays, the backward dies, the row engines, the layout engines and the fill work. Neither changes a byte of
memory or the fault queue. A STEP_END that leaves a fill item undone raises 0x1031 and ends no step. (R52, R53, R75, R90) -/
def Obligations.TickWaitAndStepEndEndTheFrame : Prop :=
  ∀ s : State,
    let d := s.dev
    let q := d.seq
    let b := s.bundle q.index
    d.canIssue = true → d.headerFault b (q.index - d.programBase) = none → q.loopFault b = false →
    (b.kind = 3 → ∃ t, exec .tickWait s = .next t ∧ SameBytes s t ∧
      t.dev = { d with seq := t.dev.seq, frm := { d.frm with cycle := max d.frm.cycle q.cycle }, obs := t.dev.obs } ∧
      t.dev.seq.index = q.index + 1 ∧ t.dev.seq.waiting = true ∧ t.dev.seq.stepEnded = false ∧ t.dev.seq.inStep = true ∧
      t.dev.seq.counters = q.counters ∧ t.dev.seq.nest = q.nest ∧ t.dev.canIssue = false) ∧
    (b.kind = 4 → d.fillLeft = none → ∃ t, exec .stepEnd s = .next t ∧ SameBytes s t ∧ t.dev.flt = d.flt ∧
      t.dev = { d with regs := t.dev.regs, seq := t.dev.seq, frm := t.dev.frm, obs := t.dev.obs } ∧
      t.dev.seq.waiting = true ∧ t.dev.seq.stepEnded = true ∧ t.dev.canIssue = false ∧
      t.dev.reg .bndFillAhead = d.fwd.bnd.ahead % 2 ^ 32 ∧ t.dev.reg .bndFillDiscard = d.fwd.bnd.discard % 2 ^ 32 ∧
      t.dev.reg .bndFillPromote = d.fwd.bnd.promote % 2 ^ 32 ∧ t.dev.reg .bndFenceHold = d.fwd.bnd.hold % 2 ^ 32 ∧
      t.dev.pair .bndSlackLo .bndSlackHi = d.fwd.bnd.slack % 2 ^ 64 ∧
      (∀ i < 8, t.dev.pair .fwdPlanesLo .fwdPlanesHi i = (tgetD d.fwd.counts i {}).planes % 2 ^ 64 ∧
        t.dev.reg .fwdExtend i = (tgetD d.fwd.counts i {}).extend % 2 ^ 32 ∧
        t.dev.reg .bwdDeposit i = (tgetD d.bwd.counts i {}).deposit % 2 ^ 32) ∧
      (∀ i < 4, t.dev.reg .rowRows i = (tgetD d.row.counts i {}).rows % 2 ^ 32) ∧
      (∀ i < 12, t.dev.reg .layCopies i = (tgetD d.lay i {}).copies % 2 ^ 32)) ∧
    (b.kind = 4 → ∀ x, d.fillLeft = some x → Room d 1 → ∃ t, exec .stepEnd s = .next t ∧ SameBytes s t ∧
      Waits t.dev 0x1031 (d.targetUnit x.1) x.1 ∧ t.dev.seq.stepEnded = false ∧ t.dev.seq.waiting = true ∧ SameRegs d t.dev countRegs)

/-- For each of the five bundle commands at a bundle of its kind: a header whose CHECK is not the CRC of its first 48 bits raises 0x1020,
one out of place 0x1021, one whose slots name a unit twice 0x1022, reserved bits 0x1023, in this order; a span past the plannable
length raises 0x1006; a loop command out of place 0x1024. Nothing else changes but the counts of faults, trace, counters, started fill
work and what leaves the chip; the index stays, and nothing more issues in the frame (log entry 39). (R57, R58, R23) -/
def Obligations.HeaderChecksRefuseABundle : Prop :=
  ∀ s : State, ∀ c ∈ [(0, Instr.runBundle), (1, .loopOpen), (2, .loopClose), (3, .tickWait), (4, .stepEnd)],
    let d := s.dev
    let q := d.seq
    let b := s.bundle q.index
    let rel := q.index - d.programBase
    let fails := fun (code : Nat) => ∃ t, exec c.2 s = .next t ∧ Waits t.dev code 24 0 ∧ t.dev.seq = { q with waiting := true } ∧
      t.dev.ldg = d.ldg ∧ t.dev.hst = d.hst ∧ t.dev.sec = d.sec ∧ t.dev.mnt = d.mnt ∧ SameBytes s t ∧ SameRegs d t.dev countRegs
    d.canIssue = true → b.kind = c.1 → Room d 1 →
    (b.check ≠ crcHeader (fld b 0 48) → fails 0x1020) ∧
    (b.check = crcHeader (fld b 0 48) → b.seq ≠ rel % 65536 → fails 0x1021) ∧
    (b.check = crcHeader (fld b 0 48) → b.seq = rel % 65536 → ¬ (b.slots.map Slot.target).Nodup → fails 0x1022) ∧
    (b.check = crcHeader (fld b 0 48) → b.seq = rel % 65536 → (b.slots.map Slot.target).Nodup → b.reserved ≠ 0 → fails 0x1023) ∧
    (d.headerFault b rel = none → c.1 ≤ 2 → d.plannable < q.cycle + b.span → fails 0x1006) ∧
    (d.headerFault b rel = none → (3 ≤ c.1 ∨ q.cycle + b.span ≤ d.plannable) →
      ((c.1 = 1 ∧ 8 < (openLoop q.nest b.loop 0).length) ∨ (c.1 = 2 ∧ b.loop ∉ q.nest.map Prod.fst) ∨ (c.1 = 4 ∧ q.nest ≠ [])) → fails 0x1024)

/-- While a bundle can issue, CONTINUE on a forward group or an awake backward group of the charter, a mint, layout, copy, stream or row
engine, the loss unit or the control unit changes nothing but the note of what acts and for which span; on a group that the charter
does not use it raises 0x1023, and on a backward group that is asleep 0x3002. A span past the plannable length raises 0x1006. While
nothing can issue it does nothing. (R50, R48, R58, R290, R291) -/
def Obligations.ContinueKeepsAUnitsAction : Prop :=
  ∀ (s : State) (target : BitVec 7) (span : Nat),
    let d := s.dev
    let k := target.toNat
    (d.canIssue = false → exec (.continue_ target span) s = .next s) ∧
    (d.canIssue = true → d.frm.cycle + span ≤ d.plannable → k ≤ 0x6D → (k < 0x40 → (d.group k).kind = 1 ∨
        ((d.group k).kind = 2 ∧ d.bwdAsleep d.frm.cycle = false)) →
      exec (.continue_ target span) s = .next { s with dev := { d with seq := { d.seq with
        acting := [(k, 1, 0)], lastCycle := d.frm.cycle, lastSpan := span } } }) ∧
    (d.canIssue = true → d.frm.cycle + span ≤ d.plannable → k < 0x40 → (d.group k).kind = 2 → d.bwdAsleep d.frm.cycle = true → Room d 1 →
      ∃ t, exec (.continue_ target span) s = .next t ∧ Waits t.dev 0x3002 (d.targetUnit k) k ∧ t.dev.seq = { d.seq with waiting := true } ∧
        SameBytes s t) ∧
    (d.canIssue = true → d.frm.cycle + span ≤ d.plannable → k < 0x40 → (d.group k).kind ≠ 1 → (d.group k).kind ≠ 2 → Room d 1 →
      ∃ t, exec (.continue_ target span) s = .next t ∧ Waits t.dev 0x1023 24 k ∧ t.dev.seq = { d.seq with waiting := true } ∧ SameBytes s t) ∧
    (d.canIssue = true → d.plannable < d.frm.cycle + span → k ≤ 0x6D → Room d 1 →
      ∃ t, exec (.continue_ target span) s = .next t ∧ Waits t.dev 0x1006 24 0 ∧ t.dev.seq = { d.seq with waiting := true } ∧ SameBytes s t)

/-- On a forward group SET_TAG with a span of at least 12 sets the group's tag to the low six bits of ARG; FWD_WLOAD (8) loads every
member's spare latches with the first weight tile of the window at ARG, as it stands in that tile's SRAM (said where no granule is poisoned
or in error); FWD_CLEAR (12, ARG 0) empties every member's accumulator file and its tag. On a backward group that is awake BWD_BLOAD (8)
loads the spare latches with the first B tile and its scales, and BWD_CLEAR (12, ARG 0) discards the file. Other tiles and groups, memory,
registers and faults stay. A shorter span raises 0x1034, 0x2001 or 0x3001; on a group of the other kind the FWD and BWD commands do nothing.
(R76, R181, R184, R269, R270, R290) -/
def Obligations.TagsLatchesAndClears : Prop :=
  ∀ (s : State) (group : Fin 64) (arg : BitVec 16) (span : Nat),
    let d := s.dev
    let g := group.val
    let acts := fun (op : Nat) => ({ d.seq with acting := [(g, op, arg.toNat)], lastCycle := d.frm.cycle, lastSpan := span } : Seq)
    let w := s.window arg.toNat
    let y := s.bwdDescAt arg.toNat
    d.canIssue = true → d.frm.cycle + span ≤ d.plannable →
    ((d.group g).kind = 1 →
      (12 ≤ span → ∃ t, exec (.setTag group arg span) s = .next t ∧ SameBytes s t ∧ (t.dev.fwdGroup g).tag = arg.toNat % 64 ∧
        (t.dev.fwdGroup g).fill = (d.fwdGroup g).fill ∧ (∀ k, k ≠ g → t.dev.fwdGroup k = d.fwdGroup k) ∧
        t.dev = { d with seq := acts 0x18, fwd := { d.fwd with groups := t.dev.fwd.groups }, obs := t.dev.obs }) ∧
      (8 ≤ span → d.windowOk w g (d.fwdGroup g).tag = true → d.stk.poison = [] → d.stk.upsets = [] → ∃ t, exec (.fwdWload group arg span) s = .next t ∧ SameBytes s t ∧
        (∀ x ∈ d.fwdMembers g, t.dev.fwdTile x =
          { d.fwdTile x with spare := some (arg.toNat, s.rd (fwdAddr x w.d.wgtOff) w.latchBytes) }) ∧
        (∀ x, x ∉ d.fwdMembers g → t.dev.fwdTile x = d.fwdTile x) ∧
        t.dev = { d with seq := acts 3, fwd := { d.fwd with tiles := t.dev.fwd.tiles } }) ∧
      (12 ≤ span → arg = 0 → ∃ t, exec (.fwdClear group arg span) s = .next t ∧ SameBytes s t ∧
        (∀ x ∈ d.fwdMembers g, t.dev.fwdTile x = { d.fwdTile x with acc := [], undrained := none }) ∧
        (∀ x, x ∉ d.fwdMembers g → t.dev.fwdTile x = d.fwdTile x) ∧
        t.dev = { d with seq := acts 4, fwd := { d.fwd with tiles := t.dev.fwd.tiles } }) ∧
      (Room d 1 → ∀ c ∈ [(12, 0x1034, Instr.setTag group arg span), (8, 0x2001, .fwdWload group arg span), (12, 0x2001, .fwdClear group arg span)],
        span < c.1 → ∃ t, exec c.2.2 s = .next t ∧ Waits t.dev c.2.1 (d.targetUnit g) g ∧ t.dev.seq = { d.seq with waiting := true } ∧
          SameBytes s t ∧ SameRegs d t.dev countRegs) ∧
      (∀ c ∈ [Instr.bwdWindow group arg span, .bwdBload group arg span, .bwdClear group arg span], exec c s = .next s)) ∧
    ((d.group g).kind = 2 →
      (d.bwdAsleep d.frm.cycle = false →
        (8 ≤ span → d.stk.poison = [] → d.stk.upsets = [] → ∃ t, exec (.bwdBload group arg span) s = .next t ∧ SameBytes s t ∧
          (∀ x ∈ d.bwdMembers g,
            let n : BwdLatch := { arg := arg.toNat, codes := s.rd (bwdAddr x y.bOff) y.bTile, scales := s.rd (bwdAddr x y.bscOff) y.bScales }
            t.dev.bwdTile x = { d.bwdTile x with spare := some n }) ∧
          (∀ x, x ∉ d.bwdMembers g → t.dev.bwdTile x = d.bwdTile x) ∧
          t.dev = { d with seq := acts 3, bwd := { d.bwd with tiles := t.dev.bwd.tiles } }) ∧
        (12 ≤ span → arg = 0 → ∃ t, exec (.bwdClear group arg span) s = .next t ∧ SameBytes s t ∧
          (∀ x ∈ d.bwdMembers g, t.dev.bwdTile x = { d.bwdTile x with acc := [], file := none }) ∧
          (∀ x, x ∉ d.bwdMembers g → t.dev.bwdTile x = d.bwdTile x) ∧
          t.dev = { d with seq := acts 4, bwd := { d.bwd with tiles := t.dev.bwd.tiles } })) ∧
      (Room d 1 → ∀ c ∈ [(8, Instr.bwdBload group arg span), (12, .bwdClear group arg span)], span < c.1 →
        ∃ t, exec c.2 s = .next t ∧ Waits t.dev 0x3001 (d.targetUnit g) g ∧ t.dev.seq = { d.seq with waiting := true } ∧ SameBytes s t) ∧
      (∀ c ∈ [Instr.fwdWindow group arg span, .fwdWload group arg span, .fwdClear group arg span], exec c s = .next s))

/-- On a forward group, an item whose checks hold joins the end of its group's queue; an item that fails a check raises that check's fault,
and with 32 items there FILL_QUEUE of a good window raises 0x1004. FILL_WINDOW on an item that passes its checks leaves it complete on every
tile of the group and changes no byte of memory (said where memory is plain); one that fails raises that check's fault. FILL_RETIRE of a
complete item takes it, and no other, from the queue; of an item that is not complete it raises 0x1031, and either command on a number that
is not queued raises 0x1033. With run-ahead off, outside a span that names the group in a compute window or FILL_WINDOW, or for a tile that
is no member of the group, FILL_RUN_AHEAD_START does nothing. Otherwise the tile's slack falls by the cycles spent, at most what it has,
nothing else of any tile changes, no item joins or leaves a queue, no byte of memory changes, and nothing outside the forward arrays
changes; the next item of R67, where there is one and there are cycles, has progress on that tile (said where memory is plain). (R61, R62,
R63, R65, R66, R71, R75, R67, R68, R69) -/
def Obligations.FillItemsQueueRunAndRetire : Prop :=
  (∀ (s : State) (group : Fin 64) (arg : BitVec 16) (span : Nat),
    let d := s.dev
    let g := group.val
    let q := (d.fwdGroup g).fill
    let i := s.fillItem arg.toNat
    let fails := fun (c : Instr) (code : Nat) => ∃ t, exec c s = .next t ∧ Waits t.dev code (d.targetUnit g) g ∧
      t.dev.seq = { d.seq with waiting := true } ∧ SameBytes s t ∧ SameRegs d t.dev (Reg.frmAdm.card.addr :: countRegs)
    d.canIssue = true → d.frm.cycle + span ≤ d.plannable → (d.group g).kind = 1 →
    (s.fillQueueFault g arg.toNat d.framesLeft = none → ∃ t, exec (.fillQueue group arg span) s = .next t ∧ SameBytes s t ∧
      (t.dev.fwdGroup g).fill = q ++ [s.fillItem arg.toNat] ∧ (t.dev.fwdGroup g).tag = (d.fwdGroup g).tag ∧
      (∀ k, k ≠ g → t.dev.fwdGroup k = d.fwdGroup k) ∧ t.dev.flt = d.flt ∧ t.dev.regs = d.regs) ∧
    (∀ code, s.fillQueueFault g arg.toNat d.framesLeft = some code → Room d 1 → fails (.fillQueue group arg span) code) ∧
    (d.windowOk (s.window i.action) g i.tag = true → (∀ j ∈ q, j.item ≠ i.item) → (s.window i.action).outBytes ≤ 16384 → 32 ≤ q.length →
      Room d 1 → fails (.fillQueue group arg span) 0x1004) ∧
    (∀ code, s.fillWindowFault g arg.toNat span = some code → Room d 1 → fails (.fillWindow group arg span) code) ∧
    (s.fillWindowFault g arg.toNat span = none → PlainMemory s →
      ∃ t j, exec (.fillWindow group arg span) s = .next t ∧ SameBytes s t ∧
        (t.dev.fwdGroup g).fill.find? (fun x => decide (x.item = arg.toNat)) = some j ∧ t.dev.itemDone g j = true ∧
        t.dev.flt = d.flt ∧ t.dev.regs = d.regs) ∧
    (∀ i, q.find? (fun x => decide (x.item = arg.toNat)) = some i → d.itemDone g i = true →
      ∃ t, exec (.fillRetire group arg span) s = .next t ∧ t.host = s.host ∧
        (t.dev.fwdGroup g).fill.map FillItem.item = (q.map FillItem.item).filter (fun n => decide (n ≠ arg.toNat))) ∧
    (∀ i, q.find? (fun x => decide (x.item = arg.toNat)) = some i → d.itemDone g i = false → Room d 1 → fails (.fillRetire group arg span) 0x1031) ∧
    (q.find? (fun x => decide (x.item = arg.toNat)) = none → Room d 1 → fails (.fillRetire group arg span) 0x1033 ∧
      fails (.fillWindow group arg span) 0x1033)) ∧
  (∀ (s : State) (group : Fin 64) (tile cycles : Nat),
    let d := s.dev
    let g := group.val
    let n := min cycles (d.fwdTile tile).slack
    let u : State := { s with dev := d.modFwdTile tile (fun x => { x with slack := x.slack - n }) }
    ((d.runAhead = false ∨ d.slackOpen g = false ∨ tile ∉ d.fwdMembers g) → exec (.fillRunAheadStart group tile cycles) s = .next s) ∧
    (d.runAhead = true → d.slackOpen g = true → tile ∈ d.fwdMembers g → PlainMemory s → ∃ t, exec (.fillRunAheadStart group tile cycles) s = .next t ∧ SameBytes s t ∧
      t.dev = { d with fwd := t.dev.fwd } ∧
      t.dev.fwdTile tile = { d.fwdTile tile with slack := (d.fwdTile tile).slack - n } ∧
      (∀ x, x ≠ tile → t.dev.fwdTile x = d.fwdTile x) ∧ (∀ k, k ≠ g → t.dev.fwdGroup k = d.fwdGroup k) ∧
      (t.dev.fwdGroup g).fill.map FillItem.item = (d.fwdGroup g).fill.map FillItem.item ∧
      (0 < n → ∀ i, u.nextItem g tile = some i →
        ∃ j ∈ (t.dev.fwdGroup g).fill, j.item = i.item ∧ (tget j.progress tile).isSome = true)))

/-- A FWD_WINDOW that passes its checks, with no member holding undrained sums of another tag, leaves each member's spare latches as NEXT
says (on a group of one tile with the next window's first weight tile, as it stood when the window issued) and its file tagged, or empty and
untagged after a LAST window. Other tiles stay; bytes outside the members' SRAMs stay (said where memory is plain), and so do the backward
dies, row engines, ledger, links, host edge, protection, charter and journal. With a member that holds sums of another tag, it spends its
reserve and one cycle more on the hold, raises 0x1030 and 0x1012, and no memory changes. A window that fails a check raises that check's
fault. (R183, R59, R78, R44, R184, R201, R380) -/
def Obligations.ForwardWindowsRun : Prop :=
  ∀ (s : State) (group : Fin 64) (arg : BitVec 16) (span : Nat),
    let d := s.dev
    let g := group.val
    let w := s.window arg.toNat
    let held := (d.fwdMembers g).any (fun x => match (d.fwdTile x).undrained with
      | some u => decide (u ≠ (d.fwdGroup g).tag)
      | none => false)
    d.canIssue = true → d.frm.cycle + span ≤ d.plannable → (d.group g).kind = 1 →
    (s.fwdWindowFault g arg.toNat span = none → held = false → PlainMemory s → ∃ t, exec (.fwdWindow group arg span) s = .next t ∧
      (∀ x ∈ d.fwdMembers g, (t.dev.fwdTile x).spare.map Prod.fst = (if w.d.next = 0xFFFF then none else some w.d.next) ∧
        (t.dev.fwdTile x).undrained = (if w.d.last then none else some (d.fwdGroup g).tag) ∧ (w.d.last = true → (t.dev.fwdTile x).acc = [])) ∧
      (∀ x, d.fwdMembers g = [x] → w.d.next ≠ 0xFFFF →
        let y := s.window w.d.next
        (t.dev.fwdTile x).spare = some (w.d.next, s.rd (fwdAddr x y.d.wgtOff) y.latchBytes)) ∧
      (∀ x, x ∉ d.fwdMembers g → t.dev.fwdTile x = d.fwdTile x) ∧
      (∀ p, (∀ x ∈ d.fwdMembers g, p < fwdAddr x 0 ∨ fwdAddr (x + 1) 0 ≤ p) → t.byte p = s.byte p) ∧ t.host = s.host ∧ t.pending = s.pending ∧
      t.dev.bwd = d.bwd ∧ t.dev.row = d.row ∧ t.dev.ldg = d.ldg ∧ t.dev.lnk = d.lnk ∧ t.dev.hst = d.hst ∧ t.dev.prt = d.prt ∧
      t.dev.cht = d.cht ∧ t.dev.sec = d.sec ∧ SameRegs d t.dev countRegs) ∧
    (s.fwdWindowFault g arg.toNat span = none → held = true → Room d 2 → ∃ t, exec (.fwdWindow group arg span) s = .next t ∧
      Waits t.dev 0x1030 ((d.fwdMembers g).headD 0 / 128) g ∧ Waits t.dev 0x1012 ((d.fwdMembers g).headD 0 / 128) g ∧
      t.dev.fwd.bnd.hold = satAdd 32 d.fwd.bnd.hold (w.reserve + 1) ∧ SameBytes s t) ∧
    (∀ code, s.fwdWindowFault g arg.toNat span = some code → Room d 1 → ∃ t, exec (.fwdWindow group arg span) s = .next t ∧
      Waits t.dev code (d.targetUnit g) g ∧ t.dev.seq = { d.seq with waiting := true } ∧ SameBytes s t)

/-- A BWD_WINDOW that passes its checks leaves each member's spare latches as NEXT says (on a group of one tile with the next window's
first B tile and its scales, as they stood when the window issued) and its accumulator file open, or, after a LAST
window, empty; a LAST weight-gradient window leaves its file in the deposit buffer. Other tiles stay; bytes outside the members' SRAMs
stay, and after a window that is not LAST or forms weight gradients every byte of memory (said where memory is plain). The ledger,
links, host edge, protection, charter and journal stay. A window that fails a check raises that check's fault. (R271, R272, R275, R279,
R282, R290, R380) -/
def Obligations.BackwardWindowsRun : Prop :=
  ∀ (s : State) (group : Fin 64) (arg : BitVec 16) (span : Nat),
    let d := s.dev
    let g := group.val
    let w := s.bwdDescAt arg.toNat
    d.canIssue = true → d.frm.cycle + span ≤ d.plannable → (d.group g).kind = 2 →
    (s.bwdWindowFault g arg.toNat span d.frm.cycle = none → PlainMemory s → ∃ t, exec (.bwdWindow group arg span) s = .next t ∧
      (∀ x, d.bwdMembers g = [x] → w.next ≠ 0xFFFF →
        let y := s.bwdDescAt w.next
        (t.dev.bwdTile x).spare =
          some { arg := w.next, codes := s.rd (bwdAddr x y.bOff) y.bTile, scales := s.rd (bwdAddr x y.bscOff) y.bScales }) ∧
      (∀ x ∈ d.bwdMembers g, (t.dev.bwdTile x).spare.map BwdLatch.arg = (if w.next = 0xFFFF then none else some w.next) ∧
        (t.dev.bwdTile x).file.isSome = !w.last ∧ (w.last = true → (t.dev.bwdTile x).acc = []) ∧
        (w.last = true → w.mode = 1 → (t.dev.bwdTile x).deposit.isSome = true)) ∧
      (∀ x, x ∉ d.bwdMembers g → t.dev.bwdTile x = d.bwdTile x) ∧
      (∀ p, (∀ x ∈ d.bwdMembers g, p < bwdAddr x 0 ∨ bwdAddr (x + 1) 0 ≤ p) → t.byte p = s.byte p) ∧
      ((w.last = false ∨ w.mode = 1) → ∀ p, t.byte p = s.byte p) ∧ t.host = s.host ∧ t.pending = s.pending ∧
      t.dev.row = d.row ∧ t.dev.ldg = d.ldg ∧ t.dev.lnk = d.lnk ∧ t.dev.hst = d.hst ∧ t.dev.prt = d.prt ∧
      t.dev.cht = d.cht ∧ t.dev.sec = d.sec ∧ SameRegs d t.dev countRegs) ∧
    (∀ code, s.bwdWindowFault g arg.toNat span d.frm.cycle = some code → Room d 1 → ∃ t, exec (.bwdWindow group arg span) s = .next t ∧
      Waits t.dev code (d.targetUnit g) g ∧ t.dev.seq = { d.seq with waiting := true } ∧ SameBytes s t)

/-- A BWD_DEPOSIT that passes its checks and whose copies fit the frame empties the deposit buffer of every member, which stays occupied up
to one committed end; no byte changes outside the generated entries of the step's half (said where memory is plain). A single value
meets its entry as one saturating addition at 2^63 - 1 either way, where the ledger may be written. One that fails a check raises
0x3006 or 0x3002 and changes no byte. (R283, R284, R286, R308) -/
def Obligations.DepositsReachTheLedger : Prop :=
  ∀ (s : State) (group : Fin 64) (arg : BitVec 16) (span : Nat),
    let d := s.dev
    let g := group.val
    let x := s.depDescAt arg.toNat
    let e := d.alloc (d.tensor x.tensor).alloc
    let entry := fun (m k : Nat) => d.gradOff x.tensor d.half (x.entry m (k / 128) (k % 128)).toNat
    d.canIssue = true → d.frm.cycle + span ≤ d.plannable → (d.group g).kind = 2 →
    (s.bwdDepositFault g arg.toNat d.frm.cycle = none → PlainMemory s →
      (∀ c ∈ s.bwdDepositCharges g arg.toNat, d.copyEnd c.1 d.frm.cycle c.2.2 ≤ d.plannable) →
      ∃ t stop, exec (.bwdDeposit group arg span) s = .next t ∧
        (∀ y ∈ d.bwdMembers g, (t.dev.bwdTile y).deposit = none ∧ (t.dev.bwdTile y).busyUntil = stop ∧ (t.dev.bwdTile y).acc = (d.bwdTile y).acc) ∧
        (∀ y, y ∉ d.bwdMembers g → t.dev.bwdTile y = d.bwdTile y) ∧ t.host = s.host ∧ t.pending = s.pending ∧
        (∀ p, (∀ m y buf, (d.bwdMembers g)[m]? = some y → (d.bwdTile y).deposit = some buf → ∀ z ∈ buf,
            p < d.translate e (entry m z.1) ∨ d.translate e (entry m z.1) + 8 ≤ p) → t.byte p = s.byte p) ∧
        (∀ y k v, d.bwdMembers g = [y] → (d.bwdTile y).deposit = some [(k, v)] → v.nonfin = false →
          d.accessKind 3 (d.tensor x.tensor).alloc (entry 0 k) 8 true = none →
          t.grad x.tensor d.half (x.entry 0 (k / 128) (k % 128)).toNat =
            clampInt (-l64Max) l64Max (s.grad x.tensor d.half (x.entry 0 (k / 128) (k % 128)).toNat + v.v))) ∧
    (∀ code, s.bwdDepositFault g arg.toNat d.frm.cycle = some code → Room d 1 → ∃ t, exec (.bwdDeposit group arg span) s = .next t ∧
      Waits t.dev code (d.targetUnit g) g ∧ (code = 0x3006 ∨ code = 0x3002) ∧ t.dev.seq = { d.seq with waiting := true } ∧ SameBytes s t)

/-- An admitted copy of a stack's DMA or layout engine moves that engine's committed end to its own and joins its jobs; no byte changes
outside the elements of the destination layout, and the charter, ledger, mint statistics, links, host edge and journal stay (said where
memory is plain). A copy of one element of whole bytes, which both sides permit and no other engine contests, leaves the source's bytes
at the destination. One whose end passes the plannable length is refused with 0x1002 and moves nothing. (R33, R34, R35, R397, R398) -/
def Obligations.StackCopiesMoveElements : Prop :=
  ∀ (s : State) (stack : Fin 12) (arg : BitVec 16) (span : Nat),
    ∀ c ∈ [(24, Instr.dmaCopy stack arg span, s.dmaCost stack.val arg.toNat), (12, .layCopy stack arg span, s.layCost stack.val arg.toNat)],
    let d := s.dev
    let k := stack.val
    let e := c.1 + k
    let x := copyDesc (BitVec.ofNat 128 (s.opnd arg.toNat 16))
    let src := s.layoutAt x.src
    let dst := s.layoutAt x.dst
    let stop := d.copyEnd e d.frm.cycle c.2.2
    d.canIssue = true → d.frm.cycle + span ≤ d.plannable →
    (stop ≤ d.plannable → PlainMemory s → ∃ t, exec c.2.1 s = .next t ∧ (t.dev.engine e).committed = stop ∧
      (t.dev.engine e).jobs.length = (d.engine e).jobs.length + 1 ∧ (∀ i, i ≠ e → t.dev.engine i = d.engine i) ∧
      (∀ p, OutsideElems d dst p → t.byte p = s.byte p) ∧ t.host = s.host ∧ t.pending = s.pending ∧
      t.dev.cht = d.cht ∧ t.dev.ldg = d.ldg ∧ t.dev.mnt = d.mnt ∧ t.dev.lnk = d.lnk ∧ t.dev.hst = d.hst ∧ t.dev.sec = d.sec ∧
      SameRegs d t.dev (Reg.memAccess.card.at k :: countRegs) ∧
      (dst.count = 1 → dst.isValid (dst.tuple 0) = true → src.econt = dst.econt → 3 ≤ dst.econt → dst.econt ≤ 7 →
        (∀ l ∈ [src, dst], l.packed = false ∧ l.blocked = false ∧ l.fold = false) →
        let n := dst.width / 8
        let a := n * src.elem (dst.tuple 0)
        let b := n * dst.elem (dst.tuple 0)
        (c.1 = 24 → d.dmaMine k src dst 0 = true) →
        (c.1 = 12 → d.layMine k dst 0 = true ∧ d.elemPlace src (src.elem (dst.tuple 0)) = k) →
        d.accessKind 0 src.alloc a n false = none → d.accessKind 0 dst.alloc b n true = none →
        d.contested e [d.elemRange dst (dst.elem (dst.tuple 0))] = [] →
        t.rd (d.translate (d.alloc dst.alloc) b) n = s.rd (d.translate (d.alloc src.alloc) a) n)) ∧
    (d.plannable < stop → Room d 1 → ∃ t, exec c.2.1 s = .next t ∧ Waits t.dev 0x1002 (25 + k) k ∧
      t.dev.seq = { d.seq with waiting := true } ∧ t.dev.engines = d.engines ∧ SameBytes s t ∧
      SameRegs d t.dev (Reg.frmAdm.card.addr :: countRegs))

/-- An admitted MINT_LOAD, MINT_STORE or MINT_SCALES moves the committed end of its stack's DMA to its own and joins the mint unit's jobs.
No byte changes outside the destination's elements, its blocks' companions (with WSUM the scale byte and weight sum, three bytes a
block, log entry 26) and, for a store, with STATS the flag bytes of the source's records and for a tracked tensor the tracker table;
S8 weights loaded into forward tiles stand as nibbles in their weight tiles (log entry 153); MINT_SCALES with companions leaves the
elements alone. The charter, ledger, links, host edge and journal stay (said where memory is plain). A descriptor that R241 rejects
raises 0x4030, and one whose end passes the plannable length 0x1002; neither changes a byte. (R239, R241, R242, R252, R34, R616) -/
def Obligations.MintOperationsConvert : Prop :=
  ∀ (s : State) (stack : Fin 12) (arg : BitVec 16) (span : Nat),
    ∀ c ∈ [(2, Instr.mintLoad stack arg span), (3, .mintStore stack arg span), (4, .mintScales stack arg span)],
    let d := s.dev
    let k := stack.val
    let o := s.mintOp arg.toNat
    let scales := decide (c.1 = 4)
    let stop := d.copyEnd (24 + k) d.frm.cycle (s.mintCost arg.toNat c.1)
    let companions := fun (b p : Nat) => if o.d.wsum && !scales then OutsideBytes d o.dst.calloc (o.dst.cbase + 3 * b) 3 p
      else OutsideBytes d o.dst.calloc (o.dst.cbase + b) 1 p ∧ (o.dst.comp = 1 ∨ OutsideBytes d o.dst.calloc (o.dst.cbase + o.dst.blocks + b) 1 p)
    let nibbles := fun (i p : Nat) =>
      let n := o.dst.nibbleAt (o.dst.elem (o.dst.tuple i))
      OutsideBytes d o.dst.alloc n.1 1 p ∧ OutsideBytes d o.dst.alloc n.2.1 1 p
    d.canIssue = true → d.frm.cycle + span ≤ d.plannable →
    (s.mintOk arg.toNat scales = true → stop ≤ d.plannable → PlainMemory s → ∃ t, exec c.2 s = .next t ∧
      (t.dev.engine (24 + k)).committed = stop ∧ (t.dev.engine k).jobs.length = (d.engine k).jobs.length + 1 ∧
      (∀ i, i ≠ k → i ≠ 24 + k → t.dev.engine i = d.engine i) ∧ t.host = s.host ∧ t.pending = s.pending ∧
      t.dev.cht = d.cht ∧ t.dev.ldg = d.ldg ∧ t.dev.lnk = d.lnk ∧ t.dev.hst = d.hst ∧ t.dev.sec = d.sec ∧ t.dev.bwd = d.bwd ∧
      (∀ p, ((c.1 = 4 ∧ o.dst.comp ≠ 0) ∨ if c.1 = 2 && s.mintTiles o false then ∀ i < o.dst.count, nibbles i p else OutsideElems d o.dst p) →
        (o.dst.comp = 0 ∨ if scales then ∀ b < o.dst.blocks, companions b p else ∀ i < o.dst.count, companions (o.dst.blockOf (o.dst.tuple i)) p) →
        ((c.1 = 3 ∧ o.d.stats = true ∧ o.src.comp ≠ 0) → ∀ j < ceilDiv (o.src.ext.getD o.src.rdim 1) 32,
          OutsideBytes d o.src.calloc (o.src.recordOff j + 15) 1 p) →
        ((c.1 = 3 ∧ o.d.tensor ≠ 0xFFF ∧ (d.tensor o.d.tensor).tracked = true) →
          OutsideBytes d d.mnt.table 0 (d.alloc d.mnt.table).size p) → t.byte p = s.byte p)) ∧
    (s.mintOk arg.toNat scales = false → Room d 1 → ∃ t, exec c.2 s = .next t ∧ Waits t.dev 0x4030 (25 + k) k ∧
      t.dev.seq = { d.seq with waiting := true } ∧ t.dev.engines = d.engines ∧ SameBytes s t ∧ SameRegs d t.dev countRegs) ∧
    (s.mintOk arg.toNat scales = true → d.plannable < stop → Room d 1 → ∃ t, exec c.2 s = .next t ∧ Waits t.dev 0x1002 (25 + k) k ∧
      t.dev.seq = { d.seq with waiting := true } ∧ t.dev.engines = d.engines ∧ SameBytes s t)

/-- The oldest copy of the engine leaves its jobs and no other engine changes; its committed end stays. A layout engine's copy counts in
its step's copies. The host copy engine's oldest command finishes, and its completion record waits last. Memory, registers, faults and
every other part stay. (R35, R535) -/
def Obligations.CopiesCompleteInOrder : Prop :=
  ∀ (s : State) (engine : Fin 37),
    let d := s.dev
    let e := engine.val
    ∃ t, exec (.copyComplete engine) s = .next t ∧ SameBytes s t ∧
      t.dev.engine e = { d.engine e with jobs := (d.engine e).jobs.drop 1 } ∧ (∀ i, i ≠ e → t.dev.engine i = d.engine i) ∧
      t.dev = { d with engines := t.dev.engines, lay := t.dev.lay, hst := t.dev.hst, obs := t.dev.obs } ∧
      (e ≠ 36 → t.dev.hst = d.hst) ∧
      (e = 36 → t.dev.hst = { d.hst with copies := d.hst.copies.drop 1, done := d.hst.done ++ d.hst.copies.take 1 }) ∧
      (12 ≤ e → e < 24 → (d.engine e).jobs ≠ [] → tgetD t.dev.lay (e - 12) {} =
        { tgetD d.lay (e - 12) {} with copies := satAdd 32 (tgetD d.lay (e - 12) {}).copies 1 }) ∧
      ((e < 12 ∨ 24 ≤ e) → t.dev.lay = d.lay)

/-- An admitted STREAM_SEND whose source may be read advances its stream's send count by one, charges 624 bytes a flit to its budget and,
unless its class is 3, moves its link's committed end; where R376 refuses a read of the source it is charged and sends nothing (log entry
167). One that R37, R413 or R420 refuses raises that fault with its stream's port and changes no link. STREAM_EXPECT notes its stream,
frame, count and deadline tick. STREAM_BIND binds its stream; with no complete message held, no count moves and nothing lands. A message
that was held and may land advances the receive count, but for one of a step that a stop has cut (log entry 183), and is stored at its slot
and nowhere else (said where memory is plain). (R37, R38, R413, R439, R440, R441, R442, R443) -/
def Obligations.StreamSendsExpectAndBind : Prop :=
  ∀ (s : State) (die : Fin 4) (arg : BitVec 16) (span : Nat),
    let d := s.dev
    let x := s.sendDescAt arg.toNat
    let y := expectDesc (s.opnd arg.toNat 16)
    let b := bindDesc (s.opnd arg.toNat 16)
    let acts := fun (op : Nat) => ({ d.seq with
      acting := [(0x64 + die.val, op, arg.toNat)], lastCycle := d.frm.cycle, lastSpan := span } : Seq)
    let bytes := (s.sendBytes die.val arg.toNat).1
    d.canIssue = true → d.frm.cycle + span ≤ d.plannable →
    (d.sendFault x.stream x.bytes d.frm.cycle = none → bytes = none → ∃ t, exec (.streamSend die arg span) s = .next t ∧ SameBytes s t ∧
      t.dev.streamState x.stream = { d.streamState x.stream with
        charged := (d.streamState x.stream).charged + 624 * ceilDiv x.bytes 624 } ∧
      (∀ i, i ≠ x.stream → t.dev.streamState i = d.streamState i) ∧ ∀ z ∈ t.dev.lnk.links, ∃ l ∈ d.lnk.links, z.replay = l.replay) ∧
    (d.sendFault x.stream x.bytes d.frm.cycle = none → bytes ≠ none → ∃ t, exec (.streamSend die arg span) s = .next t ∧ SameBytes s t ∧
      (t.dev.streamState x.stream).send = ((d.streamState x.stream).send + 1) % 256 ∧
      (t.dev.streamState x.stream).charged = (d.streamState x.stream).charged + 624 * ceilDiv x.bytes 624 ∧
      (∀ i, i ≠ x.stream → t.dev.streamState i = d.streamState i) ∧ t.dev.lnk.expects = d.lnk.expects ∧ t.dev.ldg = d.ldg ∧ t.dev.hst = d.hst ∧
      (∀ l, d.streamLink x.stream = some l → (d.stream x.stream).cls ≠ 3 →
        d.lnk.links.filter (fun z => z.is l.port l.fp l.farPort) = [l] → ∃ z ∈ t.dev.lnk.links, z.is l.port l.fp l.farPort = true ∧
        z.committed = max d.frm.cycle l.committed + linkCost (ceilDiv x.bytes 624) l.lanes.length)) ∧
    (∀ code, d.sendFault x.stream x.bytes d.frm.cycle = some code → Room d 1 → ∃ t, exec (.streamSend die arg span) s = .next t ∧
      Waits t.dev code (20 + (d.stream x.stream).port / 3) (16 * (d.stream x.stream).port) ∧ t.dev.seq = { d.seq with waiting := true } ∧ t.dev.lnk = d.lnk ∧ SameBytes s t) ∧
    exec (.streamExpect die arg span) s = .next { s with dev := { d with
      seq := acts 3
      lnk := { d.lnk with expects := d.lnk.expects ++
        [{ stream := y.stream, frame := d.frm.frame, count := y.count, deadline := frameAfter d.frm.frame (d.stream y.stream).d }] } } } ∧
    ((d.streamState b.stream).held = [] → ∃ t p, exec (.streamBind die arg span) s = .next t ∧ SameBytes s t ∧ t.dev.flt = d.flt ∧
      t.dev.streamState b.stream = { d.streamState b.stream with
        bound := some { alloc := b.alloc, slots := b.slots, offset := b.offset, slotBytes := b.slotBytes }, partial_ := p } ∧
      p.map (fun m => { m with waiting := 0 }) = (d.streamState b.stream).partial_.map (fun m => { m with waiting := 0 }) ∧
      (∀ i, i ≠ b.stream → t.dev.streamState i = d.streamState i)) ∧
    (∀ m, (d.streamState b.stream).held = [m] → d.flt.stop = .running → frameBefore d.frm.frame (d.deadline b.stream m.frame) = true →
      m.mseq = (d.streamState b.stream).recv → m.bytes.length ≤ b.slotBytes → PlainMemory s →
      let o := 64 * b.offset + m.mseq % b.slots * b.slotBytes
      d.accessKind 2 b.alloc o m.bytes.length true = none → ∃ t, exec (.streamBind die arg span) s = .next t ∧
        (t.dev.streamState b.stream).held = [] ∧ (t.dev.streamState b.stream).recv =
          (if (d.stream b.stream).cls = 0 ∧ d.drains m.frame = true then (d.streamState b.stream).recv else ((d.streamState b.stream).recv + 1) % 256) ∧
        tgetD (t.dev.streamState b.stream).done m.frame 0 = tgetD (d.streamState b.stream).done m.frame 0 + 1 ∧
        (o % 64 + m.bytes.length ≤ 64 → t.rd (d.translate (d.alloc b.alloc) o) m.bytes.length = m.bytes) ∧
        (∀ p, OutsideBytes d b.alloc o m.bytes.length p → t.byte p = s.byte p) ∧ t.host = s.host)

/-- STREAM_EXPECT_DEADLINE takes out every expectation whose deadline tick has come; where each has the messages it names nothing is
raised, and one that has not raises 0x7013 at its port. MESSAGE_DEADLINE_DISCARD drops from the landing buffer of its port every message at
its deadline with 0x1013, keeps the others, and leaves every stream of other ports as it is. Neither changes a byte of memory. On a chip
that is not aligned, or of a number that no link of the port that carries streams has outstanding, ACK_TIMEOUT_RESEND does nothing.
Otherwise a flit that has been sent five times takes the link down with 0x7004. One of a message whose deadline tick has come is not sent
again. While the frame's reserve lasts (for snapshot traffic, what retries and snapshot traffic have left of it), another is sent once
more, marked as a retry, and counted; a spent reserve sends nothing, and is the overrun 0x1010 unless the flit is snapshot traffic; with no
run active that cancels the message, whose flits leave the replay buffer. No byte of memory changes. (R29, R443, R38, R39, R40, R46, R415,
R420) -/
def Obligations.DeadlinesAndRetries : Prop :=
  (∀ s : State,
    let d := s.dev
    (∃ t, exec .streamExpectDeadline s = .next t ∧ SameBytes s t ∧
      t.dev.lnk = { d.lnk with expects := d.lnk.expects.filter (fun x => !tickDue x.deadline d.frm.frame) } ∧ SameRegs d t.dev countRegs ∧
      ((∀ x ∈ d.lnk.expects, tickDue x.deadline d.frm.frame = true → tgetD (d.streamState x.stream).done x.frame 0 = x.count) →
        t.dev.flt = d.flt ∧ t.dev.regs = d.regs) ∧
      (Room d d.lnk.expects.length → ∀ x ∈ d.lnk.expects, tickDue x.deadline d.frm.frame = true →
          tgetD (d.streamState x.stream).done x.frame 0 ≠ x.count →
        Waits t.dev 0x7013 (20 + (d.stream x.stream).port / 3) (16 * (d.stream x.stream).port))) ∧
    ∀ port : Fin 12, ∃ t, exec (.messageDeadlineDiscard port) s = .next t ∧ SameBytes s t ∧ SameRegs d t.dev countRegs ∧
      (∀ i, ((d.stream i).port ≠ port.val ∨ (d.stream i).recv = false) → t.dev.streamState i = d.streamState i) ∧
      (∀ i, (d.stream i).port = port.val → (d.stream i).recv = true →
        (t.dev.streamState i).held = (d.streamState i).held.filter (fun m => !tickDue (d.deadline i m.frame) d.frm.frame) ∧
        (t.dev.streamState i).recv = (d.streamState i).recv ∧
        (Room d d.lnk.streams.length → (∃ m ∈ (d.streamState i).held, tickDue (d.deadline i m.frame) d.frm.frame = true) →
          Waits t.dev 0x1013 (20 + port.val / 3) (16 * port.val)))) ∧
  (∀ (s : State) (port : Fin 12) (fseq : BitVec 16),
    let d := s.dev
    let n := fseq.toNat
    let found := d.lnk.links.find? (fun l => decide (l.port = port.val) && l.up && !l.second && !l.foreign && d.frm.aligned &&
      l.replay.any (fun (f : Nat × Flit) => decide (f.1 = n ∧ f.2.sends ≠ 0)))
    (found = none → exec (.ackTimeoutResend port fseq) s = .next s) ∧
    (∀ l f, found = some l → l.replay.find? (fun (g : Nat × Flit) => g.1 = n ∧ g.2.sends ≠ 0) = some f →
      let spent := decide (linkReserve l.lanes.length d.frameLen ≤ l.retries + if f.2.cls = 3 then l.snap else 0)
      let mine := fun (g : Nat × Flit) => decide (nfld g.2.hdr 4 12 = nfld f.2.hdr 4 12 ∧ nfld g.2.hdr 48 16 = nfld f.2.hdr 48 16)
      (f.2.sends < 5 → (tickDue f.2.deadline d.frm.frame = true ∨ (spent = true ∧ f.2.cls = 3)) →
        exec (.ackTimeoutResend port fseq) s = .next s) ∧
      (f.2.sends < 5 → tickDue f.2.deadline d.frm.frame = false → spent = false → ∃ t, exec (.ackTimeoutResend port fseq) s = .next t ∧ SameBytes s t ∧
        t.dev.out = .flit l.port (wireFlit (f.2.hdr + l.ackBits + 2 ^ 92) f.2.payload) :: d.out ∧
        t.dev.regFld (retryReg port.val) 0 16 (port.val / 3) = satAdd 16 (d.regFld (retryReg port.val) 0 16 (port.val / 3)) 1 ∧
        t.dev.flt = d.flt ∧ t.dev.lnk.links.length = d.lnk.links.length ∧ t.dev.lnk.streams = d.lnk.streams) ∧
      (f.2.sends < 5 → tickDue f.2.deadline d.frm.frame = false → spent = true → f.2.cls ≠ 3 → Room d 1 →
        ∃ t, exec (.ackTimeoutResend port fseq) s = .next t ∧ SameBytes s t ∧ Waits t.dev 0x1010 (20 + port.val / 3) (16 * port.val) ∧
        (d.seq.run ≠ none → t.dev.lnk = d.lnk) ∧
        (d.seq.run = none → t.dev.lnk = { d.lnk with links := d.lnk.links.map (fun z =>
          if z.is l.port l.fp l.farPort then { z with replay := z.replay.filter (fun g => !mine g) } else z) })) ∧
      (5 ≤ f.2.sends → Room d 2 → ∃ t, exec (.ackTimeoutResend port fseq) s = .next t ∧ SameBytes s t ∧
        Waits t.dev 0x7004 (20 + port.val / 3) (16 * port.val) ∧
        t.dev.lnk.links = d.lnk.links.filter (fun z => !z.is l.port l.fp l.farPort))))

/-- LANE_TRAINED starts the lane anew with the chip and port it hears and a receive margin that no rule names (a free value); a lane that
was about to leave its link still leaves it at the tick. CONTROL_FLIT_MISSED counts one frame, CODEWORD_LOCK_LOSS at least two, after
which the lane leaves at the next tick. LANE_TRAIN_TIMEOUT raises notice 0x7001 once in a training, at most once per lane and frame,
and RECEIVE_MARGIN_LOW 0x7005 with a margin below 1.0 dB that no rule names (a free value), at most once per link and frame. A control
flit that arrives gives the lane the sender's frame, L, flags, REF and HOPS and its arrival, ends its missed frames while they are
fewer than two, and on a link that is up a marker in it becomes a peer order of the next tick. Other lanes, streams, partners and
memory stay. (R417, R418, R421, R445, R512) -/
def Obligations.LanesFollowTheirEvents : Prop :=
  ∀ (s : State) (port : Fin 12) (lane : Fin 8),
    let d := s.dev
    let x := d.lane port.val lane.val
    let key := match d.linkAt port.val lane.val with
      | some l => l.key
      | none => 16 * port.val + lane.val
    let only := fun (t : State) (y : Lane) => SameBytes s t ∧ t.dev.lane port.val lane.val = y ∧
      (∀ p l, l < 8 → (p ≠ port.val ∨ l ≠ lane.val) → t.dev.lane p l = d.lane p l) ∧ t.dev.lnk.streams = d.lnk.streams ∧
      t.dev.lnk.partners = d.lnk.partners ∧ t.dev.seq = d.seq ∧ t.dev.ldg = d.ldg ∧ t.dev.hst = d.hst
    (∀ (peer : Fingerprint) (peerPort : BitVec 4), ∃ t m, exec (.laneTrained port lane peer peerPort) s = .next t ∧ m < 256 ∧
      only t { ({} : Lane) with
        trained := true, peer := peer.toNat, farPort := peerPort.toNat, margin := m, leaving := x.leaving || decide (2 ≤ x.missed) } ∧
      t.dev.flt = d.flt) ∧
    (∃ t, exec (.controlFlitMissed port lane) s = .next t ∧ only t { x with missed := x.missed + 1 } ∧ t.dev.flt = d.flt) ∧
    (∃ t, exec (.codewordLockLoss port lane) s = .next t ∧ only t { x with missed := max 2 x.missed } ∧ t.dev.flt = d.flt) ∧
    ((x.trained = true ∨ x.raised7001 = true) → exec (.laneTrainTimeout port lane) s = .next s) ∧
    (x.trained = false → x.raised7001 = false → Room d 1 → ∃ t, exec (.laneTrainTimeout port lane) s = .next t ∧
      only t { x with raised7001 := true } ∧
      ((0x7001, 16 * port.val + lane.val) ∉ d.lnk.raised → Waits t.dev 0x7001 (20 + port.val / 3) (16 * port.val + lane.val)) ∧
      SameRegs d t.dev countRegs) ∧
    (Room d 1 → ∃ t m, exec (.receiveMarginLow port lane) s = .next t ∧ m < 10 ∧ only t { x with margin := m } ∧
      ((0x7005, key) ∉ d.lnk.raised → Waits t.dev 0x7005 (20 + port.val / 3) (16 * port.val + lane.val)) ∧
      SameRegs d t.dev countRegs) ∧
    (∀ (flit : List Byte) (arrival : Int), ∃ t th de, exec (.controlFlitReceive port lane flit arrival) s = .next t ∧
      only t { x with
        peer := bytesAt flit 8 8, farPort := bytesAt flit 25 1 / 16, heard := true, now := true
        missed := if x.missed < 2 then 0 else x.missed, frame := bytesAt flit 0 6
        len := bytesAt flit 6 1, flags := bytesAt flit 7 1, ref := bytesAt flit 16 8, hops := bytesAt flit 24 1
        launch := toSigned 32 (bytesAt flit 28 4), arrival := arrival, echoed := decide (bytesAt flit 32 4 ≠ 0x80000000)
        theta := th, delay := de } ∧ t.dev.regs = d.regs ∧
      ((d.linkAt port.val lane.val = none ∨ bytesAt flit 36 1 ≠ 1) → t.dev.flt = d.flt) ∧
      (∀ l, d.linkAt port.val lane.val = some l → l.up = true → bytesAt flit 36 1 = 1 →
        ∃ o ∈ t.dev.flt.orders, o.src = .peer ∧ o.at_ = bytesAt flit 38 6 ∧ o.who = l.fp ∧ o.origin = bytesAt flit 44 8 ∧ o.arrival = d.frm.frame))

/-- A flit is good when its codewords decode and its CRC-32C is that of its header and payload. A flit on a lane without a link changes
nothing but the FEC and retry counts and is dropped. On a link, one that is not good is counted and, while the link is up, puts it in
the NACK state and is answered with a flit that carries the next expected number and NACK; on a link that is not up, is foreign or
second, or on a chip that is not aligned, a good one is dropped. On a link that carries streams, with an empty window and replay
buffer, a data flit in sequence that is a whole message of a class 1 stream in its count joins that stream's inbox, and the link and
the stream expect the next number. No byte of memory changes in these cases. (R29, R407, R409, R414, R442) -/
def Obligations.FlitsArriveInSequence : Prop :=
  ∀ (s : State) (port : Fin 12) (lane : Fin 8) (decoded : Bool) (symbols : Nat) (hdr : BitVec 96) (body : List Byte),
    let d := s.dev
    let payload := body.take 624
    let good := decoded && decide (leNat (body.drop 624) = crc32c (leBytes 12 hdr.toNat ++ payload))
    let fec := (fecReg port.val).card.at (port.val / 3)
    let retry := (retryReg port.val).card.at (port.val / 3)
    let stays := fun (t : State) (links : List Link) => exec (.flitReceive port lane decoded symbols hdr body) s = .next t ∧ SameBytes s t ∧
      t.dev.lnk = { d.lnk with links := links } ∧ t.dev.flt = d.flt ∧ SameRegs d t.dev [fec, retry]
    (d.linkAt port.val lane.val = none → ∃ t, stays t d.lnk.links ∧ t.dev.out = d.out ∧ (good = true → symbols = 0 → t = s)) ∧
    (∀ l, d.linkAt port.val lane.val = some l →
      (good = false → ∃ t, stays t (if l.up then
          d.lnk.links.map (fun z => if z.is l.port l.fp l.farPort then { z with nack := true } else z) else d.lnk.links) ∧
        t.dev.out = (if l.up then .ack port.val (wireFlit (2 ^ 32 * l.rxSeq + 2 ^ 91) []) :: d.out else d.out) ∧
        t.dev.regFld (retryReg port.val) 16 16 (port.val / 3) = satAdd 16 (d.regFld (retryReg port.val) 16 16 (port.val / 3)) 1) ∧
      (good = true → (l.up = false ∨ l.foreign = true ∨ l.second = true ∨ d.frm.aligned = false) → ∃ t, stays t d.lnk.links ∧ t.dev.out = d.out) ∧
      (good = true → l.up = true → l.foreign = false → l.second = false → d.frm.aligned = true → l.window = [] → l.replay = [] →
        d.lnk.links.filter (fun z => z.is l.port l.fp l.farPort) = [l] →
        let h := hdr.toNat
        let i := nfld h 4 12
        let e := d.stream i
        nfld h 0 4 = 1 → nfld h 16 16 = l.rxSeq → l.rxSeq < 65536 → h.testBit 91 = false → h.testBit 90 = true → nfld h 64 16 = 0 →
        e.valid = true → e.recv = true → e.port = l.port → e.cls = 1 → (d.partner e.partner).fp = l.fp → d.flt.stop = .running →
        nfld h 56 8 = (d.streamState i).recv → ∀ tag, d.resolveTag (nfld h 48 8) = some tag → frameBefore d.frm.frame (d.deadline i tag) = true →
        ∃ t, exec (.flitReceive port lane decoded symbols hdr body) s = .next t ∧ SameBytes s t ∧ t.dev.flt = d.flt ∧
          t.dev.streamState i = { d.streamState i with
            partial_ := none, recv := ((d.streamState i).recv + 1) % 256
            inbox := (d.streamState i).inbox ++ [(tag, payload.take (nfld h 80 10))] } ∧
          (∀ j, j ≠ i → t.dev.streamState j = d.streamState j) ∧
          ∃ z ∈ t.dev.lnk.links, z.is l.port l.fp l.farPort = true ∧ z.rxSeq = (l.rxSeq + 1) % 65536 ∧ z.window = [] ∧ z.nack = false))

/-- The loss of feed A moves its die to B where B is within limits, counts the switch and raises notice 0x7002, once in a frame; the loss
of the feed a die does not use is only noted; the loss of B on a die that uses it goes back to A. With both lost, 0x7003 is raised and no
link of the die's three ports is left. A feed that returns is within limits again, and a dark die takes it. Memory, streams' counts and the
other dies stay. (R406, R420) -/
def Obligations.FeedsSwitchAndFail : Prop :=
  ∀ (s : State) (die : Fin 4),
    let d := s.dev
    let f := d.feeds die.val
    let others := fun (t : State) => SameBytes s t ∧ (∀ i, i ≠ die.val → t.dev.feeds i = d.feeds i) ∧ t.dev.ldg = d.ldg ∧ t.dev.hst = d.hst ∧
      SameRegs d t.dev countRegs
    let dark := fun (t : State) => others t ∧ t.dev.feeds die.val = { f with aOk := false, bOk := false } ∧
      Waits t.dev 0x7003 (20 + die.val) (48 * die.val) ∧ ∀ l ∈ t.dev.lnk.links, l.port / 3 ≠ die.val
    (f.onB = true → exec (.feedALoss die) s = .next { s with dev := d.putFeeds die.val { f with aOk := false } }) ∧
    (f.onB = false → f.bOk = true → (0x7002, 48 * die.val) ∈ d.lnk.raised → exec (.feedALoss die) s =
      .next { s with dev := d.putFeeds die.val { f with aOk := false, onB := true, switches := satAdd 16 f.switches 1 } }) ∧
    (f.onB = false → f.bOk = true → (0x7002, 48 * die.val) ∉ d.lnk.raised → Room d 1 → ∃ t, exec (.feedALoss die) s = .next t ∧ others t ∧
      t.dev.feeds die.val = { f with aOk := false, onB := true, switches := satAdd 16 f.switches 1 } ∧ t.dev.lnk.links = d.lnk.links ∧
      Waits t.dev 0x7002 (20 + die.val) (48 * die.val)) ∧
    (f.onB = false → exec (.feedBLoss die) s = .next { s with dev := d.putFeeds die.val { f with bOk := false } }) ∧
    (f.onB = true → f.aOk = true → exec (.feedBLoss die) s =
      .next { s with dev := d.putFeeds die.val { f with bOk := false, onB := false, switches := satAdd 16 f.switches 1 } }) ∧
    (Room d (2 * d.lnk.links.length + 1) → (∃ t, exec (.bothFeedsLost die) s = .next t ∧ dark t) ∧
      (f.onB = false → f.bOk = false → ∃ t, exec (.feedALoss die) s = .next t ∧ dark t) ∧
      (f.onB = true → f.aOk = false → ∃ t, exec (.feedBLoss die) s = .next t ∧ dark t)) ∧
    (∀ feed : Fin 2, ∃ t, exec (.feedReturn die feed) s = .next t ∧ others t ∧ t.dev.lnk.links = d.lnk.links ∧ t.dev.flt = d.flt ∧
      (t.dev.feeds die.val).aOk = (f.aOk || decide (feed.val = 0)) ∧ (t.dev.feeds die.val).bOk = (f.bOk || decide (feed.val = 1)) ∧
      (t.dev.feeds die.val).onB = (if f.aOk || f.bOk then f.onB else decide (feed.val = 1)))

/-- HAIL_SEND on a chip that is not aligned, or that holds its links short of hails (before stage 6, log entry 19, or solitary with a run),
sends nothing; otherwise it hails each link of the port that has not been hailed and is not foreign, and marks it: the segments of the hail
wait for the link's control flits. A message of hail format on a foreign link does nothing, and no more does a hail on one held short. A
hail on a port without its link, or one that fails R430, is refused with notice 0x7020; from a new partner it takes the lowest free entry,
which becomes hailing at the next tick, and with no entry free it is refused with 0x7022; from a partner of the table with the same key its
domain descriptor is taken. An update hail of a present partner waits with its domain descriptor, which replaces the partner's at the next
tick (said of that change where none else waits). A farewell takes the link down and its partner is lost at the next tick. Memory and
streams' counts stay. (R420, R425, R428, R429, R430, R432, R433, R435, R436) -/
def Obligations.HailsMakePartners : Prop :=
  ∀ (s : State) (port : Fin 12),
    let d := s.dev
    let due := fun (l : Link) => decide (l.port = port.val) && !l.hailSent && !l.foreign && d.frm.aligned && !d.heldShort
    (∃ t, exec (.hailSend port) s = .next t ∧ SameBytes s t ∧ t.dev.flt = d.flt ∧ t.dev.lnk.partners = d.lnk.partners ∧
      t.dev.lnk.links.map (fun l => { l with hailTx := [] }) =
        d.lnk.links.map (fun l => { l with hailSent := l.hailSent || due l, hailTx := [] }) ∧
      (∀ l ∈ d.lnk.links, l.port ≠ port.val → l ∈ t.dev.lnk.links) ∧
      (∀ l ∈ d.lnk.links, due l = true → ∃ z ∈ t.dev.lnk.links, z.is l.port l.fp l.farPort = true ∧ ∃ b p q,
        z.hailTx = l.hailTx ++ p ++ hailSegments b ++ q ∧ bytesAt b 0 4 = 0x4C494148 ∧ bytesAt b 4 1 = 1) ∧
      t.dev.out.length = d.out.length + (d.lnk.links.filter due).length ∧ (d.frm.aligned = false → t = s)) ∧
    ∀ (b : List Byte) (certOk sigOk : Bool),
      let key := match d.hailLink port.val b with
        | some l => l.key
        | none => 16 * port.val
      (∀ l, d.hailLink port.val b = some l →
        ((l.foreign = true ∨ d.heldShort = true) → exec (.hail port b certOk sigOk) s = .next s) ∧
        (l.foreign = true → exec (.updateHail port b certOk sigOk) s = .next s ∧ exec (.farewell port b certOk sigOk) s = .next s)) ∧
      (Room d 1 → (0x7020, key) ∉ d.lnk.raised →
        ∀ c ∈ [(1, Instr.hail port b certOk sigOk), (2, .updateHail port b certOk sigOk), (3, .farewell port b certOk sigOk)],
          (d.hailLink port.val b = none ∨ ∃ l, d.hailLink port.val b = some l ∧ l.foreign = false ∧
            (c.1 = 1 → d.heldShort = false) ∧ d.hailOk c.1 b certOk sigOk = false) →
          ∃ t, exec c.2 s = .next t ∧ Waits t.dev 0x7020 (20 + port.val / 3) (16 * port.val) ∧ t.dev.lnk.links = d.lnk.links ∧
            t.dev.lnk.partners = d.lnk.partners ∧ t.dev.lnk.changes = d.lnk.changes ∧ SameBytes s t ∧ SameRegs d t.dev countRegs) ∧
      (∀ l, d.hailLink port.val b = some l → l.foreign = false → d.heldShort = false → d.hailOk 1 b certOk sigOk = true →
        (∀ i, d.partnerOf l.fp = some i → (d.partner i).keyd = hailKeyDigest b / 2 ^ 64 % 2 ^ 64 →
          ∃ t, exec (.hail port b certOk sigOk) s = .next t ∧ SameBytes s t ∧ t.dev.flt = d.flt ∧
          t.dev.partner i = { d.partner i with feed := bytesAt b 32 2, loop_ := bytesAt b 34 2, chassis := bytesAt b 36 2 } ∧
          (∀ j, j ≠ i → t.dev.partner j = d.partner j) ∧ t.dev.lnk.changes = d.lnk.changes ∧
          (∃ z ∈ t.dev.lnk.links, z.is l.port l.fp l.farPort = true ∧ z.accepted = true)) ∧
        (d.partnerOf l.fp = none →
        (∀ i, d.freePartner = some i → ∃ t, exec (.hail port b certOk sigOk) s = .next t ∧ SameBytes s t ∧ t.dev.flt = d.flt ∧ t.dev.regs = d.regs ∧
          (t.dev.partner i).fp = l.fp ∧ (t.dev.partner i).state = .free ∧ (t.dev.partner i).feed = bytesAt b 32 2 ∧
          (∀ j, j ≠ i → t.dev.partner j = d.partner j) ∧ t.dev.lnk.changes = d.lnk.changes ++ [(i, .hailing)] ∧
          (∃ z ∈ t.dev.lnk.links, z.is l.port l.fp l.farPort = true ∧ z.accepted = true)) ∧
        (d.freePartner = none → Room d 1 → (0x7022, key) ∉ d.lnk.raised → ∃ t, exec (.hail port b certOk sigOk) s = .next t ∧ SameBytes s t ∧
          Waits t.dev 0x7022 (20 + port.val / 3) (16 * port.val) ∧ t.dev.lnk.links = d.lnk.links ∧ t.dev.lnk.partners = d.lnk.partners))) ∧
      (∀ l i, d.hailLink port.val b = some l → l.foreign = false → d.hailOk 2 b certOk sigOk = true → d.partnerOf l.fp = some i →
        ((d.partner i).state ≠ .present → exec (.updateHail port b certOk sigOk) s = .next s) ∧
        ((d.partner i).state = .present →
          let u := { d with lnk := { d.lnk with
            changes := d.lnk.changes ++ [(i, .present)], domains := tput d.lnk.domains i (bytesAt b 32 2, bytesAt b 34 2, bytesAt b 36 2) } }
          exec (.updateHail port b certOk sigOk) s = .next { s with dev := u } ∧
          (d.lnk.changes = [] → d.lnk.free = [] → JournalRoom d 1 →
            u.partnerChanges.partner i = { d.partner i with
              feed := bytesAt b 32 2, loop_ := bytesAt b 34 2, chassis := bytesAt b 36 2, frame := d.frm.frame } ∧
            ∀ j, j ≠ i → u.partnerChanges.partner j = d.partner j))) ∧
      (∀ l i, d.hailLink port.val b = some l → l.foreign = false → d.hailOk 3 b certOk sigOk = true → d.partnerOf l.fp = some i →
        ∃ t, exec (.farewell port b certOk sigOk) s = .next t ∧ SameBytes s t ∧
          t.dev.lnk.links = d.lnk.links.filter (fun z => !z.is l.port l.fp l.farPort) ∧
          t.dev.lnk.partners = d.lnk.partners.map (fun p => (p.1, if p.2.fp = l.fp then { p.2 with port := l.port } else p.2)) ∧
          t.dev.lnk.changes = d.lnk.changes ++ [(i, .lost)])

/-- An admitted ROW_RUN counts the rows that it processes, and their cycles, on its die and notes its function; other dies, the charter,
links, host edge and journal stay. It processes every row but where an access is refused, which raises 0x6010, 0x6011 or 0x6012 (said for a
function that adds nothing to the ledger). But for LN_B and RMS_B, which add into the ledger, no byte changes outside the elements of its
outputs, the companions of output 0 and the statistics records after them (said where memory is plain). A descriptor that R296 rejects
raises 0x3020. LOSS_ADD changes no byte and nothing of the ledger but the loss sum, its non-finite count and LOVF; a single finite loss adds
at the loss anchor, saturating at 2^63 - 1, and a non-finite one is counted. A malformed one raises 0x1023 (log entry 31). (R293, R296,
R304, R307, R329) -/
def Obligations.RowsAndLosses : Prop :=
  ∀ (s : State) (arg : BitVec 16) (span : Nat),
    let d := s.dev
    d.canIssue = true → d.frm.cycle + span ≤ d.plannable →
    (∀ die : Fin 4,
      let x := s.rowDescAt arg.toNat
      let l := s.layoutAt x.out0
      let c := tgetD d.row.counts die.val {}
      (s.rowFault arg.toNat span = none → PlainMemory s →
        ∀ r, d.admitCharges arg.toNat d.frm.cycle d.frm.cycle ((s.rowCharges arg.toNat).map plainCharge) = .ok r →
        ∃ t n, exec (.rowRun die arg span) s = .next t ∧ n ≤ x.rows ∧ (tgetD t.dev.row.counts die.val {}).rows = satAdd 32 c.rows n ∧
          (tgetD t.dev.row.counts die.val {}).cycles = satAdd 32 c.cycles (n * x.rowCost) ∧
          (x.func ≠ 4 → x.func ≠ 6 → Room d 1 → n < x.rows → ∃ f ∈ t.dev.flt.queue, f.code ∈ [0x6010, 0x6011, 0x6012] ∧ f.unit = 16 + die.val) ∧
          tget t.dev.row.func die.val = some x.func ∧ (∀ k, k ≠ die.val → tget t.dev.row.counts k = tget d.row.counts k) ∧
          t.dev.cht = d.cht ∧ t.dev.lnk = d.lnk ∧ t.dev.hst = d.hst ∧ t.dev.sec = d.sec ∧ t.dev.bwd = d.bwd ∧ t.host = s.host ∧
          (x.func ≠ 4 → x.func ≠ 6 → t.dev.ldg = d.ldg ∧ ∀ p, OutsideElems d l p →
            (x.out1 = 0xFFFF ∨ OutsideElems d (s.layoutAt x.out1) p) →
            (l.comp = 0 ∨ ((∀ b < l.blocks, OutsideBytes d l.calloc (l.cbase + b) 1 p ∧ OutsideBytes d l.calloc (l.cbase + l.blocks + b) 1 p) ∧
              ∀ j < ceilDiv (l.ext.getD l.rdim 1) 32, OutsideBytes d l.calloc (l.recordOff j) 16 p)) → t.byte p = s.byte p)) ∧
      (∀ code, s.rowFault arg.toNat span = some code → Room d 1 → ∃ t, exec (.rowRun die arg span) s = .next t ∧ code = 0x3020 ∧
        Waits t.dev 0x3020 (16 + die.val) die.val ∧ t.dev.seq = { d.seq with waiting := true } ∧ SameBytes s t)) ∧
    (let x := s.lossDesc arg.toNat
     let l := s.layoutAt x.layout
     (s.lossFault arg.toNat span = none → ∃ t, exec (.lossAdd arg span) s = .next t ∧ SameBytes s t ∧
        t.dev.ldg = { d.ldg with lossSum := t.dev.ldg.lossSum, lossNonfin := t.dev.ldg.lossNonfin, lovf := t.dev.ldg.lovf } ∧
        t.dev.lnk = d.lnk ∧ t.dev.hst = d.hst ∧
        ∀ code p, x.rows = 1 → (s.elem { inst := 0, cls := 1, unit := 24 } l (l.elem (l.tuple 0))).1 = some (code, p) →
          let v := f32Contribution (f32Val code) s.dirLossA
          (v.nonfin = false → t.dev.ldg.lossSum = clampInt (-l64Max) l64Max (d.ldg.lossSum + v.v) ∧ t.dev.ldg.lossNonfin = d.ldg.lossNonfin) ∧
          (v.nonfin = true → t.dev.ldg.lossSum = d.ldg.lossSum ∧ t.dev.ldg.lossNonfin = satAdd 32 d.ldg.lossNonfin 1 ∧
            t.dev.mnt.flags.nonfin = true)) ∧
     (∀ code, s.lossFault arg.toNat span = some code → Room d 1 → ∃ t, exec (.lossAdd arg span) s = .next t ∧ code = 0x1023 ∧
        Waits t.dev 0x1023 24 0 ∧ t.dev.ldg = d.ldg ∧ SameBytes s t))

/-- A CLEAR that passes its checks and is admitted moves an idle escrow to clearing, joins the rounds with the deadline of the stream it
receives on, and changes no byte; a bad descriptor raises its fault. A message with a header that does not match its round raises 0x5004 and
applies nothing. One that matches marks the oldest round that waits on its stream applied; without an image, each entry of its blocks takes
the sum with the value, each at most 2^63 - 1 either way, or in a gather round the value, and no other byte changes (said where memory is
plain, the ledger may be written and entries do not overlap). A round whose deadline passes raises 0x5004 once. When the LAST round has
issued and all are applied, clearing completes: the escrow is cleared with a record of the step, its rank, members and loss sum, and waits
from the next tick (said where no report has come). Else CLEARING_COMPLETE does nothing. (R322, R324, R325, R326, R330) -/
def Obligations.ClearingRoundsMeetTheirMessages : Prop :=
  ∀ s : State,
    let d := s.dev
    (∀ (arg : BitVec 16) (span : Nat), d.canIssue = true → d.frm.cycle + span ≤ d.plannable →
      let r := s.roundAt arg.toNat
      (s.clearDescFault arg.toNat = none → ∀ a e, d.admitSends d.frm.cycle (if r.send = 0xFFF then [] else [(r.send, s.unpackedLength r)]) = .ok e →
        e.admitCharges arg.toNat d.frm.cycle d.frm.cycle ((s.clearCharges arg.toNat).map plainCharge) = .ok a →
        ∃ t, exec (.clear arg span) s = .next t ∧ SameBytes s t ∧ t.dev.ldg.state = (if d.ldg.state = .idle then .clearing else d.ldg.state) ∧
          t.dev.ldg.rounds = d.ldg.rounds ++ [{ arg := arg.toNat, applied := decide (r.recv = 0xFFF), deadline := frameAfter d.frm.frame (d.stream r.recv).d }] ∧
          t.dev.ldg.last = (if r.last then some r.slist else d.ldg.last) ∧ t.dev.ldg.record = d.ldg.record ∧
          (r.send ≠ 0xFFF → (t.dev.streamState r.send).send = ((d.streamState r.send).send + 1) % 256)) ∧
      (∀ code, s.clearDescFault arg.toNat = some code → Room d 1 → ∃ t, exec (.clear arg span) s = .next t ∧ Waits t.dev code 24 0 ∧
        t.dev.ldg = d.ldg ∧ SameBytes s t)) ∧
    (∀ stream : BitVec 12,
      let i := stream.toNat
      let waits := fun (r : Round) => !r.applied && decide ((s.roundAt r.arg).recv = i)
      ((d.ldg.rounds.find? waits = none ∨ (d.streamState i).inbox = []) → exec (.clearingMessageApply stream) s = .next s) ∧
      (∀ rd m rest, d.ldg.rounds.find? waits = some rd → (d.streamState i).inbox = m :: rest →
        let r := s.roundAt rd.arg
        let n := fun (o k : Nat) => leNat ((m.2.drop o).take k)
        (¬ (n 8 8 = d.ldg.step ∧ n 2 2 = r.tensor ∧ n 16 8 = r.rfirst ∧ n 4 4 = r.rblocks) → Room d 1 →
          ∃ t, exec (.clearingMessageApply stream) s = .next t ∧ Waits t.dev 0x5004 24 i ∧ t.dev.ldg = d.ldg ∧
            (t.dev.streamState i).inbox = rest ∧ SameBytes s t) ∧
        ((n 8 8 = d.ldg.step ∧ n 2 2 = r.tensor ∧ n 16 8 = r.rfirst ∧ n 4 4 = r.rblocks) → (n 1 1).testBit 0 = false → PlainMemory s →
          ∃ t, exec (.clearingMessageApply stream) s = .next t ∧ (t.dev.streamState i).inbox = rest ∧ t.host = s.host ∧
            t.dev.ldg.rounds = markApplied d.ldg.rounds waits ∧ t.dev.ldg.state = d.ldg.state ∧
            (let e := d.alloc (d.tensor r.tensor).alloc
             let at_ := fun (k : Nat) => d.translate e (d.gradOff r.tensor d.half k)
             let mine := fun (k : Nat) => k < d.gradEntries r.tensor ∧ 256 * r.rfirst ≤ k ∧ k < 256 * (r.rfirst + r.rblocks)
             (∀ p, (∀ k, mine k → p < at_ k ∨ at_ k + 8 ≤ p) → t.byte p = s.byte p) ∧
             ((∀ j k, mine j → mine k → j < k → at_ j + 8 ≤ at_ k ∨ at_ k + 8 ≤ at_ j) →
               (∀ k, mine k → d.accessKind 3 (d.tensor r.tensor).alloc (d.gradOff r.tensor d.half k) 8 true = none) → ∀ k, mine k →
               t.grad r.tensor d.half k = clampInt (-l64Max) l64Max ((if r.gather then 0 else s.grad r.tensor d.half k) +
                 clampInt (-l64Max) l64Max
                   (((unpackBlocks r.rblocks (m.2.drop 32)).1.getD (k / 256 - r.rfirst) []).getD (k % 256) 0))))))) ∧
    (let due := fun (r : Round) => !r.applied && !r.late && tickDue r.deadline d.frm.frame
     Room d d.ldg.rounds.length → ∃ t, exec .clearingRoundDeadline s = .next t ∧ SameBytes s t ∧
       t.dev.ldg = { d.ldg with rounds := d.ldg.rounds.map (fun r => if due r then { r with late := true } else r) } ∧
       ∀ r ∈ d.ldg.rounds, due r = true → Waits t.dev 0x5004 24 (s.roundAt r.arg).recv) ∧
    ((d.ldg.state ≠ .clearing ∨ d.ldg.last = none ∨ ∃ r ∈ d.ldg.rounds, r.applied = false) → exec .clearingComplete s = .next s) ∧
    (d.ldg.state = .clearing → d.ldg.last ≠ none → (∀ r ∈ d.ldg.rounds, r.applied = true) → d.ldg.reports = [] →
      ∃ t e, exec .clearingComplete s = .next t ∧ t.dev.ldg.state = .cleared ∧ t.dev.ldg.record = some e ∧ e.step = d.ldg.step ∧
        e.rank = d.rank ∧ e.members = d.memberCount ∧ e.lossSum = d.ldg.lossSum ∧ e.loss = s.stepLoss ∧
        t.dev.ldg.waitFrom = some (frameAfter d.frm.frame 1) ∧ t.dev.reg .ldgLoss = s.stepLoss % 2 ^ 32 ∧
        t.dev.seq.run = d.seq.run.map (fun r => { r with cleared := true }) ∧ t.dev.lnk = d.lnk ∧ t.dev.hst = d.hst ∧ t.host = s.host)

/-- An admitted REPORT advances every class 2 stream that sends by one message and notes its kind; one that R338 or R339 rejects, of a step
that has been abandoned or reverted too, raises 0x5002. A send raises nothing but the overrun of a spent reserve. DEFERRED_REPORT_SEND
sends the oldest report on a stream that has room and keeps it for one that has not. A report on a chip that is not aligned, or on a stream
that is not a valid class 2 receive stream, is nothing; one whose rank is not its sender's raises 0x501C and is dropped. A settled report
is entered in place of an older one of its rank and step and nothing else changes, and no more does it for a cleared report that agrees
with the step in escrow. One that differs from its sum or verdict sets DIVERGED and raises 0x5015, and abandons a cleared step where the
sum differs. A released report of a step that this chip has reverted marks it out of date with 0x5018. No byte of memory changes. (R82,
R321, R334, R337, R338, R354) -/
def Obligations.ReportsBuildTheBarrier : Prop :=
  ∀ s : State,
    let d := s.dev
    (∀ (arg : BitVec 16) (span : Nat), d.canIssue = true → d.frm.cycle + span ≤ d.plannable →
      (d.reportFault arg.toNat = none → (d.streamsOf 2 false).Nodup → ∀ e, d.admitSends d.frm.cycle ((d.streamsOf 2 false).map (fun i => (i, 32))) = .ok e →
        ∃ t, exec (.report arg span) s = .next t ∧ SameBytes s t ∧ t.dev.ldg = { d.ldg with issued := arg.toNat % 8 :: d.ldg.issued } ∧
          (∀ i ∈ d.streamsOf 2 false, (t.dev.streamState i).send = ((d.streamState i).send + 1) % 256) ∧
          ∀ r ∈ t.dev.flt.queue, r ∈ d.flt.queue ∨ r.code = 0x1010) ∧
      (∀ code, d.reportFault arg.toNat = some code → Room d 1 → ∃ t, exec (.report arg span) s = .next t ∧ code = 0x5002 ∧ Waits t.dev 0x5002 24 0 ∧
        t.dev.ldg = d.ldg ∧ SameBytes s t)) ∧
    (d.ldg.deferred = [] → exec .deferredReportSend s = .next s) ∧
    (∀ r rest i, d.ldg.deferred = r :: rest → r.streams = [i] →
      (d.sendFault i r.bytes.length d.frm.cycle ≠ none → exec .deferredReportSend s = .next s) ∧
      (d.sendFault i r.bytes.length d.frm.cycle = none → ∃ t, exec .deferredReportSend s = .next t ∧ SameBytes s t ∧
        t.dev.ldg = { d.ldg with deferred := rest } ∧ (t.dev.streamState i).send = ((d.streamState i).send + 1) % 256 ∧
        ∀ r ∈ t.dev.flt.queue, r ∈ d.flt.queue ∨ r.code = 0x1010)) ∧
    (∀ (stream : BitVec 12) (msg : BitVec 256),
      let e := d.stream stream.toNat
      let rank := d.rankOf (d.partner e.partner).fp
      let kind := fld msg 0 8
      let step := fld msg 32 64
      let entered := (rank, kind, step, fld msg 96 64, fld msg 8 8) ::
        d.ldg.reports.filter (fun r => !decide (r.1 = rank ∧ r.2.1 = kind ∧ r.2.2.1 = step))
      ((d.frm.aligned = false ∨ e.valid = false ∨ e.cls ≠ 2 ∨ e.recv = false) → exec (.reportReceived stream msg) s = .next s) ∧
      (d.frm.aligned = true → e.valid = true → e.cls = 2 → e.recv = true →
        (fld msg 16 8 ≠ rank → Room d 1 → ∃ t, exec (.reportReceived stream msg) s = .next t ∧ Waits t.dev 0x501C 24 stream.toNat ∧
          t.dev.ldg = d.ldg ∧ SameBytes s t) ∧
        (fld msg 16 8 = rank →
          (kind = 2 → exec (.reportReceived stream msg) s = .next { s with dev := { d with ldg := { d.ldg with reports := entered } } }) ∧
          (kind = 1 → ∀ x, d.ldg.record = some x → x.step = step → d.ldg.state ≠ .idle → d.ldg.state ≠ .clearing →
            (fld msg 96 64 = x.clearSum → fld msg 8 8 = x.verdict →
              exec (.reportReceived stream msg) s = .next { s with dev := { d with ldg := { d.ldg with reports := entered } } }) ∧
            (¬ (fld msg 96 64 = x.clearSum ∧ fld msg 8 8 = x.verdict) → Room d 1 → ∃ t, exec (.reportReceived stream msg) s = .next t ∧
              Waits t.dev 0x5015 24 0 ∧
              (let gone := d.ldg.state = .cleared ∧ fld msg 96 64 ≠ x.clearSum
               (gone → t.dev.ldg.state = .idle ∧ t.dev.ldg.reports = entered.filter (fun r => decide (step < r.2.2.1)) ∧
                 t.dev.ldg.record = some { x with diverged := true, dropped := true }) ∧
               (¬ gone → t.dev.ldg.state = d.ldg.state ∧ t.dev.ldg.reports = entered ∧ t.dev.ldg.record = some { x with diverged := true })) ∧ SameBytes s t)) ∧
          (kind = 4 → step ∈ d.ldg.reverted → Room d 1 → ∃ t, exec (.reportReceived stream msg) s = .next t ∧
            Waits t.dev 0x5018 24 0 ∧ t.dev.ldg.outOfDate = true ∧ t.dev.ldg.reports = entered ∧ t.dev.ldg.state = d.ldg.state ∧ SameBytes s t))))

/-- A SETTLE that passes its checks and is admitted puts its chunk in progress and ends the wait; one that fails raises its fault, and one
that meets the barrier of a held verdict (0x5011) leaves the escrow held. The oldest chunk in progress completes, and after the FINAL
one the step is settled with its digest and waits from the next tick. Outside a program, settlement runs every group and leaves the
step settled with its settled report queued. On a chip that a halt has caught neither does anything (R514). A wait that ends unmet abandons a
cleared step and reverts a settled one, each with 0x5014. A completed revert leaves the escrow idle and the reverted report queued, and
marks the chip out of date where a released report of the step has been seen. (R333, R336, R341, R342, R349, R353, R354, R514) -/
def Obligations.SettlementGoesItsWay : Prop :=
  ∀ s : State,
    let d := s.dev
    (∀ (arg : BitVec 16) (span : Nat), d.canIssue = true → d.frm.cycle + span ≤ d.plannable →
      let c := s.chunkAt arg.toNat
      (s.settleFault arg.toNat = none → ∀ a, d.admitCharges arg.toNat d.frm.cycle d.frm.cycle (s.settleCharges arg.toNat d.frm.cycle) = .ok a →
        ∃ t, exec (.settle arg span) s = .next t ∧ t.host = s.host ∧ t.dev.ldg.state = .settling ∧ t.dev.ldg.waitFrom = none ∧
          t.dev.ldg.chunks = d.ldg.chunks ++ [{ group := c.group, first := c.first, count := c.count, final := c.final }] ∧
          t.dev.ldg.finalIssued = (d.ldg.finalIssued || c.final) ∧ t.dev.ldg.reports = d.ldg.reports ∧
          (c.count = 0 → c.glast = false → ∀ p, t.byte p = s.byte p)) ∧
      (∀ code, s.settleFault arg.toNat = some code → Room d 1 → ∃ t, exec (.settle arg span) s = .next t ∧ Waits t.dev code 24 0 ∧
        (code = 0x5002 ∨ code = 0x5011 ∨ code = 0x5012) ∧ (code ≠ 0x5011 → t.dev.ldg = d.ldg) ∧ (code = 0x5011 → t.dev.ldg.state = .held) ∧
        SameBytes s t)) ∧
    ((d.ldg.state ≠ .settling ∨ d.ldg.chunks = [] ∨ d.flt.caught = true) → exec .settleChunkComplete s = .next s) ∧
    (∀ c rest, d.ldg.state = .settling → d.ldg.chunks = c :: rest → d.flt.caught = false →
      (c.final = false → exec .settleChunkComplete s = .next { s with dev := { d with ldg := { d.ldg with chunks := rest } } }) ∧
      (c.final = true → ∀ e, d.ldg.record = some e → exec .settleChunkComplete s = .next { s with dev := { d with
        ldg := { d.ldg with
          state := .settled, waitFrom := some (frameAfter d.frm.frame 1), chunks := [], outside := false
          reverted := d.ldg.reverted.filter (· ≠ e.step)
          record := some { e with digest := s.stepDigest e.groups, settled := true } } } })) ∧
    (∀ e, d.ldg.record = some e →
      ((d.ldg.state ≠ .settling ∨ d.ldg.outside = false ∨ d.flt.caught = true) →
        exec .settlementOutsideProgram s = .next s) ∧
      (d.ldg.state = .settling → d.ldg.outside = true → d.flt.caught = false →
        ∃ t x r, exec .settlementOutsideProgram s = .next t ∧ t.host = s.host ∧ t.dev.ldg.state = .settled ∧
          t.dev.ldg.waitFrom = some (frameAfter d.frm.frame 1) ∧ t.dev.ldg.outside = false ∧ t.dev.ldg.record = some x ∧ x.step = e.step ∧ x.settled = true ∧
          t.dev.ldg.deferred = d.ldg.deferred ++ [r] ∧ r.kind = 2 ∧ r.step = e.step ∧
          (e.groups = [] → Room d 1 → Waits t.dev 0x5013 24 0 ∧ SameBytes s t)) ∧
      (d.waitOver = false → exec .settleTimeoutExpiry s = .next s) ∧
      (d.waitOver = true → Room d 1 →
        (d.ldg.state = .cleared → d.barrierMet = true → exec .settleTimeoutExpiry s = .next s) ∧
        (d.ldg.state = .settled → d.releaseMet = true → exec .settleTimeoutExpiry s = .next s) ∧
        (d.ldg.state = .cleared → d.barrierMet = false → ∃ t, exec .settleTimeoutExpiry s = .next t ∧ Waits t.dev 0x5014 24 0 ∧
          t.dev.ldg.state = .idle ∧ t.dev.ldg.record = some { e with dropped := true } ∧ SameBytes s t) ∧
        (d.ldg.state = .settled → d.releaseMet = false → ∃ t, exec .settleTimeoutExpiry s = .next t ∧ Waits t.dev 0x5014 24 0 ∧
          t.dev.ldg = { d.ldg with state := .reverting, waitFrom := none } ∧ SameBytes s t)) ∧
      (d.ldg.state ≠ .reverting → exec .revertComplete s = .next s) ∧
      (d.ldg.state = .reverting → ∃ t r, exec .revertComplete s = .next t ∧ t.host = s.host ∧ t.dev.ldg.state = .idle ∧
        e.step ∈ t.dev.ldg.reverted ∧ (∃ x, t.dev.ldg.record = some x ∧ x.step = e.step ∧ x.dropped = true) ∧ t.dev.ldg.deferred = d.ldg.deferred ++ [r] ∧ r.kind = 3 ∧ r.step = e.step ∧
        t.dev.ldg.outOfDate = (d.ldg.outOfDate || decide (e.step ∈ d.ldg.releasedSeen)) ∧
        (e.groups = [] → e.images = [] → SameBytes s t)))

/-- On a chip on which nothing runs or waits, with measured energy within one eighth above the plan, a tick leaves both memories, the
fault state and the command queue as they are. The frame counter is 0 at the first tick and one more, modulo 2^48, at each later one; the
cycle and the stretch debt are 0; the debt of the frame that ended, the laser-feed microswitches, the input power and voltage, their
status, the inlet, the thermal margin and the hottest of the 37 sensors and, where a frame has ended, its planned and measured energy are
latched. A host write of TRK_ALLOC, DIR_ALLOC,
COW_ALLOC or REFILL_ALLOC that waited takes effect, with one journal entry where it changes the register. (R13, R15, R19, R24, R503, R504,
R546, R547) -/
def Obligations.AQuietTickAdvancesTheFrame : Prop :=
  ∀ (s : State) (o : TickObs),
    let d := s.dev
    let debt := d.frm.debt + (if d.pwr.droop then o.stretched else 0)
    let plan := d.pwr.plan.getD (energyLimit d.frameLen)
    let waits := fun (r : Reg) (v : Nat) => ∃ n, d.staged = [({ src := .host, addr := r.card.addr, value := v, pos := n } : StagedWrite)]
    let rs := [Reg.mntTrkAlloc, .ldgDirAlloc, .prtCowAlloc, .prtRefillAlloc]
    Quiet d → o.queueCheckFails = false → 8 * o.energy ≤ 9 * plan → o.temps.length = 37 → d.reg .pwrTherm < 2 ^ 32 →
      (d.staged = [] ∨ JournalRoom d 1 ∧ ∃ r ∈ rs, ∃ v, waits r v) →
      ∃ t, exec (.tick o) s = .next t ∧ SameBytes s t ∧ t.dev.flt = d.flt ∧
        t.dev.frm.frame = (if d.frm.started then (d.frm.frame + 1) % 2 ^ 48 else 0) ∧
        t.dev.frm.started = true ∧ t.dev.frm.cycle = 0 ∧ t.dev.frm.debt = 0 ∧ t.dev.staged = [] ∧
        t.dev.hst.seated = o.seated.toNat ∧ t.dev.regFld .frmStretch 0 16 = min 0xFFFF debt ∧ t.dev.reg .pwrInput = 2 ^ 16 * o.watts.toNat + o.volts.toNat ∧
        t.dev.regFld .pwrStatus 0 2 = inputCode o.volts.toNat ∧
        t.dev.reg .pwrTherm = 2 ^ 24 * o.inlet.toNat + 2 ^ 16 * wrap 8 (thermalMargin o.temps) + 2 ^ 8 * (hottestSensor o.temps).1 +
          (hottestSensor o.temps).2 ∧
        (d.frm.started = true → t.dev.reg .pwrEnergy = 2 ^ 16 * plan + min 0xFFFF o.energy) ∧
        ∀ r ∈ rs, ∀ v, waits r v → t.dev.reg r &&& r.card.rw = v &&& r.card.rw ∧
          (d.reg r &&& r.card.rw ≠ v &&& r.card.rw → Entered d t.dev 1 1)

/-- A committed HDM decoder takes its window, and a commit that would reach the end of device memory fails and decodes nothing. A host read
of a granule with no allocation that the host may read returns poison with notice 0x6030; a good one returns its 64 bytes, a corrected
one too, and an uncorrectable one raises notice 0x6020 and returns poison. A host write that is not allowed is dropped with 0x6030; one
without enabled bytes changes nothing; one into an ordinary allocation replaces the enabled bytes, and one into a ledger allocation
adds its whole entries, saturating, or raises 0x6030 for its parts. A snoop is answered with no data. (R524, R378, R379, R522, R364,
R365, R366, R367, R312) -/
def Obligations.HostReachesDeviceMemory : Prop :=
  (∀ (s : State) (i : Fin 2) (base size skip_ : Nat),
    let h := s.dev.hst
    let start := if i = 0 then skip_ else match h.hdm0 with
      | none => skip_
      | some m => m.start + m.size + skip_
    let put := fun (m : Option Hdm) (ok : Bool) => (.next { s with dev := { s.dev with
      hst := if i = 0 then { h with hdm0 := m } else { h with hdm1 := m }
      out := .commit ok :: s.dev.out } } : Host.Outcome State Fault Refusal)
    (start + 2 ^ 28 * size ≤ 0x9000000000 →
      exec (.hdmDecoderCommit i base size skip_) s = put (some { base := 2 ^ 28 * base, size := 2 ^ 28 * size, start := start }) true) ∧
    (0x9000000000 < start + 2 ^ 28 * size → exec (.hdmDecoderCommit i base size skip_) s = put none false)) ∧
  (∀ (s : State) (haddr errs : Nat),
    let d := s.dev
    (d.hostTarget haddr false = none → Room d 1 → ∃ t, exec (.cxlMemRead haddr errs) s = .next t ∧ SameBytes s t ∧ Waits t.dev 0x6030 37 0 ∧
      t.dev.out = .memData 0 true :: d.out) ∧
    (∀ x, d.hostTarget haddr false = some x → d.stk.poison = [] → d.stk.upsets = [] →
      let g := d.translate (d.alloc x.1) x.2 / 64
      let data := BitVec.ofNat 512 (leNat (s.rd (64 * g) 64))
      (errs = 0 → exec (.cxlMemRead haddr errs) s = .next { s with dev := { d with out := .memData data false :: d.out } }) ∧
      (g / 64 ∉ d.stk.zero →
        (1 ≤ errs → errs ≤ 3 → ∃ t, exec (.cxlMemRead haddr errs) s = .next t ∧ SameBytes s t ∧ t.dev.out = .memData data false :: d.out ∧
          ∀ k, stackOf (64 * g) = some k → g ∈ t.dev.stk.writeback ∧ t.dev.reg .memCe k = satAdd 32 (d.regFld .memCe 0 32 k) 1) ∧
        (4 ≤ errs → errs ≤ 5 → Room d 1 → ∃ t, exec (.cxlMemRead haddr errs) s = .next t ∧ SameBytes s t ∧
          Waits t.dev 0x6020 (25 + 64 * g / 0xC00000000) x.1 ∧ t.dev.out = .memData data true :: d.out)))) ∧
  (∀ (s : State) (haddr : Nat) (enables : BitVec 64) (data : BitVec 512) (poison : Bool),
    let d := s.dev
    let run := exec (.cxlMemWrite haddr enables data poison) s
    let done := fun (t : State) => ∃ l, t.dev.out = .memDone :: l
    (d.hostTarget haddr true = none → Room d 1 → ∃ t, run = .next t ∧ SameBytes s t ∧ Waits t.dev 0x6030 37 0 ∧ done t) ∧
    (∀ x, d.hostTarget haddr true = some x →
      let A := d.translate (d.alloc x.1) x.2
      (enables = 0 → run = .next { s with dev := { d with out := .memDone :: d.out } }) ∧
      (enables ≠ 0 → PlainMemory s → x.2 % 64 = 0 →
        ((d.alloc x.1).purpose ≠ 1 → ∃ t, run = .next t ∧ done t ∧ t.host = s.host ∧ t.dev.flt = d.flt ∧
          (∀ i < 64, t.byte (A + i) = if enables.getLsbD i then BitVec.ofNat 8 (fld data (8 * i) 8) else s.byte (A + i)) ∧
          (∀ p, OutsideBytes d x.1 x.2 64 p → t.byte p = s.byte p) ∧ (poison = true → A / 64 ∈ t.dev.stk.poison)) ∧
        ((d.alloc x.1).purpose = 1 → poison = false →
          (enables = BitVec.allOnes 64 → ∃ t, run = .next t ∧ done t ∧ t.host = s.host ∧
            (∀ j < 8, t.peek x.1 (x.2 + 8 * j) 8 =
              wrap 64 (sat64 (l64Value (s.peek x.1 (x.2 + 8 * j) 8) + l64Value (fld data (64 * j) 64))).1) ∧
            (∀ p, OutsideBytes d x.1 x.2 64 p → t.byte p = s.byte p)) ∧
          ((∀ j < 8, fld enables (8 * j) 8 ≠ 255) → Room d 1 → ∃ t, run = .next t ∧ done t ∧ SameBytes s t ∧ Waits t.dev 0x6030 37 0))))) ∧
  (∀ (s : State) (haddr : Nat) (kind : SnoopKind),
    exec (.hostSnoop haddr kind) s = .next { s with dev := { s.dev with out := .snoopMiss :: s.dev.out } })

/-- The scrubber of a stack that has not trained does nothing. Where the next granule lies under no zero mark, a good one only moves the
position on, and the last one ends the pass and counts it; a corrected one is noted for this pass and waits for its write-back, a
second time in a row it takes a spare row, and an uncorrectable one raises 0x6021. CORRECTED_WRITEBACK writes back the oldest corrected
granule of the stack that waits, which ends its errors. (R364, R365, R368, R369) -/
def Obligations.ScrubbersWalkTheirStacks : Prop :=
  ∀ (s : State) (stack : Fin 12),
    let d := s.dev
    let i := stack.val
    let pos := d.stk.scrub.getD i 0
    let g := 0x30000000 * i + pos
    let next := lmod d.stk.scrub i (fun _ => if pos + 1 < 0x30000000 then pos + 1 else 0)
    let n := tgetD d.stk.spares (16 * i + Config.dramDie g % 16) 0
    (∀ errs, d.hst.trained.testBit i = false → exec (.scrubRead stack errs) s = .next s) ∧
    (d.hst.trained.testBit i = true → pos < 0x30000000 → g / 64 ∉ d.stk.zero → g ∉ d.stk.poison → d.stk.upsets = [] →
      (pos + 1 < 0x30000000 → exec (.scrubRead stack 0) s = .next { s with dev := { d with stk := { d.stk with scrub := next } } }) ∧
      (pos + 1 = 0x30000000 → ∃ t, exec (.scrubRead stack 0) s = .next t ∧ SameBytes s t ∧ t.dev.stk.scrub = next ∧
        t.dev.regFld .memScrub 0 16 i = satAdd 16 (d.regFld .memScrub 0 16 i) 1 ∧
        ∀ k, stackOf (64 * k) = some i → (k ∈ t.dev.stk.corrected ↔ k ∈ d.stk.correctedNow) ∧ k ∉ t.dev.stk.correctedNow) ∧
      (∀ errs, pos + 1 < 0x30000000 → 1 ≤ errs → errs ≤ 3 → ∃ t, exec (.scrubRead stack errs) s = .next t ∧ SameBytes s t ∧
        t.dev.stk.scrub = next ∧ g ∈ t.dev.stk.correctedNow ∧
        (g ∉ d.stk.corrected → g ∈ t.dev.stk.writeback ∧ t.dev.stk.spares = d.stk.spares) ∧
        (g ∈ d.stk.corrected → n < 32 → tgetD t.dev.stk.spares (16 * i + Config.dramDie g % 16) 0 = n + 1 ∧ g ∉ t.dev.stk.writeback ∧
          tgetD t.dev.stk.upsets g 0 = 0 ∧ (n = 31 → Room d 1 → Waits t.dev 0x6024 (25 + i) i))) ∧
      (∀ errs, pos + 1 < 0x30000000 → 4 ≤ errs → errs ≤ 5 → Room d 1 → ∃ t, exec (.scrubRead stack errs) s = .next t ∧ SameBytes s t ∧
        t.dev.stk.scrub = next ∧ Waits t.dev 0x6021 (25 + i) i)) ∧
    ((∀ k ∈ d.stk.writeback, stackOf (64 * k) ≠ some i) → exec (.correctedWriteback stack) s = .next s) ∧
    (∀ l k r, d.stk.writeback = l ++ k :: r → (∀ x ∈ l, stackOf (64 * x) ≠ some i) → stackOf (64 * k) = some i →
      exec (.correctedWriteback stack) s = .next { s with dev := { d with stk := { d.stk with
        writeback := d.stk.writeback.filter (· ≠ k), upsets := tdel d.stk.upsets k } } })

/-- A vault message whose KIND is not its command's, or which is malformed, does nothing (the model's choice, log entry 50). A claim that
the vault partition cannot hold, or whose entry the access checks keep out of the directory, raises 0x8017 and is refused; a granted one
enters the directory, a new bay behind the others, and a bay that stays in place keeps the copies that it has room for (log entry 51). A
grant marks the bay of its partner. A block of a source without a bay, or with no room in it, is refused; the first block of a source lands
at the start of its bay, where it reads back, and nothing outside it changes; it is whole with its last part, when the parts before it are
there. A SEAL makes its held slot whole, or is answered as not held. A FETCH is answered with what is held, with this chip's own memory
while it serves the partner, or as not held; where the checks refuse the read it raises the access fault and is answered as not held. A
reply that no stream can carry waits. (R471, R472, R463, R466, R474, R476, R477, R483) -/
def Obligations.VaultPartnersAreServed : Prop :=
  ∀ (s : State) (stream : BitVec 12) (hdr : BitVec 512) (payload : List Byte),
    let d := s.dev
    let h := vaultHdr hdr
    let n := stream.toNat
    let p := (d.stream n).partner
    let reply := fun (refill : Bool) (x : VaultHdr) (b : List Byte) =>
      (.next { s with dev := d.vaultReply n refill x b } : Host.Outcome State Fault Refusal)
    (∀ c ∈ vaultRows stream hdr payload, (h.kind ≠ c.1 ∨ d.vaultOk n h payload = false) → exec c.2 s = .next s) ∧
    (∀ refill x b, d.prt.outbox = [] → d.vaultStream p (d.stream n).cls false = none →
      (d.vaultReply n refill x b).prt.outbox = [{ partner := p, cls := (d.stream n).cls, refill := refill, bytes := x.message b }]) ∧
    (d.vaultOk n h payload = true →
      (h.kind = 1 →
        (∀ a l, d.vaultAlloc = some a → claimBay (s.bays a) (d.alloc a).size h.source (leNat (payload.take 8)) = some l →
          let u := s.putBays a l
          let own := fun (m : List Bay) => m.find? (fun b => b.source = h.source)
          (u.bays a = l → (own (s.bays a) = none →
              exec (.bayClaim stream hdr payload) s = .next { u with dev := u.dev.vaultReply n false (h.reply 2 0) [] }) ∧
            (∀ was now, own (s.bays a) = some was → own l = some now → was.offset = now.offset → ∃ t, exec (.bayClaim stream hdr payload) s = .next t ∧
              SameBytes u t ∧ t.dev.prt.held = u.dev.prt.held.filter (fun x =>
                decide (x.src ≠ h.source) || x.grans.all (fun q => decide (64 * (q.2 + 1) ≤ now.size))))) ∧
          (u.bays a ≠ l → exec (.bayClaim stream hdr payload) s =
            .next { u with dev := (u.dev.raise 0x8017 24 0 0).vaultReply n false (h.reply 2 1) [] })) ∧
        ((d.vaultAlloc = none ∨ ∃ a, d.vaultAlloc = some a ∧
            claimBay (s.bays a) (d.alloc a).size h.source (leNat (payload.take 8)) = none) → Room d 1 →
          ∃ t, exec (.bayClaim stream hdr payload) s = .next t ∧ SameBytes s t ∧ Waits t.dev 0x8017 24 0 ∧ t.dev.prt.held = d.prt.held) ∧
        (∀ (l : List Bay) (cap src m : Nat), (∀ b ∈ l, b.source ≠ src) → l.length < 127 → bayEnd l + (m + 63) / 64 * 64 ≤ cap →
          claimBay l cap src m = some (l ++ [{ source := src, offset := bayEnd l, size := (m + 63) / 64 * 64, gen := 0 }]))) ∧
      (h.kind = 2 → h.item < 0xC000 → ∃ t, exec (.grant stream hdr payload) s = .next t ∧
        t = { s with dev := { d with prt := { d.prt with bays := t.dev.prt.bays } } } ∧
        ∀ b, tget d.prt.bays p = some b → tget t.dev.prt.bays p = some (b.1, decide (h.status = 0))) ∧
      (h.kind = 2 → 0xC000 ≤ h.item → d.prt.refill = none → exec (.grant stream hdr payload) s = .next s) ∧
      (∀ c ∈ [(3, Instr.shard stream hdr payload, h.shard), (4, .mirror stream hdr payload, 256 + h.shard), (7, .genRecord stream hdr payload, 0)],
        h.kind = c.1 →
        ((d.vaultAlloc = none ∨ ∃ a, d.vaultAlloc = some a ∧ ∀ b ∈ s.bays a, b.source ≠ h.source) →
          exec c.2.1 s = reply false (h.reply 6 1) []) ∧
        (∀ a bay, d.vaultAlloc = some a → (s.bays a).find? (fun b => b.source = h.source) = some bay → PlainMemory s → payload ≠ [] → bay.offset % 64 = 0 →
          (∀ x ∈ d.prt.held, x.src ≠ h.source) →
          let o := bay.offset + h.offset % 64
          let room := (h.offset % 64 + payload.length + 63) / 64 * 64
          (bay.size < room → ∃ t, exec c.2.1 s = .next t ∧ SameBytes s t) ∧
          (room ≤ bay.size → d.accessKind 5 a o payload.length true = none → ∃ t, exec c.2.1 s = .next t ∧ t.host = s.host ∧
            (∃ x ∈ t.dev.prt.held, x = { src := h.source, item := h.item, shard := c.2.2, gen := h.gen, step := h.step, grans := x.grans
                                         size := h.offset + payload.length
                                         whole := decide (c.1 ≠ 4 ∧ payload.length < 4096 ∧ h.offset < 64) } ∧
              ∀ i < payload.length, x.place bay (h.offset + i) = o + i) ∧
            (c.1 ≠ 7 → StoredBytes d a o payload t ∧ ∀ x, OutsideBytes d a o payload.length x → t.byte x = s.byte x)))) ∧
      (h.kind = 5 →
        (d.heldFind h.source h.item (256 + h.shard) h.gen = none → exec (.seal stream hdr payload) s = reply false (h.reply 6 3) []) ∧
        (∀ x, d.heldFind h.source h.item (256 + h.shard) h.gen = some x → ∃ t, exec (.seal stream hdr payload) s = .next t ∧ SameBytes s t ∧
          { x with whole := true, step := h.step, gen := h.gen } ∈ t.dev.prt.held)) ∧
      (h.kind = 8 →
        (h.k = 0 → h.shard = 0xF → h.item < 0xC000 →
          ((∀ f, d.prt.serving ≠ some (p, f)) → exec (.fetch stream hdr payload) s = reply true (h.reply 9 3) []) ∧
          (∀ f, d.prt.serving = some (p, f) → d.stk.poison = [] → d.stk.upsets = [] →
            let r := d.itemRange h.item h.step
            let m := min (min 4096 h.length) (r.2.2 - h.offset)
            d.accessKind 5 r.1 (r.2.1 + h.offset) m false = none →
            exec (.fetch stream hdr payload) s = reply true (h.reply 9 0) (s.peekBytes r.1 (r.2.1 + h.offset) m))) ∧
        (d.prt.held = [] → (h.k ≠ 0 ∨ h.shard ≠ 0xF ∨ 0xC000 ≤ h.item) →
          exec (.fetch stream hdr payload) s = reply true (h.reply 9 3) []) ∧
        (∀ x a bay, d.prt.held = [x] → h.k ≠ 0 → h.item < 0xC000 → x.src = h.source → x.item = h.item → x.shard = h.shard → x.gen = h.gen →
          x.whole = true → d.vaultAlloc = some a → (s.bays a).find? (fun b => b.source = x.src) = some bay →
          let parts := granPieces h.offset (min (min 4096 h.length) (x.size - h.offset))
          ((∀ q ∈ parts, d.accessKind 5 a (x.place bay q.1) q.2 false = none) → d.stk.poison = [] → d.stk.upsets = [] →
            exec (.fetch stream hdr payload) s = reply true { h.reply 9 0 with gen := x.gen, step := x.step }
              (parts.flatMap (fun q => s.peekBytes a (x.place bay q.1) q.2))) ∧
          (∀ q rest f, parts = q :: rest → d.accessKind 5 a (x.place bay q.1) q.2 false = some f → exec (.fetch stream hdr payload) s =
            .next { s with dev := (d.accessFault 0 5 a f false 24 (x.place bay q.1)).vaultReply n true (h.reply 9 3) [] }))))

/-- SHARD_SEND sends the next message of the snapshot that is in progress, or does nothing while it is not admitted or the chip stops; when
every item is safe it announces the generation records. MIRROR_BLOCK_SEND sends the next dirty block or the SEAL, after the program's own
sends of the frame. Where the checks refuse
their engine's read, the snapshot or the mirror is abandoned (the model's choice, log entry 69). A receipt enters its
shard, clears its block's dirty bit, seals a mirror, or completes the snapshot with 0x8010 at the last record. Fetched data joins a
restore, or is written home with its bit of the refill bitmap. REFILL_BEGIN announces a refill, is accepted or is refused; RESTORED
ends it. RESTORE_COMPLETE fails with 0x8032 or makes the chip ready, and RECONCILE_RESULT raises 0x8030 or 0x8031. (R126, R459, R463,
R466, R468, R474, R476, R478, R480, R481, R483, R485) -/
def Obligations.SnapshotsAndRefillsGoOn : Prop :=
  (∀ s : State,
    let d := s.dev
    (d.prt.outbox = [] →
      ((d.prt.snap = none ∨ d.flt.stop ≠ .running) → exec .shardSend s = .next s) ∧
      (∀ sn, d.prt.snap = some sn → d.flt.stop = .running →
        (∀ i x, sn.items.findIdx? (fun y => !y.sent && y.ready d) = some i → sn.items[i]? = some x →
          let read := s.engineRead x.alloc x.part.1 x.part.2 (some true)
          (d.prt.frozen = [] → d.stk.poison = [] → d.stk.upsets = [] → d.accessKind 5 x.alloc x.part.1 x.part.2 false = none →
            read = (some (s.peekBytes x.alloc x.part.1 x.part.2), s)) ∧
          (read.1 = none → exec .shardSend s = .next { read.2 with dev := read.2.dev.abandonSnapshot true }) ∧
          (∀ b, read.1 = some b →
            let m := x.message sn b
            let sent := (read.2.dev.vaultSend m.1 m.2.1 false m.2.2.1).1
            (sent = false → exec .shardSend s = .next s) ∧
            (sent = true → ∃ t, exec .shardSend s = .next t ∧ SameBytes s t ∧
              t.dev.prt.snap = some { sn with items := sn.items.set i m.2.2.2 } ∧
              (x.pinned = false → m.2.2.2 = if x.shard + 1 < x.k + 2 then { x with shard := x.shard + 1 } else { x with shard := 0, chunk := x.chunk + 1 })))) ∧
        ((∀ x ∈ sn.items, x.sent = true ∨ x.ready d = false) →
          ((sn.recorded = true ∨ ∃ x ∈ sn.items, x.safe = false) → exec .shardSend s = .next s) ∧
          (sn.recorded = false → (∀ x ∈ sn.items, x.safe = true) → sn.partners ≠ [] → ∃ t, exec .shardSend s = .next t ∧ SameBytes s t ∧
            t.dev.prt.snap = some { sn with recorded := true, awaiting := sn.partners }))) ∧
      (d.canIssue = true → exec .mirrorBlockSend s = .next s) ∧
      ((∀ m ∈ d.prt.mirrors, m.toSend = []) → (∀ m ∈ d.prt.mirrors, m.open_ = false ∨ m.sealSent = true ∨ m.inFlight ≠ []) →
        exec .mirrorBlockSend s = .next s) ∧
      (∀ m b rest, d.canIssue = false → d.prt.mirrors.find? (fun x => !x.toSend.isEmpty) = some m → m.toSend = b :: rest →
        let a := (d.tensor m.tensor).alloc
        let read := s.engineRead a (4096 * b) (min 4096 ((d.alloc a).size - 4096 * b)) (if m.open_ then some false else none)
        let hd : VaultHdr := { kind := 4, item := m.tensor, shard := 10 + m.target, k := (d.protGroup (d.tensor m.tensor).pgroup).rsK, step := d.prt.mirrorStep
                               source := Config.fingerprint.toNat, offset := 4096 * b }
        (read.1 = none → ∃ t, exec .mirrorBlockSend s = .next t ∧ SameBytes s t ∧
          (m.open_ = true → t = { read.2 with dev := read.2.dev.abandonMirror true (fun x => x.tensor = m.tensor) }) ∧
          (m.open_ = false → t.dev.prt.mirrors = d.prt.mirrors.map (fun x => if x.tensor = m.tensor then { x with toSend := [] } else x))) ∧
        (∀ bytes, read.1 = some bytes →
          let go := (read.2.dev.vaultSend m.partner 4 false (hd.message bytes)).1
          (go = false → exec .mirrorBlockSend s = .next s) ∧
          (go = true → ∃ t, exec .mirrorBlockSend s = .next t ∧ SameBytes s t ∧ t.dev.prt.mirrors = d.prt.mirrors.map (fun x =>
            if x.tensor = m.tensor then { x with toSend := x.toSend.drop 1, inFlight := sinsert x.inFlight b } else x))))) ∧
    (d.prt.refill = none → exec .restoreComplete s = .next s) ∧
    (∀ r, d.prt.refill = some r →
      let es := d.protGroups.flatMap (fun g => recordList (r.record g r.gen))
      ((r.restore = false ∨ r.wants ≠ []) → exec .restoreComplete s = .next s) ∧
      (r.restore = true → r.wants = [] →
        ((r.chosen = false ∨ ∃ e ∈ es, r.image e = none) → Room d 1 → ∃ t, exec .restoreComplete s = .next t ∧ SameBytes s t ∧
          t.dev.prt.refill = none ∧ t.dev.prt.refillState = 4 ∧ Waits t.dev 0x8032 24 0) ∧
        (r.chosen = true → es = [] → ∃ t, exec .restoreComplete s = .next t ∧ SameBytes s t ∧ t.dev.prt.refill = none ∧
          t.dev.prt.refillState = 3 ∧ t.dev.prt.ready = true ∧ t.dev.prt.restoredFor = some (r.fp, 64)) ∧
        (∀ e b u g, r.chosen = true → d.protGroups = [g] → es = [e] → r.image e = some b →
          s.putImage (d.itemRange e.item (recordStep (r.record g r.gen))).1 (d.itemRange e.item (recordStep (r.record g r.gen))).2.1 b = (true, u) →
          exec .restoreComplete s = .next { u with dev := { u.dev with prt := { u.dev.prt with
            refill := none, refillState := 3, ready := true, restoredFor := some (r.fp, 64), rewind := decide (0x4000 ≤ e.item), homeDigest := e.home } } }))) ∧
    (d.prt.reconcile = none → exec .reconcileResult s = .next s) ∧
    (∀ r, d.prt.reconcile = some r →
      let x := s.reconcileChecks r.1 r.2
      (s.dirValid (d.regFld .ldgDirAlloc 0 12) = false ∨ s.trackerOk (d.regFld .mntTrkAlloc 0 12) = false → x = (5, s)) ∧
      (Room x.2.dev 1 → ∃ t, exec .reconcileResult s = .next t ∧ t.dev.prt.reconcile = none ∧ t.dev.prt.reconCheck = x.1 ∧ SameBytes x.2 t ∧
        (x.1 = 0 → Waits t.dev 0x8030 24 0 ∧ t.dev.prt.recon = 1 ∧ t.dev.prt.ready = false ∧ t.dev.prt.passed = true ∧
          t.dev.ldg.outOfDate = false) ∧
        (x.1 ≠ 0 → Waits t.dev 0x8031 24 0 ∧ t.dev.prt.recon = 2 ∧ t.dev.prt.ready = x.2.dev.prt.ready)))) ∧
  ∀ (s : State) (stream : BitVec 12) (hdr : BitVec 512) (payload : List Byte),
    let d := s.dev
    let h := vaultHdr hdr
    let p := (d.stream stream.toNat).partner
    let cls := (d.stream stream.toNat).cls
    d.vaultOk stream.toNat h payload = true →
      (h.kind = 6 →
        let run := exec (.receipt stream hdr payload) s
        (h.status ≠ 0 → run = .next s) ∧
        (h.status = 0 →
          (d.prt.snap = none → (0xC000 ≤ h.item ∨ cls = 3) → run = .next s) ∧
          (∀ sn, d.prt.snap = some sn →
            (h.gen ≠ sn.gen → (0xC000 ≤ h.item ∨ cls = 3) → run = .next s) ∧
            (h.gen = sn.gen → h.item < 0xC000 → cls = 3 → run = .next { s with dev := { d with prt := { d.prt with snap := some { sn with
              items := sn.items.map (fun x => if x.item = h.item ∧ x.pinned = false ∧ x.places.getD h.shard 0xFF = p then
                { x with receipts := sinsert x.receipts h.shard } else x) } } } }) ∧
            (h.gen = sn.gen → 0xC000 ≤ h.item →
              let left := sn.awaiting.filter (fun x => x ≠ (h.item - 0xC000, p))
              ((sn.recorded = false ∨ left ≠ []) → run = .next { s with dev := { d with prt := { d.prt with snap := some { sn with awaiting := left } } } }) ∧
              (sn.recorded = true → left = [] → Room d 1 → ∃ t, run = .next t ∧ SameBytes s t ∧ Waits t.dev 0x8010 24 0 ∧ t.dev.prt.snap = none ∧
                t.dev.prt.snapState = 2 ∧ t.dev.prt.age = 0 ∧ t.dev.pair .prtSnapStepLo .prtSnapStepHi = sn.step % 2 ^ 64))) ∧
          (∀ m, h.item < 0xC000 → cls = 4 → h.shard ≠ 0xC → d.prt.mirrors.find? (fun x => decide (x.tensor = h.item ∧ x.partner = p)) = some m →
            let a := (d.tensor m.tensor).alloc
            (h.offset < (d.alloc a).size → ∃ t, run = .next t ∧ SameBytes s t ∧
              (tgetD t.dev.prt.dirty (2 ^ 28 * a + h.offset / 4096) 0).testBit (h.shard - 10) = false ∧
              ∀ y ∈ t.dev.prt.mirrors, y.tensor = m.tensor → h.offset / 4096 ∉ y.inFlight) ∧
            ((d.alloc a).size ≤ h.offset → m.open_ = true → m.sealSent = true → h.shard - 10 = m.target → ∃ t, run = .next t ∧ SameBytes s t ∧
              t.dev.prt.mirrorSealed = satAdd 16 d.prt.mirrorSealed 1 ∧
              ∀ y ∈ t.dev.prt.mirrors, y.tensor = m.tensor → y.open_ = false ∧ y.sealedStep = some h.step)))) ∧
      (h.kind = 9 →
        let run := exec (.fetchData stream hdr payload) s
        (d.prt.refill = none → run = .next s) ∧
        (∀ r, d.prt.refill = some r →
          (∀ w rest, r.restore = true → r.wants = w :: rest → r.asked = true → h.item = w.item → h.shard = w.shard → h.offset = w.got.length →
            h.status = 0 → w.size ≠ 0 → payload ≠ [] → w.size ≤ (w.got ++ payload).length → ∃ t q, run = .next t ∧ SameBytes s t ∧
              t.dev.prt.refill = some q ∧ q.shards = r.shards ++ [(w.item, if w.pinned then 256 + 0xC else w.shard, (w.got ++ payload).take w.size)] ∧
              (∀ v l, rest = v :: l → v.tries.head?.any d.usable = true → q.wants = rest)) ∧
          (∀ x, r.restore = false → refillAt r.items (s.refillPos r) = some x →
            let pos := s.refillPos r
            let o := x.1.base + 4096 * x.2
            let bit := d.translate (d.alloc d.refillAlloc) (pos / 8)
            (r.asked = false → run = .next s) ∧
            (r.asked = true → h.item = x.1.item → h.shard = x.1.via → h.offset = 4096 * x.2 → x.1.via = homeShard →
              (h.status ≠ 0 ∨ payload.length ≠ min 4096 (x.1.size - 4096 * x.2)) → run = .next { s with dev := d.askSource true }) ∧
            (r.asked = true → h.item = x.1.item → h.shard = x.1.via → h.offset = 4096 * x.2 → h.status = 0 → PlainMemory s →
              payload.length = min 4096 (x.1.size - 4096 * x.2) →
              d.accessKind 5 x.1.alloc o payload.length true = none → d.accessKind 5 d.refillAlloc (pos / 8) 1 true = none →
              OutsideBytes d x.1.alloc o payload.length bit → ∃ t, run = .next t ∧ t.host = s.host ∧ StoredBytes d x.1.alloc o payload t ∧
                (t.byte bit).toNat.testBit (pos % 8) = true ∧
                ∀ q, q ≠ bit → OutsideBytes d x.1.alloc o payload.length q → t.byte q = s.byte q)))) ∧
      (h.kind = 10 →
        let run := exec (.refillBegin stream hdr payload) s
        (payload.length = 8 → ∃ t, run = .next t ∧ SameBytes s t ∧ t.dev.prt.announced = (leNat payload, h.source) :: d.prt.announced) ∧
        (payload.length ≠ 8 →
          ((d.seq.run ≠ none ∨ d.ldg.state ≠ .idle ∨ d.cht.active = none ∨ payload ≠ d.sectionDigests ∨
              ∃ x, d.prt.serving = some x ∧ x.1 ≠ p) →
            run = .next { s with dev := d.vaultReply stream.toNat true (h.reply 2 3) [] }) ∧
          (d.seq.run = none → d.ldg.state = .idle → d.cht.active ≠ none → payload = d.sectionDigests →
            (∀ x, d.prt.serving = some x → x.1 = p) → ∃ t, run = .next t ∧ SameBytes s t ∧ t.dev.prt.serving = some (p, h.source) ∧
              t.dev.prt.refillState = 2))) ∧
      (h.kind = 11 → ∃ t, exec (.restored stream hdr payload) s = .next t ∧ SameBytes s t ∧
        (∀ x ∈ t.dev.prt.announced, x.2 ≠ h.source) ∧ (∀ x ∈ t.dev.prt.lost, p ∉ x.2) ∧ p ∉ t.dev.prt.stale ∧
        (∀ q, d.prt.serving = some (q, h.source) → t.dev.prt.serving = none ∧ t.dev.prt.refillState = 0))
end

