-- ==== Sys2Proof/Laws/Memory.lean ====
section
/-! SUPPORT. The byte memories: every operation keeps the canonical form, a write is read back, and it leaves every other byte alone. The
tables keyed by a number obey the same laws. -/

namespace Sys2Proof.Machine

/-! ### The canonical form -/

theorem Memory.wfFrom_cons (k : Nat) (b : Byte) (r : Memory) (lo : Nat) :
    Memory.wfFrom ((k, b) :: r) lo = true ↔ lo ≤ k ∧ b ≠ Memory.blank ∧ Memory.wfFrom r (k + 1) = true := by
  simp [Memory.wfFrom, and_assoc]

theorem Memory.wfFrom_mono {m : Memory} {lo hi : Nat} (h : lo ≤ hi) (w : m.wfFrom hi = true) : m.wfFrom lo = true := by
  cases m with
  | nil => rfl
  | cons c r =>
    obtain ⟨k, b⟩ := c
    rw [Memory.wfFrom_cons] at *
    exact ⟨by omega, w.2⟩

theorem Memory.wfFrom_set {m : Memory} {lo a : Nat} (b : Byte) (w : m.wfFrom lo = true) (h : lo ≤ a) : (m.set a b).wfFrom lo = true := by
  induction m generalizing lo with
  | nil => by_cases hb : b = Memory.blank <;> simp [Memory.set, Memory.wfFrom, hb, h]
  | cons c r ih =>
    obtain ⟨k, x⟩ := c
    have w' := w
    rw [Memory.wfFrom_cons] at w'
    simp only [Memory.set]
    split
    · split
      · exact w
      · rename_i hk hb
        rw [Memory.wfFrom_cons]
        exact ⟨h, hb, by rw [Memory.wfFrom_cons]; exact ⟨by omega, w'.2⟩⟩
    · split
      · split
        · exact Memory.wfFrom_mono (by omega) w'.2.2
        · rename_i hk he hb
          rw [Memory.wfFrom_cons]
          exact ⟨h, hb, he ▸ w'.2.2⟩
      · rw [Memory.wfFrom_cons]
        exact ⟨w'.1, w'.2.1, ih w'.2.2 (by omega)⟩

theorem Memory.wf_set {m : Memory} (a : Nat) (b : Byte) (w : m.wf = true) : (m.set a b).wf = true :=
  Memory.wfFrom_set b w (Nat.zero_le a)

theorem Memory.wf_write {m : Memory} (a : Nat) (b : List Byte) (w : m.wf = true) : (m.write a b).wf = true := by
  induction b generalizing m a with
  | nil => exact w
  | cons x r ih => exact ih (a + 1) (Memory.wf_set a x w)

theorem Memory.wfFrom_filter {m : Memory} {lo : Nat} (p : Nat × Byte → Bool) (w : m.wfFrom lo = true) :
    Memory.wfFrom (m.filter p) lo = true := by
  induction m generalizing lo with
  | nil => rfl
  | cons c r ih =>
    obtain ⟨k, b⟩ := c
    rw [Memory.wfFrom_cons] at w
    rw [List.filter_cons]
    split
    · rw [Memory.wfFrom_cons]
      exact ⟨w.1, w.2.1, ih w.2.2⟩
    · exact Memory.wfFrom_mono (by omega) (ih w.2.2)

theorem Memory.wf_filter {m : Memory} (p : Nat × Byte → Bool) (w : m.wf = true) : Memory.wf (m.filter p) = true :=
  Memory.wfFrom_filter p w

theorem Memory.wf_erase {m : Memory} (lo hi : Nat) (w : m.wf = true) : (m.erase lo hi).wf = true := Memory.wf_filter _ w

theorem reset_memory_wf : State.reset.mem.wf = true ∧ State.reset.host.wf = true := ⟨rfl, rfl⟩

/-! ### Reads after writes -/

theorem Memory.get_below {m : Memory} {lo a : Nat} (w : m.wfFrom lo = true) (h : a < lo) : m.get a = Memory.blank := by
  cases m with
  | nil => rfl
  | cons c r =>
    obtain ⟨k, b⟩ := c
    rw [Memory.wfFrom_cons] at w
    simp [Memory.get, show a < k by omega]

theorem Memory.get_set_same {m : Memory} {lo : Nat} (a : Nat) (b : Byte) (w : m.wfFrom lo = true) : (m.set a b).get a = b := by
  induction m generalizing lo with
  | nil => by_cases hb : b = Memory.blank <;> simp [Memory.set, Memory.get, hb]
  | cons c r ih =>
    obtain ⟨k, x⟩ := c
    rw [Memory.wfFrom_cons] at w
    simp only [Memory.set]
    split
    · rename_i hk
      split
      · rename_i hb; simp [Memory.get, hk, hb]
      · simp [Memory.get]
    · split
      · rename_i hk he
        subst he
        split
        · rename_i hb; rw [hb]; exact Memory.get_below w.2.2 (by omega)
        · simp [Memory.get]
      · rename_i hk he
        simp only [Memory.get, hk, he, if_false]
        exact ih w.2.2

theorem Memory.get_set_other {m : Memory} {lo : Nat} (a c : Nat) (b : Byte) (w : m.wfFrom lo = true) (h : c ≠ a) :
    (m.set a b).get c = m.get c := by
  induction m generalizing lo with
  | nil =>
    by_cases hb : b = Memory.blank
    · simp [Memory.set, hb]
    · simp only [Memory.set, hb, if_false, Memory.get]
      split
      · rfl
      · simp
  | cons x r ih =>
    obtain ⟨k, y⟩ := x
    rw [Memory.wfFrom_cons] at w
    simp only [Memory.set]
    split
    · rename_i hk
      split
      · rfl
      · by_cases hc : c < a
        · simp [Memory.get, hc, show c < k by omega]
        · simp [Memory.get, hc, h]
    · split
      · rename_i hk he
        subst he
        split
        · by_cases hc : c < a
          · simp [Memory.get, hc, Memory.get_below w.2.2 (show c < a + 1 by omega)]
          · simp [Memory.get, hc, h]
        · simp [Memory.get, h]
      · rename_i hk he
        simp only [Memory.get]
        rw [ih w.2.2]

theorem Memory.get_write_outside {m : Memory} (a : Nat) (b : List Byte) (c : Nat) (w : m.wf = true) (h : c < a ∨ a + b.length ≤ c) :
    (m.write a b).get c = m.get c := by
  induction b generalizing m a with
  | nil => rfl
  | cons x r ih =>
    simp only [List.length_cons] at h
    rw [Memory.write, ih (a + 1) (Memory.wf_set a x w) (by omega)]
    exact Memory.get_set_other a c x w (by omega)

theorem Memory.get_write_inside {m : Memory} (a : Nat) (b : List Byte) (i : Nat) (w : m.wf = true) (h : i < b.length) :
    (m.write a b).get (a + i) = b.getD i 0 := by
  induction b generalizing m a i with
  | nil => simp at h
  | cons x r ih =>
    rw [Memory.write]
    cases i with
    | zero =>
      have e := Memory.get_write_outside (a + 1) r a (Memory.wf_set a x w) (by omega)
      simpa [e] using Memory.get_set_same a x w
    | succ i =>
      have h' : i < r.length := by simpa using h
      have e : a + (i + 1) = a + 1 + i := by omega
      rw [e, ih (a + 1) i (Memory.wf_set a x w) h']
      simp

theorem Memory.get_erase {m : Memory} {lo : Nat} (l u a : Nat) (w : m.wfFrom lo = true) :
    (m.erase l u).get a = if l ≤ a ∧ a < u then Memory.blank else m.get a := by
  induction m generalizing lo with
  | nil => simp [Memory.erase, Memory.get]
  | cons c r ih =>
    obtain ⟨k, b⟩ := c
    rw [Memory.wfFrom_cons] at w
    have i := ih w.2.2
    unfold Memory.erase at i ⊢
    by_cases hk : k < l ∨ u ≤ k
    · rw [List.filter_cons_of_pos (by simpa using hk)]
      simp only [Memory.get]
      rw [i]
      split
      · rename_i h1; split <;> rfl
      · split
        · rename_i h1 h2; subst h2; rw [if_neg (by omega)]
        · rfl
    · rw [List.filter_cons_of_neg (by simpa using hk), i]
      simp only [Memory.get]
      by_cases hr : l ≤ a ∧ a < u
      · simp [hr]
      · rw [if_neg hr, if_neg hr]
        split
        · exact Memory.get_below w.2.2 (by omega)
        · rw [if_neg (by omega)]

/-! ### Tables keyed by a number -/

@[simp] theorem tget_tput_same {α : Type} (t : List (Nat × α)) (k : Nat) (a : α) : tget (tput t k a) k = some a := by
  induction t with
  | nil => simp [tput, tget]
  | cons x r ih =>
    obtain ⟨j, b⟩ := x
    simp only [tput]
    split
    · simp [tget]
    · split
      · simp [tget]
      · rename_i h1 h2
        simp [tget, show j ≠ k from fun e => h2 e.symm, ih]

theorem tget_tput_other {α : Type} (t : List (Nat × α)) (k j : Nat) (a : α) (h : j ≠ k) : tget (tput t k a) j = tget t j := by
  induction t with
  | nil => simp [tput, tget, Ne.symm h]
  | cons x r ih =>
    obtain ⟨i, b⟩ := x
    simp only [tput]
    split
    · simp [tget, Ne.symm h]
    · split
      · rename_i h1 h2; subst h2; simp [tget, Ne.symm h]
      · simp [tget, ih]

@[simp] theorem tgetD_tput_same {α : Type} (t : List (Nat × α)) (k : Nat) (a d : α) : tgetD (tput t k a) k d = a := by simp [tgetD]

theorem tgetD_tput_other {α : Type} (t : List (Nat × α)) (k j : Nat) (a d : α) (h : j ≠ k) : tgetD (tput t k a) j d = tgetD t j d := by
  simp [tgetD, tget_tput_other t k j a h]

theorem tget_tdel {α : Type} (t : List (Nat × α)) (k j : Nat) : tget (tdel t k) j = if j = k then none else tget t j := by
  induction t with
  | nil => simp [tdel, tget]
  | cons x r ih =>
    obtain ⟨i, b⟩ := x
    unfold tdel at ih ⊢
    by_cases h : i = k
    · subst h
      rw [List.filter_cons_of_neg (by simp), ih]
      by_cases e : j = i
      · simp [e]
      · simp [tget, e, Ne.symm e]
    · rw [List.filter_cons_of_pos (by simpa using h)]
      simp only [tget, ih]
      by_cases e : i = j
      · subst e; simp [h]
      · simp [e]

theorem mem_sinsert (l : List Nat) (k x : Nat) : x ∈ sinsert l k ↔ x = k ∨ x ∈ l := by
  induction l with
  | nil => simp [sinsert]
  | cons j r ih =>
    simp only [sinsert]
    split
    · simp
    · split
      · rename_i h1 h2; subst h2; simp
      · simp only [List.mem_cons, ih]
        exact or_left_comm

/-! ### Registers -/

@[simp] theorem Dev.reg_setReg_same (d : Dev) (r : Reg) (v i : Nat) : (d.setReg r v i).reg r i = v % 2 ^ 32 := by
  simp [Dev.reg, Dev.setReg]

theorem Dev.reg_setReg_other (d : Dev) (r q : Reg) (v i j : Nat) (h : q.card.at j ≠ r.card.at i) :
    (d.setReg r v i).reg q j = d.reg q j := by
  simp [Dev.reg, Dev.setReg, tgetD_tput_other _ _ _ _ _ h]

end Sys2Proof.Machine
end

