-- ==== Sys2Proof/Laws/State.lean ====
section
/-! SUPPORT. What each update of the state leaves as it is, one lemma for each field, so that no proof unfolds a record update. -/

namespace Sys2Proof.Machine

variable (d : Dev)

@[simp] theorem Dev.setReg_latched (r : Reg) (v i : Nat) : (d.setReg r v i).latched = d.latched := rfl
@[simp] theorem Dev.setReg_lowWords (r : Reg) (v i : Nat) : (d.setReg r v i).lowWords = d.lowWords := rfl
@[simp] theorem Dev.setReg_staged (r : Reg) (v i : Nat) : (d.setReg r v i).staged = d.staged := rfl
@[simp] theorem Dev.setReg_frm (r : Reg) (v i : Nat) : (d.setReg r v i).frm = d.frm := rfl
@[simp] theorem Dev.setReg_seq (r : Reg) (v i : Nat) : (d.setReg r v i).seq = d.seq := rfl
@[simp] theorem Dev.setReg_cht (r : Reg) (v i : Nat) : (d.setReg r v i).cht = d.cht := rfl
@[simp] theorem Dev.setReg_flt (r : Reg) (v i : Nat) : (d.setReg r v i).flt = d.flt := rfl
@[simp] theorem Dev.setReg_hst (r : Reg) (v i : Nat) : (d.setReg r v i).hst = d.hst := rfl
@[simp] theorem Dev.setReg_stk (r : Reg) (v i : Nat) : (d.setReg r v i).stk = d.stk := rfl
@[simp] theorem Dev.setReg_mnt (r : Reg) (v i : Nat) : (d.setReg r v i).mnt = d.mnt := rfl
@[simp] theorem Dev.setReg_pwr (r : Reg) (v i : Nat) : (d.setReg r v i).pwr = d.pwr := rfl
@[simp] theorem Dev.setReg_sec (r : Reg) (v i : Nat) : (d.setReg r v i).sec = d.sec := rfl
@[simp] theorem Dev.setReg_obs (r : Reg) (v i : Nat) : (d.setReg r v i).obs = d.obs := rfl
@[simp] theorem Dev.setReg_fwd (r : Reg) (v i : Nat) : (d.setReg r v i).fwd = d.fwd := rfl
@[simp] theorem Dev.setReg_prt (r : Reg) (v i : Nat) : (d.setReg r v i).prt = d.prt := rfl
@[simp] theorem Dev.setReg_lay (r : Reg) (v i : Nat) : (d.setReg r v i).lay = d.lay := rfl
@[simp] theorem Dev.setReg_bwd (r : Reg) (v i : Nat) : (d.setReg r v i).bwd = d.bwd := rfl
@[simp] theorem Dev.setReg_row (r : Reg) (v i : Nat) : (d.setReg r v i).row = d.row := rfl
@[simp] theorem Dev.setReg_ldg (r : Reg) (v i : Nat) : (d.setReg r v i).ldg = d.ldg := rfl
@[simp] theorem Dev.setReg_lnk (r : Reg) (v i : Nat) : (d.setReg r v i).lnk = d.lnk := rfl
@[simp] theorem Dev.setReg_engines (r : Reg) (v i : Nat) : (d.setReg r v i).engines = d.engines := rfl
@[simp] theorem Dev.setReg_out (r : Reg) (v i : Nat) : (d.setReg r v i).out = d.out := rfl
@[simp] theorem Dev.setReg_free (r : Reg) (v i : Nat) : (d.setReg r v i).free = d.free := rfl

@[simp] theorem Dev.setFld_latched (r : Reg) (lo len x i : Nat) : (d.setFld r lo len x i).latched = d.latched := rfl
@[simp] theorem Dev.setFld_lowWords (r : Reg) (lo len x i : Nat) : (d.setFld r lo len x i).lowWords = d.lowWords := rfl
@[simp] theorem Dev.setFld_staged (r : Reg) (lo len x i : Nat) : (d.setFld r lo len x i).staged = d.staged := rfl
@[simp] theorem Dev.setFld_frm (r : Reg) (lo len x i : Nat) : (d.setFld r lo len x i).frm = d.frm := rfl
@[simp] theorem Dev.setFld_seq (r : Reg) (lo len x i : Nat) : (d.setFld r lo len x i).seq = d.seq := rfl
@[simp] theorem Dev.setFld_cht (r : Reg) (lo len x i : Nat) : (d.setFld r lo len x i).cht = d.cht := rfl
@[simp] theorem Dev.setFld_flt (r : Reg) (lo len x i : Nat) : (d.setFld r lo len x i).flt = d.flt := rfl
@[simp] theorem Dev.setFld_hst (r : Reg) (lo len x i : Nat) : (d.setFld r lo len x i).hst = d.hst := rfl
@[simp] theorem Dev.setFld_stk (r : Reg) (lo len x i : Nat) : (d.setFld r lo len x i).stk = d.stk := rfl
@[simp] theorem Dev.setFld_mnt (r : Reg) (lo len x i : Nat) : (d.setFld r lo len x i).mnt = d.mnt := rfl
@[simp] theorem Dev.setFld_pwr (r : Reg) (lo len x i : Nat) : (d.setFld r lo len x i).pwr = d.pwr := rfl
@[simp] theorem Dev.setFld_sec (r : Reg) (lo len x i : Nat) : (d.setFld r lo len x i).sec = d.sec := rfl
@[simp] theorem Dev.setFld_obs (r : Reg) (lo len x i : Nat) : (d.setFld r lo len x i).obs = d.obs := rfl
@[simp] theorem Dev.setFld_fwd (r : Reg) (lo len x i : Nat) : (d.setFld r lo len x i).fwd = d.fwd := rfl
@[simp] theorem Dev.setFld_prt (r : Reg) (lo len x i : Nat) : (d.setFld r lo len x i).prt = d.prt := rfl
@[simp] theorem Dev.setFld_lay (r : Reg) (lo len x i : Nat) : (d.setFld r lo len x i).lay = d.lay := rfl
@[simp] theorem Dev.setFld_bwd (r : Reg) (lo len x i : Nat) : (d.setFld r lo len x i).bwd = d.bwd := rfl
@[simp] theorem Dev.setFld_row (r : Reg) (lo len x i : Nat) : (d.setFld r lo len x i).row = d.row := rfl
@[simp] theorem Dev.setFld_ldg (r : Reg) (lo len x i : Nat) : (d.setFld r lo len x i).ldg = d.ldg := rfl
@[simp] theorem Dev.setFld_lnk (r : Reg) (lo len x i : Nat) : (d.setFld r lo len x i).lnk = d.lnk := rfl
@[simp] theorem Dev.setFld_engines (r : Reg) (lo len x i : Nat) : (d.setFld r lo len x i).engines = d.engines := rfl
@[simp] theorem Dev.setFld_out (r : Reg) (lo len x i : Nat) : (d.setFld r lo len x i).out = d.out := rfl
@[simp] theorem Dev.setFld_free (r : Reg) (lo len x i : Nat) : (d.setFld r lo len x i).free = d.free := rfl

@[simp] theorem Dev.bumpFld_latched (r : Reg) (lo len n i : Nat) : (d.bumpFld r lo len n i).latched = d.latched := rfl
@[simp] theorem Dev.bumpFld_lowWords (r : Reg) (lo len n i : Nat) : (d.bumpFld r lo len n i).lowWords = d.lowWords := rfl
@[simp] theorem Dev.bumpFld_staged (r : Reg) (lo len n i : Nat) : (d.bumpFld r lo len n i).staged = d.staged := rfl
@[simp] theorem Dev.bumpFld_frm (r : Reg) (lo len n i : Nat) : (d.bumpFld r lo len n i).frm = d.frm := rfl
@[simp] theorem Dev.bumpFld_seq (r : Reg) (lo len n i : Nat) : (d.bumpFld r lo len n i).seq = d.seq := rfl
@[simp] theorem Dev.bumpFld_cht (r : Reg) (lo len n i : Nat) : (d.bumpFld r lo len n i).cht = d.cht := rfl
@[simp] theorem Dev.bumpFld_flt (r : Reg) (lo len n i : Nat) : (d.bumpFld r lo len n i).flt = d.flt := rfl
@[simp] theorem Dev.bumpFld_hst (r : Reg) (lo len n i : Nat) : (d.bumpFld r lo len n i).hst = d.hst := rfl
@[simp] theorem Dev.bumpFld_stk (r : Reg) (lo len n i : Nat) : (d.bumpFld r lo len n i).stk = d.stk := rfl
@[simp] theorem Dev.bumpFld_mnt (r : Reg) (lo len n i : Nat) : (d.bumpFld r lo len n i).mnt = d.mnt := rfl
@[simp] theorem Dev.bumpFld_pwr (r : Reg) (lo len n i : Nat) : (d.bumpFld r lo len n i).pwr = d.pwr := rfl
@[simp] theorem Dev.bumpFld_sec (r : Reg) (lo len n i : Nat) : (d.bumpFld r lo len n i).sec = d.sec := rfl
@[simp] theorem Dev.bumpFld_obs (r : Reg) (lo len n i : Nat) : (d.bumpFld r lo len n i).obs = d.obs := rfl
@[simp] theorem Dev.bumpFld_fwd (r : Reg) (lo len n i : Nat) : (d.bumpFld r lo len n i).fwd = d.fwd := rfl
@[simp] theorem Dev.bumpFld_prt (r : Reg) (lo len n i : Nat) : (d.bumpFld r lo len n i).prt = d.prt := rfl
@[simp] theorem Dev.bumpFld_lay (r : Reg) (lo len n i : Nat) : (d.bumpFld r lo len n i).lay = d.lay := rfl
@[simp] theorem Dev.bumpFld_bwd (r : Reg) (lo len n i : Nat) : (d.bumpFld r lo len n i).bwd = d.bwd := rfl
@[simp] theorem Dev.bumpFld_row (r : Reg) (lo len n i : Nat) : (d.bumpFld r lo len n i).row = d.row := rfl
@[simp] theorem Dev.bumpFld_ldg (r : Reg) (lo len n i : Nat) : (d.bumpFld r lo len n i).ldg = d.ldg := rfl
@[simp] theorem Dev.bumpFld_lnk (r : Reg) (lo len n i : Nat) : (d.bumpFld r lo len n i).lnk = d.lnk := rfl
@[simp] theorem Dev.bumpFld_engines (r : Reg) (lo len n i : Nat) : (d.bumpFld r lo len n i).engines = d.engines := rfl
@[simp] theorem Dev.bumpFld_out (r : Reg) (lo len n i : Nat) : (d.bumpFld r lo len n i).out = d.out := rfl
@[simp] theorem Dev.bumpFld_free (r : Reg) (lo len n i : Nat) : (d.bumpFld r lo len n i).free = d.free := rfl

@[simp] theorem Dev.setPair_latched (a b : Reg) (v i : Nat) : (d.setPair a b v i).latched = d.latched := rfl
@[simp] theorem Dev.setPair_lowWords (a b : Reg) (v i : Nat) : (d.setPair a b v i).lowWords = d.lowWords := rfl
@[simp] theorem Dev.setPair_staged (a b : Reg) (v i : Nat) : (d.setPair a b v i).staged = d.staged := rfl
@[simp] theorem Dev.setPair_frm (a b : Reg) (v i : Nat) : (d.setPair a b v i).frm = d.frm := rfl
@[simp] theorem Dev.setPair_seq (a b : Reg) (v i : Nat) : (d.setPair a b v i).seq = d.seq := rfl
@[simp] theorem Dev.setPair_cht (a b : Reg) (v i : Nat) : (d.setPair a b v i).cht = d.cht := rfl
@[simp] theorem Dev.setPair_flt (a b : Reg) (v i : Nat) : (d.setPair a b v i).flt = d.flt := rfl
@[simp] theorem Dev.setPair_hst (a b : Reg) (v i : Nat) : (d.setPair a b v i).hst = d.hst := rfl
@[simp] theorem Dev.setPair_stk (a b : Reg) (v i : Nat) : (d.setPair a b v i).stk = d.stk := rfl
@[simp] theorem Dev.setPair_mnt (a b : Reg) (v i : Nat) : (d.setPair a b v i).mnt = d.mnt := rfl
@[simp] theorem Dev.setPair_pwr (a b : Reg) (v i : Nat) : (d.setPair a b v i).pwr = d.pwr := rfl
@[simp] theorem Dev.setPair_sec (a b : Reg) (v i : Nat) : (d.setPair a b v i).sec = d.sec := rfl
@[simp] theorem Dev.setPair_obs (a b : Reg) (v i : Nat) : (d.setPair a b v i).obs = d.obs := rfl
@[simp] theorem Dev.setPair_fwd (a b : Reg) (v i : Nat) : (d.setPair a b v i).fwd = d.fwd := rfl
@[simp] theorem Dev.setPair_prt (a b : Reg) (v i : Nat) : (d.setPair a b v i).prt = d.prt := rfl
@[simp] theorem Dev.setPair_lay (a b : Reg) (v i : Nat) : (d.setPair a b v i).lay = d.lay := rfl
@[simp] theorem Dev.setPair_bwd (a b : Reg) (v i : Nat) : (d.setPair a b v i).bwd = d.bwd := rfl
@[simp] theorem Dev.setPair_row (a b : Reg) (v i : Nat) : (d.setPair a b v i).row = d.row := rfl
@[simp] theorem Dev.setPair_ldg (a b : Reg) (v i : Nat) : (d.setPair a b v i).ldg = d.ldg := rfl
@[simp] theorem Dev.setPair_lnk (a b : Reg) (v i : Nat) : (d.setPair a b v i).lnk = d.lnk := rfl
@[simp] theorem Dev.setPair_engines (a b : Reg) (v i : Nat) : (d.setPair a b v i).engines = d.engines := rfl
@[simp] theorem Dev.setPair_out (a b : Reg) (v i : Nat) : (d.setPair a b v i).out = d.out := rfl
@[simp] theorem Dev.setPair_free (a b : Reg) (v i : Nat) : (d.setPair a b v i).free = d.free := rfl

@[simp] theorem Dev.emit_regs (o : Out) : (d.emit o).regs = d.regs := rfl
@[simp] theorem Dev.emit_latched (o : Out) : (d.emit o).latched = d.latched := rfl
@[simp] theorem Dev.emit_lowWords (o : Out) : (d.emit o).lowWords = d.lowWords := rfl
@[simp] theorem Dev.emit_staged (o : Out) : (d.emit o).staged = d.staged := rfl
@[simp] theorem Dev.emit_frm (o : Out) : (d.emit o).frm = d.frm := rfl
@[simp] theorem Dev.emit_seq (o : Out) : (d.emit o).seq = d.seq := rfl
@[simp] theorem Dev.emit_cht (o : Out) : (d.emit o).cht = d.cht := rfl
@[simp] theorem Dev.emit_flt (o : Out) : (d.emit o).flt = d.flt := rfl
@[simp] theorem Dev.emit_hst (o : Out) : (d.emit o).hst = d.hst := rfl
@[simp] theorem Dev.emit_stk (o : Out) : (d.emit o).stk = d.stk := rfl
@[simp] theorem Dev.emit_mnt (o : Out) : (d.emit o).mnt = d.mnt := rfl
@[simp] theorem Dev.emit_pwr (o : Out) : (d.emit o).pwr = d.pwr := rfl
@[simp] theorem Dev.emit_sec (o : Out) : (d.emit o).sec = d.sec := rfl
@[simp] theorem Dev.emit_obs (o : Out) : (d.emit o).obs = d.obs := rfl
@[simp] theorem Dev.emit_fwd (o : Out) : (d.emit o).fwd = d.fwd := rfl
@[simp] theorem Dev.emit_prt (o : Out) : (d.emit o).prt = d.prt := rfl
@[simp] theorem Dev.emit_lay (o : Out) : (d.emit o).lay = d.lay := rfl
@[simp] theorem Dev.emit_bwd (o : Out) : (d.emit o).bwd = d.bwd := rfl
@[simp] theorem Dev.emit_row (o : Out) : (d.emit o).row = d.row := rfl
@[simp] theorem Dev.emit_ldg (o : Out) : (d.emit o).ldg = d.ldg := rfl
@[simp] theorem Dev.emit_lnk (o : Out) : (d.emit o).lnk = d.lnk := rfl
@[simp] theorem Dev.emit_engines (o : Out) : (d.emit o).engines = d.engines := rfl
@[simp] theorem Dev.emit_free (o : Out) : (d.emit o).free = d.free := rfl

@[simp] theorem Dev.cntEnter_regs (q n : Nat) : (d.cntEnter q n).regs = d.regs := rfl
@[simp] theorem Dev.cntEnter_latched (q n : Nat) : (d.cntEnter q n).latched = d.latched := rfl
@[simp] theorem Dev.cntEnter_lowWords (q n : Nat) : (d.cntEnter q n).lowWords = d.lowWords := rfl
@[simp] theorem Dev.cntEnter_staged (q n : Nat) : (d.cntEnter q n).staged = d.staged := rfl
@[simp] theorem Dev.cntEnter_frm (q n : Nat) : (d.cntEnter q n).frm = d.frm := rfl
@[simp] theorem Dev.cntEnter_seq (q n : Nat) : (d.cntEnter q n).seq = d.seq := rfl
@[simp] theorem Dev.cntEnter_cht (q n : Nat) : (d.cntEnter q n).cht = d.cht := rfl
@[simp] theorem Dev.cntEnter_flt (q n : Nat) : (d.cntEnter q n).flt = d.flt := rfl
@[simp] theorem Dev.cntEnter_hst (q n : Nat) : (d.cntEnter q n).hst = d.hst := rfl
@[simp] theorem Dev.cntEnter_stk (q n : Nat) : (d.cntEnter q n).stk = d.stk := rfl
@[simp] theorem Dev.cntEnter_mnt (q n : Nat) : (d.cntEnter q n).mnt = d.mnt := rfl
@[simp] theorem Dev.cntEnter_pwr (q n : Nat) : (d.cntEnter q n).pwr = d.pwr := rfl
@[simp] theorem Dev.cntEnter_sec (q n : Nat) : (d.cntEnter q n).sec = d.sec := rfl
@[simp] theorem Dev.cntEnter_fwd (q n : Nat) : (d.cntEnter q n).fwd = d.fwd := rfl
@[simp] theorem Dev.cntEnter_prt (q n : Nat) : (d.cntEnter q n).prt = d.prt := rfl
@[simp] theorem Dev.cntEnter_lay (q n : Nat) : (d.cntEnter q n).lay = d.lay := rfl
@[simp] theorem Dev.cntEnter_bwd (q n : Nat) : (d.cntEnter q n).bwd = d.bwd := rfl
@[simp] theorem Dev.cntEnter_row (q n : Nat) : (d.cntEnter q n).row = d.row := rfl
@[simp] theorem Dev.cntEnter_ldg (q n : Nat) : (d.cntEnter q n).ldg = d.ldg := rfl
@[simp] theorem Dev.cntEnter_lnk (q n : Nat) : (d.cntEnter q n).lnk = d.lnk := rfl
@[simp] theorem Dev.cntEnter_engines (q n : Nat) : (d.cntEnter q n).engines = d.engines := rfl
@[simp] theorem Dev.cntEnter_out (q n : Nat) : (d.cntEnter q n).out = d.out := rfl
@[simp] theorem Dev.cntEnter_free (q n : Nat) : (d.cntEnter q n).free = d.free := rfl

@[simp] theorem Dev.cntLeave_regs (q n : Nat) : (d.cntLeave q n).regs = d.regs := rfl
@[simp] theorem Dev.cntLeave_latched (q n : Nat) : (d.cntLeave q n).latched = d.latched := rfl
@[simp] theorem Dev.cntLeave_lowWords (q n : Nat) : (d.cntLeave q n).lowWords = d.lowWords := rfl
@[simp] theorem Dev.cntLeave_staged (q n : Nat) : (d.cntLeave q n).staged = d.staged := rfl
@[simp] theorem Dev.cntLeave_frm (q n : Nat) : (d.cntLeave q n).frm = d.frm := rfl
@[simp] theorem Dev.cntLeave_seq (q n : Nat) : (d.cntLeave q n).seq = d.seq := rfl
@[simp] theorem Dev.cntLeave_cht (q n : Nat) : (d.cntLeave q n).cht = d.cht := rfl
@[simp] theorem Dev.cntLeave_flt (q n : Nat) : (d.cntLeave q n).flt = d.flt := rfl
@[simp] theorem Dev.cntLeave_hst (q n : Nat) : (d.cntLeave q n).hst = d.hst := rfl
@[simp] theorem Dev.cntLeave_stk (q n : Nat) : (d.cntLeave q n).stk = d.stk := rfl
@[simp] theorem Dev.cntLeave_mnt (q n : Nat) : (d.cntLeave q n).mnt = d.mnt := rfl
@[simp] theorem Dev.cntLeave_pwr (q n : Nat) : (d.cntLeave q n).pwr = d.pwr := rfl
@[simp] theorem Dev.cntLeave_sec (q n : Nat) : (d.cntLeave q n).sec = d.sec := rfl
@[simp] theorem Dev.cntLeave_fwd (q n : Nat) : (d.cntLeave q n).fwd = d.fwd := rfl
@[simp] theorem Dev.cntLeave_prt (q n : Nat) : (d.cntLeave q n).prt = d.prt := rfl
@[simp] theorem Dev.cntLeave_lay (q n : Nat) : (d.cntLeave q n).lay = d.lay := rfl
@[simp] theorem Dev.cntLeave_bwd (q n : Nat) : (d.cntLeave q n).bwd = d.bwd := rfl
@[simp] theorem Dev.cntLeave_row (q n : Nat) : (d.cntLeave q n).row = d.row := rfl
@[simp] theorem Dev.cntLeave_ldg (q n : Nat) : (d.cntLeave q n).ldg = d.ldg := rfl
@[simp] theorem Dev.cntLeave_lnk (q n : Nat) : (d.cntLeave q n).lnk = d.lnk := rfl
@[simp] theorem Dev.cntLeave_engines (q n : Nat) : (d.cntLeave q n).engines = d.engines := rfl
@[simp] theorem Dev.cntLeave_out (q n : Nat) : (d.cntLeave q n).out = d.out := rfl
@[simp] theorem Dev.cntLeave_free (q n : Nat) : (d.cntLeave q n).free = d.free := rfl

@[simp] theorem Dev.traceFlush_regs : d.traceFlush.regs = d.regs := rfl
@[simp] theorem Dev.traceFlush_latched : d.traceFlush.latched = d.latched := rfl
@[simp] theorem Dev.traceFlush_lowWords : d.traceFlush.lowWords = d.lowWords := rfl
@[simp] theorem Dev.traceFlush_staged : d.traceFlush.staged = d.staged := rfl
@[simp] theorem Dev.traceFlush_frm : d.traceFlush.frm = d.frm := rfl
@[simp] theorem Dev.traceFlush_seq : d.traceFlush.seq = d.seq := rfl
@[simp] theorem Dev.traceFlush_cht : d.traceFlush.cht = d.cht := rfl
@[simp] theorem Dev.traceFlush_flt : d.traceFlush.flt = d.flt := rfl
@[simp] theorem Dev.traceFlush_hst : d.traceFlush.hst = d.hst := rfl
@[simp] theorem Dev.traceFlush_stk : d.traceFlush.stk = d.stk := rfl
@[simp] theorem Dev.traceFlush_mnt : d.traceFlush.mnt = d.mnt := rfl
@[simp] theorem Dev.traceFlush_pwr : d.traceFlush.pwr = d.pwr := rfl
@[simp] theorem Dev.traceFlush_sec : d.traceFlush.sec = d.sec := rfl
@[simp] theorem Dev.traceFlush_fwd : d.traceFlush.fwd = d.fwd := rfl
@[simp] theorem Dev.traceFlush_prt : d.traceFlush.prt = d.prt := rfl
@[simp] theorem Dev.traceFlush_lay : d.traceFlush.lay = d.lay := rfl
@[simp] theorem Dev.traceFlush_bwd : d.traceFlush.bwd = d.bwd := rfl
@[simp] theorem Dev.traceFlush_row : d.traceFlush.row = d.row := rfl
@[simp] theorem Dev.traceFlush_ldg : d.traceFlush.ldg = d.ldg := rfl
@[simp] theorem Dev.traceFlush_lnk : d.traceFlush.lnk = d.lnk := rfl
@[simp] theorem Dev.traceFlush_engines : d.traceFlush.engines = d.engines := rfl
@[simp] theorem Dev.traceFlush_out : d.traceFlush.out = d.out := rfl
@[simp] theorem Dev.traceFlush_free : d.traceFlush.free = d.free := rfl

@[simp] theorem Dev.discardFill_regs (p : FillItem → Bool) : (d.discardFill p).regs = d.regs := rfl
@[simp] theorem Dev.discardFill_latched (p : FillItem → Bool) : (d.discardFill p).latched = d.latched := rfl
@[simp] theorem Dev.discardFill_lowWords (p : FillItem → Bool) : (d.discardFill p).lowWords = d.lowWords := rfl
@[simp] theorem Dev.discardFill_staged (p : FillItem → Bool) : (d.discardFill p).staged = d.staged := rfl
@[simp] theorem Dev.discardFill_frm (p : FillItem → Bool) : (d.discardFill p).frm = d.frm := rfl
@[simp] theorem Dev.discardFill_seq (p : FillItem → Bool) : (d.discardFill p).seq = d.seq := rfl
@[simp] theorem Dev.discardFill_cht (p : FillItem → Bool) : (d.discardFill p).cht = d.cht := rfl
@[simp] theorem Dev.discardFill_flt (p : FillItem → Bool) : (d.discardFill p).flt = d.flt := rfl
@[simp] theorem Dev.discardFill_hst (p : FillItem → Bool) : (d.discardFill p).hst = d.hst := rfl
@[simp] theorem Dev.discardFill_stk (p : FillItem → Bool) : (d.discardFill p).stk = d.stk := rfl
@[simp] theorem Dev.discardFill_mnt (p : FillItem → Bool) : (d.discardFill p).mnt = d.mnt := rfl
@[simp] theorem Dev.discardFill_pwr (p : FillItem → Bool) : (d.discardFill p).pwr = d.pwr := rfl
@[simp] theorem Dev.discardFill_sec (p : FillItem → Bool) : (d.discardFill p).sec = d.sec := rfl
@[simp] theorem Dev.discardFill_obs (p : FillItem → Bool) : (d.discardFill p).obs = d.obs := rfl
@[simp] theorem Dev.discardFill_prt (p : FillItem → Bool) : (d.discardFill p).prt = d.prt := rfl
@[simp] theorem Dev.discardFill_lay (p : FillItem → Bool) : (d.discardFill p).lay = d.lay := rfl
@[simp] theorem Dev.discardFill_bwd (p : FillItem → Bool) : (d.discardFill p).bwd = d.bwd := rfl
@[simp] theorem Dev.discardFill_row (p : FillItem → Bool) : (d.discardFill p).row = d.row := rfl
@[simp] theorem Dev.discardFill_ldg (p : FillItem → Bool) : (d.discardFill p).ldg = d.ldg := rfl
@[simp] theorem Dev.discardFill_lnk (p : FillItem → Bool) : (d.discardFill p).lnk = d.lnk := rfl
@[simp] theorem Dev.discardFill_engines (p : FillItem → Bool) : (d.discardFill p).engines = d.engines := rfl
@[simp] theorem Dev.discardFill_out (p : FillItem → Bool) : (d.discardFill p).out = d.out := rfl
@[simp] theorem Dev.discardFill_free (p : FillItem → Bool) : (d.discardFill p).free = d.free := rfl

@[simp] theorem Dev.finish_regs (x : Completion) : (d.finish x).regs = d.regs := rfl
@[simp] theorem Dev.finish_latched (x : Completion) : (d.finish x).latched = d.latched := rfl
@[simp] theorem Dev.finish_lowWords (x : Completion) : (d.finish x).lowWords = d.lowWords := rfl
@[simp] theorem Dev.finish_staged (x : Completion) : (d.finish x).staged = d.staged := rfl
@[simp] theorem Dev.finish_frm (x : Completion) : (d.finish x).frm = d.frm := rfl
@[simp] theorem Dev.finish_seq (x : Completion) : (d.finish x).seq = d.seq := rfl
@[simp] theorem Dev.finish_cht (x : Completion) : (d.finish x).cht = d.cht := rfl
@[simp] theorem Dev.finish_flt (x : Completion) : (d.finish x).flt = d.flt := rfl
@[simp] theorem Dev.finish_stk (x : Completion) : (d.finish x).stk = d.stk := rfl
@[simp] theorem Dev.finish_mnt (x : Completion) : (d.finish x).mnt = d.mnt := rfl
@[simp] theorem Dev.finish_pwr (x : Completion) : (d.finish x).pwr = d.pwr := rfl
@[simp] theorem Dev.finish_sec (x : Completion) : (d.finish x).sec = d.sec := rfl
@[simp] theorem Dev.finish_obs (x : Completion) : (d.finish x).obs = d.obs := rfl
@[simp] theorem Dev.finish_fwd (x : Completion) : (d.finish x).fwd = d.fwd := rfl
@[simp] theorem Dev.finish_prt (x : Completion) : (d.finish x).prt = d.prt := rfl
@[simp] theorem Dev.finish_lay (x : Completion) : (d.finish x).lay = d.lay := rfl
@[simp] theorem Dev.finish_bwd (x : Completion) : (d.finish x).bwd = d.bwd := rfl
@[simp] theorem Dev.finish_row (x : Completion) : (d.finish x).row = d.row := rfl
@[simp] theorem Dev.finish_ldg (x : Completion) : (d.finish x).ldg = d.ldg := rfl
@[simp] theorem Dev.finish_lnk (x : Completion) : (d.finish x).lnk = d.lnk := rfl
@[simp] theorem Dev.finish_engines (x : Completion) : (d.finish x).engines = d.engines := rfl
@[simp] theorem Dev.finish_out (x : Completion) : (d.finish x).out = d.out := rfl
@[simp] theorem Dev.finish_free (x : Completion) : (d.finish x).free = d.free := rfl

@[simp] theorem Dev.complete_regs (c : CmdRef) (st : Nat) (f : Option FaultRec) : (d.complete c st f).regs = d.regs := rfl
@[simp] theorem Dev.complete_latched (c : CmdRef) (st : Nat) (f : Option FaultRec) : (d.complete c st f).latched = d.latched := rfl
@[simp] theorem Dev.complete_lowWords (c : CmdRef) (st : Nat) (f : Option FaultRec) : (d.complete c st f).lowWords = d.lowWords := rfl
@[simp] theorem Dev.complete_staged (c : CmdRef) (st : Nat) (f : Option FaultRec) : (d.complete c st f).staged = d.staged := rfl
@[simp] theorem Dev.complete_frm (c : CmdRef) (st : Nat) (f : Option FaultRec) : (d.complete c st f).frm = d.frm := rfl
@[simp] theorem Dev.complete_seq (c : CmdRef) (st : Nat) (f : Option FaultRec) : (d.complete c st f).seq = d.seq := rfl
@[simp] theorem Dev.complete_cht (c : CmdRef) (st : Nat) (f : Option FaultRec) : (d.complete c st f).cht = d.cht := rfl
@[simp] theorem Dev.complete_flt (c : CmdRef) (st : Nat) (f : Option FaultRec) : (d.complete c st f).flt = d.flt := rfl
@[simp] theorem Dev.complete_stk (c : CmdRef) (st : Nat) (f : Option FaultRec) : (d.complete c st f).stk = d.stk := rfl
@[simp] theorem Dev.complete_mnt (c : CmdRef) (st : Nat) (f : Option FaultRec) : (d.complete c st f).mnt = d.mnt := rfl
@[simp] theorem Dev.complete_pwr (c : CmdRef) (st : Nat) (f : Option FaultRec) : (d.complete c st f).pwr = d.pwr := rfl
@[simp] theorem Dev.complete_sec (c : CmdRef) (st : Nat) (f : Option FaultRec) : (d.complete c st f).sec = d.sec := rfl
@[simp] theorem Dev.complete_obs (c : CmdRef) (st : Nat) (f : Option FaultRec) : (d.complete c st f).obs = d.obs := rfl
@[simp] theorem Dev.complete_fwd (c : CmdRef) (st : Nat) (f : Option FaultRec) : (d.complete c st f).fwd = d.fwd := rfl
@[simp] theorem Dev.complete_prt (c : CmdRef) (st : Nat) (f : Option FaultRec) : (d.complete c st f).prt = d.prt := rfl
@[simp] theorem Dev.complete_lay (c : CmdRef) (st : Nat) (f : Option FaultRec) : (d.complete c st f).lay = d.lay := rfl
@[simp] theorem Dev.complete_bwd (c : CmdRef) (st : Nat) (f : Option FaultRec) : (d.complete c st f).bwd = d.bwd := rfl
@[simp] theorem Dev.complete_row (c : CmdRef) (st : Nat) (f : Option FaultRec) : (d.complete c st f).row = d.row := rfl
@[simp] theorem Dev.complete_ldg (c : CmdRef) (st : Nat) (f : Option FaultRec) : (d.complete c st f).ldg = d.ldg := rfl
@[simp] theorem Dev.complete_lnk (c : CmdRef) (st : Nat) (f : Option FaultRec) : (d.complete c st f).lnk = d.lnk := rfl
@[simp] theorem Dev.complete_engines (c : CmdRef) (st : Nat) (f : Option FaultRec) : (d.complete c st f).engines = d.engines := rfl
@[simp] theorem Dev.complete_out (c : CmdRef) (st : Nat) (f : Option FaultRec) : (d.complete c st f).out = d.out := rfl
@[simp] theorem Dev.complete_free (c : CmdRef) (st : Nat) (f : Option FaultRec) : (d.complete c st f).free = d.free := rfl

@[simp] theorem Dev.modRing_regs (i : Nat) (f : Ring → Ring) : (d.modRing i f).regs = d.regs := rfl
@[simp] theorem Dev.modRing_latched (i : Nat) (f : Ring → Ring) : (d.modRing i f).latched = d.latched := rfl
@[simp] theorem Dev.modRing_lowWords (i : Nat) (f : Ring → Ring) : (d.modRing i f).lowWords = d.lowWords := rfl
@[simp] theorem Dev.modRing_staged (i : Nat) (f : Ring → Ring) : (d.modRing i f).staged = d.staged := rfl
@[simp] theorem Dev.modRing_frm (i : Nat) (f : Ring → Ring) : (d.modRing i f).frm = d.frm := rfl
@[simp] theorem Dev.modRing_seq (i : Nat) (f : Ring → Ring) : (d.modRing i f).seq = d.seq := rfl
@[simp] theorem Dev.modRing_cht (i : Nat) (f : Ring → Ring) : (d.modRing i f).cht = d.cht := rfl
@[simp] theorem Dev.modRing_flt (i : Nat) (f : Ring → Ring) : (d.modRing i f).flt = d.flt := rfl
@[simp] theorem Dev.modRing_stk (i : Nat) (f : Ring → Ring) : (d.modRing i f).stk = d.stk := rfl
@[simp] theorem Dev.modRing_mnt (i : Nat) (f : Ring → Ring) : (d.modRing i f).mnt = d.mnt := rfl
@[simp] theorem Dev.modRing_pwr (i : Nat) (f : Ring → Ring) : (d.modRing i f).pwr = d.pwr := rfl
@[simp] theorem Dev.modRing_sec (i : Nat) (f : Ring → Ring) : (d.modRing i f).sec = d.sec := rfl
@[simp] theorem Dev.modRing_obs (i : Nat) (f : Ring → Ring) : (d.modRing i f).obs = d.obs := rfl
@[simp] theorem Dev.modRing_fwd (i : Nat) (f : Ring → Ring) : (d.modRing i f).fwd = d.fwd := rfl
@[simp] theorem Dev.modRing_prt (i : Nat) (f : Ring → Ring) : (d.modRing i f).prt = d.prt := rfl
@[simp] theorem Dev.modRing_lay (i : Nat) (f : Ring → Ring) : (d.modRing i f).lay = d.lay := rfl
@[simp] theorem Dev.modRing_bwd (i : Nat) (f : Ring → Ring) : (d.modRing i f).bwd = d.bwd := rfl
@[simp] theorem Dev.modRing_row (i : Nat) (f : Ring → Ring) : (d.modRing i f).row = d.row := rfl
@[simp] theorem Dev.modRing_ldg (i : Nat) (f : Ring → Ring) : (d.modRing i f).ldg = d.ldg := rfl
@[simp] theorem Dev.modRing_lnk (i : Nat) (f : Ring → Ring) : (d.modRing i f).lnk = d.lnk := rfl
@[simp] theorem Dev.modRing_engines (i : Nat) (f : Ring → Ring) : (d.modRing i f).engines = d.engines := rfl
@[simp] theorem Dev.modRing_out (i : Nat) (f : Ring → Ring) : (d.modRing i f).out = d.out := rfl
@[simp] theorem Dev.modRing_free (i : Nat) (f : Ring → Ring) : (d.modRing i f).free = d.free := rfl

@[simp] theorem Dev.modLink_regs (l : Link) (f : Link → Link) : (d.modLink l f).regs = d.regs := rfl
@[simp] theorem Dev.modLink_latched (l : Link) (f : Link → Link) : (d.modLink l f).latched = d.latched := rfl
@[simp] theorem Dev.modLink_lowWords (l : Link) (f : Link → Link) : (d.modLink l f).lowWords = d.lowWords := rfl
@[simp] theorem Dev.modLink_staged (l : Link) (f : Link → Link) : (d.modLink l f).staged = d.staged := rfl
@[simp] theorem Dev.modLink_frm (l : Link) (f : Link → Link) : (d.modLink l f).frm = d.frm := rfl
@[simp] theorem Dev.modLink_seq (l : Link) (f : Link → Link) : (d.modLink l f).seq = d.seq := rfl
@[simp] theorem Dev.modLink_cht (l : Link) (f : Link → Link) : (d.modLink l f).cht = d.cht := rfl
@[simp] theorem Dev.modLink_flt (l : Link) (f : Link → Link) : (d.modLink l f).flt = d.flt := rfl
@[simp] theorem Dev.modLink_hst (l : Link) (f : Link → Link) : (d.modLink l f).hst = d.hst := rfl
@[simp] theorem Dev.modLink_stk (l : Link) (f : Link → Link) : (d.modLink l f).stk = d.stk := rfl
@[simp] theorem Dev.modLink_mnt (l : Link) (f : Link → Link) : (d.modLink l f).mnt = d.mnt := rfl
@[simp] theorem Dev.modLink_pwr (l : Link) (f : Link → Link) : (d.modLink l f).pwr = d.pwr := rfl
@[simp] theorem Dev.modLink_sec (l : Link) (f : Link → Link) : (d.modLink l f).sec = d.sec := rfl
@[simp] theorem Dev.modLink_obs (l : Link) (f : Link → Link) : (d.modLink l f).obs = d.obs := rfl
@[simp] theorem Dev.modLink_fwd (l : Link) (f : Link → Link) : (d.modLink l f).fwd = d.fwd := rfl
@[simp] theorem Dev.modLink_prt (l : Link) (f : Link → Link) : (d.modLink l f).prt = d.prt := rfl
@[simp] theorem Dev.modLink_lay (l : Link) (f : Link → Link) : (d.modLink l f).lay = d.lay := rfl
@[simp] theorem Dev.modLink_bwd (l : Link) (f : Link → Link) : (d.modLink l f).bwd = d.bwd := rfl
@[simp] theorem Dev.modLink_row (l : Link) (f : Link → Link) : (d.modLink l f).row = d.row := rfl
@[simp] theorem Dev.modLink_ldg (l : Link) (f : Link → Link) : (d.modLink l f).ldg = d.ldg := rfl
@[simp] theorem Dev.modLink_engines (l : Link) (f : Link → Link) : (d.modLink l f).engines = d.engines := rfl
@[simp] theorem Dev.modLink_out (l : Link) (f : Link → Link) : (d.modLink l f).out = d.out := rfl
@[simp] theorem Dev.modLink_free (l : Link) (f : Link → Link) : (d.modLink l f).free = d.free := rfl

@[simp] theorem Dev.modLane_regs (p l : Nat) (f : Lane → Lane) : (d.modLane p l f).regs = d.regs := rfl
@[simp] theorem Dev.modLane_latched (p l : Nat) (f : Lane → Lane) : (d.modLane p l f).latched = d.latched := rfl
@[simp] theorem Dev.modLane_lowWords (p l : Nat) (f : Lane → Lane) : (d.modLane p l f).lowWords = d.lowWords := rfl
@[simp] theorem Dev.modLane_staged (p l : Nat) (f : Lane → Lane) : (d.modLane p l f).staged = d.staged := rfl
@[simp] theorem Dev.modLane_frm (p l : Nat) (f : Lane → Lane) : (d.modLane p l f).frm = d.frm := rfl
@[simp] theorem Dev.modLane_seq (p l : Nat) (f : Lane → Lane) : (d.modLane p l f).seq = d.seq := rfl
@[simp] theorem Dev.modLane_cht (p l : Nat) (f : Lane → Lane) : (d.modLane p l f).cht = d.cht := rfl
@[simp] theorem Dev.modLane_flt (p l : Nat) (f : Lane → Lane) : (d.modLane p l f).flt = d.flt := rfl
@[simp] theorem Dev.modLane_hst (p l : Nat) (f : Lane → Lane) : (d.modLane p l f).hst = d.hst := rfl
@[simp] theorem Dev.modLane_stk (p l : Nat) (f : Lane → Lane) : (d.modLane p l f).stk = d.stk := rfl
@[simp] theorem Dev.modLane_mnt (p l : Nat) (f : Lane → Lane) : (d.modLane p l f).mnt = d.mnt := rfl
@[simp] theorem Dev.modLane_pwr (p l : Nat) (f : Lane → Lane) : (d.modLane p l f).pwr = d.pwr := rfl
@[simp] theorem Dev.modLane_sec (p l : Nat) (f : Lane → Lane) : (d.modLane p l f).sec = d.sec := rfl
@[simp] theorem Dev.modLane_obs (p l : Nat) (f : Lane → Lane) : (d.modLane p l f).obs = d.obs := rfl
@[simp] theorem Dev.modLane_fwd (p l : Nat) (f : Lane → Lane) : (d.modLane p l f).fwd = d.fwd := rfl
@[simp] theorem Dev.modLane_prt (p l : Nat) (f : Lane → Lane) : (d.modLane p l f).prt = d.prt := rfl
@[simp] theorem Dev.modLane_lay (p l : Nat) (f : Lane → Lane) : (d.modLane p l f).lay = d.lay := rfl
@[simp] theorem Dev.modLane_bwd (p l : Nat) (f : Lane → Lane) : (d.modLane p l f).bwd = d.bwd := rfl
@[simp] theorem Dev.modLane_row (p l : Nat) (f : Lane → Lane) : (d.modLane p l f).row = d.row := rfl
@[simp] theorem Dev.modLane_ldg (p l : Nat) (f : Lane → Lane) : (d.modLane p l f).ldg = d.ldg := rfl
@[simp] theorem Dev.modLane_engines (p l : Nat) (f : Lane → Lane) : (d.modLane p l f).engines = d.engines := rfl
@[simp] theorem Dev.modLane_out (p l : Nat) (f : Lane → Lane) : (d.modLane p l f).out = d.out := rfl
@[simp] theorem Dev.modLane_free (p l : Nat) (f : Lane → Lane) : (d.modLane p l f).free = d.free := rfl

@[simp] theorem Dev.modStream_regs (i : Nat) (f : StreamState → StreamState) : (d.modStream i f).regs = d.regs := rfl
@[simp] theorem Dev.modStream_latched (i : Nat) (f : StreamState → StreamState) : (d.modStream i f).latched = d.latched := rfl
@[simp] theorem Dev.modStream_lowWords (i : Nat) (f : StreamState → StreamState) : (d.modStream i f).lowWords = d.lowWords := rfl
@[simp] theorem Dev.modStream_staged (i : Nat) (f : StreamState → StreamState) : (d.modStream i f).staged = d.staged := rfl
@[simp] theorem Dev.modStream_frm (i : Nat) (f : StreamState → StreamState) : (d.modStream i f).frm = d.frm := rfl
@[simp] theorem Dev.modStream_seq (i : Nat) (f : StreamState → StreamState) : (d.modStream i f).seq = d.seq := rfl
@[simp] theorem Dev.modStream_cht (i : Nat) (f : StreamState → StreamState) : (d.modStream i f).cht = d.cht := rfl
@[simp] theorem Dev.modStream_flt (i : Nat) (f : StreamState → StreamState) : (d.modStream i f).flt = d.flt := rfl
@[simp] theorem Dev.modStream_hst (i : Nat) (f : StreamState → StreamState) : (d.modStream i f).hst = d.hst := rfl
@[simp] theorem Dev.modStream_stk (i : Nat) (f : StreamState → StreamState) : (d.modStream i f).stk = d.stk := rfl
@[simp] theorem Dev.modStream_mnt (i : Nat) (f : StreamState → StreamState) : (d.modStream i f).mnt = d.mnt := rfl
@[simp] theorem Dev.modStream_pwr (i : Nat) (f : StreamState → StreamState) : (d.modStream i f).pwr = d.pwr := rfl
@[simp] theorem Dev.modStream_sec (i : Nat) (f : StreamState → StreamState) : (d.modStream i f).sec = d.sec := rfl
@[simp] theorem Dev.modStream_obs (i : Nat) (f : StreamState → StreamState) : (d.modStream i f).obs = d.obs := rfl
@[simp] theorem Dev.modStream_fwd (i : Nat) (f : StreamState → StreamState) : (d.modStream i f).fwd = d.fwd := rfl
@[simp] theorem Dev.modStream_prt (i : Nat) (f : StreamState → StreamState) : (d.modStream i f).prt = d.prt := rfl
@[simp] theorem Dev.modStream_lay (i : Nat) (f : StreamState → StreamState) : (d.modStream i f).lay = d.lay := rfl
@[simp] theorem Dev.modStream_bwd (i : Nat) (f : StreamState → StreamState) : (d.modStream i f).bwd = d.bwd := rfl
@[simp] theorem Dev.modStream_row (i : Nat) (f : StreamState → StreamState) : (d.modStream i f).row = d.row := rfl
@[simp] theorem Dev.modStream_ldg (i : Nat) (f : StreamState → StreamState) : (d.modStream i f).ldg = d.ldg := rfl
@[simp] theorem Dev.modStream_engines (i : Nat) (f : StreamState → StreamState) : (d.modStream i f).engines = d.engines := rfl
@[simp] theorem Dev.modStream_out (i : Nat) (f : StreamState → StreamState) : (d.modStream i f).out = d.out := rfl
@[simp] theorem Dev.modStream_free (i : Nat) (f : StreamState → StreamState) : (d.modStream i f).free = d.free := rfl

@[simp] theorem Dev.putPartner_regs (i : Nat) (p : Partner) : (d.putPartner i p).regs = d.regs := rfl
@[simp] theorem Dev.putPartner_latched (i : Nat) (p : Partner) : (d.putPartner i p).latched = d.latched := rfl
@[simp] theorem Dev.putPartner_lowWords (i : Nat) (p : Partner) : (d.putPartner i p).lowWords = d.lowWords := rfl
@[simp] theorem Dev.putPartner_staged (i : Nat) (p : Partner) : (d.putPartner i p).staged = d.staged := rfl
@[simp] theorem Dev.putPartner_frm (i : Nat) (p : Partner) : (d.putPartner i p).frm = d.frm := rfl
@[simp] theorem Dev.putPartner_seq (i : Nat) (p : Partner) : (d.putPartner i p).seq = d.seq := rfl
@[simp] theorem Dev.putPartner_cht (i : Nat) (p : Partner) : (d.putPartner i p).cht = d.cht := rfl
@[simp] theorem Dev.putPartner_flt (i : Nat) (p : Partner) : (d.putPartner i p).flt = d.flt := rfl
@[simp] theorem Dev.putPartner_hst (i : Nat) (p : Partner) : (d.putPartner i p).hst = d.hst := rfl
@[simp] theorem Dev.putPartner_stk (i : Nat) (p : Partner) : (d.putPartner i p).stk = d.stk := rfl
@[simp] theorem Dev.putPartner_mnt (i : Nat) (p : Partner) : (d.putPartner i p).mnt = d.mnt := rfl
@[simp] theorem Dev.putPartner_pwr (i : Nat) (p : Partner) : (d.putPartner i p).pwr = d.pwr := rfl
@[simp] theorem Dev.putPartner_sec (i : Nat) (p : Partner) : (d.putPartner i p).sec = d.sec := rfl
@[simp] theorem Dev.putPartner_obs (i : Nat) (p : Partner) : (d.putPartner i p).obs = d.obs := rfl
@[simp] theorem Dev.putPartner_fwd (i : Nat) (p : Partner) : (d.putPartner i p).fwd = d.fwd := rfl
@[simp] theorem Dev.putPartner_prt (i : Nat) (p : Partner) : (d.putPartner i p).prt = d.prt := rfl
@[simp] theorem Dev.putPartner_lay (i : Nat) (p : Partner) : (d.putPartner i p).lay = d.lay := rfl
@[simp] theorem Dev.putPartner_bwd (i : Nat) (p : Partner) : (d.putPartner i p).bwd = d.bwd := rfl
@[simp] theorem Dev.putPartner_row (i : Nat) (p : Partner) : (d.putPartner i p).row = d.row := rfl
@[simp] theorem Dev.putPartner_ldg (i : Nat) (p : Partner) : (d.putPartner i p).ldg = d.ldg := rfl
@[simp] theorem Dev.putPartner_engines (i : Nat) (p : Partner) : (d.putPartner i p).engines = d.engines := rfl
@[simp] theorem Dev.putPartner_out (i : Nat) (p : Partner) : (d.putPartner i p).out = d.out := rfl
@[simp] theorem Dev.putPartner_free (i : Nat) (p : Partner) : (d.putPartner i p).free = d.free := rfl

@[simp] theorem Dev.modHeld_regs (a b c e : Nat) (f : Held → Held) : (d.modHeld a b c e f).regs = d.regs := rfl
@[simp] theorem Dev.modHeld_latched (a b c e : Nat) (f : Held → Held) : (d.modHeld a b c e f).latched = d.latched := rfl
@[simp] theorem Dev.modHeld_lowWords (a b c e : Nat) (f : Held → Held) : (d.modHeld a b c e f).lowWords = d.lowWords := rfl
@[simp] theorem Dev.modHeld_staged (a b c e : Nat) (f : Held → Held) : (d.modHeld a b c e f).staged = d.staged := rfl
@[simp] theorem Dev.modHeld_frm (a b c e : Nat) (f : Held → Held) : (d.modHeld a b c e f).frm = d.frm := rfl
@[simp] theorem Dev.modHeld_seq (a b c e : Nat) (f : Held → Held) : (d.modHeld a b c e f).seq = d.seq := rfl
@[simp] theorem Dev.modHeld_cht (a b c e : Nat) (f : Held → Held) : (d.modHeld a b c e f).cht = d.cht := rfl
@[simp] theorem Dev.modHeld_flt (a b c e : Nat) (f : Held → Held) : (d.modHeld a b c e f).flt = d.flt := rfl
@[simp] theorem Dev.modHeld_hst (a b c e : Nat) (f : Held → Held) : (d.modHeld a b c e f).hst = d.hst := rfl
@[simp] theorem Dev.modHeld_stk (a b c e : Nat) (f : Held → Held) : (d.modHeld a b c e f).stk = d.stk := rfl
@[simp] theorem Dev.modHeld_mnt (a b c e : Nat) (f : Held → Held) : (d.modHeld a b c e f).mnt = d.mnt := rfl
@[simp] theorem Dev.modHeld_pwr (a b c e : Nat) (f : Held → Held) : (d.modHeld a b c e f).pwr = d.pwr := rfl
@[simp] theorem Dev.modHeld_sec (a b c e : Nat) (f : Held → Held) : (d.modHeld a b c e f).sec = d.sec := rfl
@[simp] theorem Dev.modHeld_obs (a b c e : Nat) (f : Held → Held) : (d.modHeld a b c e f).obs = d.obs := rfl
@[simp] theorem Dev.modHeld_fwd (a b c e : Nat) (f : Held → Held) : (d.modHeld a b c e f).fwd = d.fwd := rfl
@[simp] theorem Dev.modHeld_lay (a b c e : Nat) (f : Held → Held) : (d.modHeld a b c e f).lay = d.lay := rfl
@[simp] theorem Dev.modHeld_bwd (a b c e : Nat) (f : Held → Held) : (d.modHeld a b c e f).bwd = d.bwd := rfl
@[simp] theorem Dev.modHeld_row (a b c e : Nat) (f : Held → Held) : (d.modHeld a b c e f).row = d.row := rfl
@[simp] theorem Dev.modHeld_ldg (a b c e : Nat) (f : Held → Held) : (d.modHeld a b c e f).ldg = d.ldg := rfl
@[simp] theorem Dev.modHeld_lnk (a b c e : Nat) (f : Held → Held) : (d.modHeld a b c e f).lnk = d.lnk := rfl
@[simp] theorem Dev.modHeld_engines (a b c e : Nat) (f : Held → Held) : (d.modHeld a b c e f).engines = d.engines := rfl
@[simp] theorem Dev.modHeld_out (a b c e : Nat) (f : Held → Held) : (d.modHeld a b c e f).out = d.out := rfl
@[simp] theorem Dev.modHeld_free (a b c e : Nat) (f : Held → Held) : (d.modHeld a b c e f).free = d.free := rfl

@[simp] theorem Dev.noteGran_regs (g : Nat) (w p : Bool) : (d.noteGran g w p).regs = d.regs := rfl
@[simp] theorem Dev.noteGran_latched (g : Nat) (w p : Bool) : (d.noteGran g w p).latched = d.latched := rfl
@[simp] theorem Dev.noteGran_lowWords (g : Nat) (w p : Bool) : (d.noteGran g w p).lowWords = d.lowWords := rfl
@[simp] theorem Dev.noteGran_staged (g : Nat) (w p : Bool) : (d.noteGran g w p).staged = d.staged := rfl
@[simp] theorem Dev.noteGran_frm (g : Nat) (w p : Bool) : (d.noteGran g w p).frm = d.frm := rfl
@[simp] theorem Dev.noteGran_seq (g : Nat) (w p : Bool) : (d.noteGran g w p).seq = d.seq := rfl
@[simp] theorem Dev.noteGran_cht (g : Nat) (w p : Bool) : (d.noteGran g w p).cht = d.cht := rfl
@[simp] theorem Dev.noteGran_flt (g : Nat) (w p : Bool) : (d.noteGran g w p).flt = d.flt := rfl
@[simp] theorem Dev.noteGran_hst (g : Nat) (w p : Bool) : (d.noteGran g w p).hst = d.hst := rfl
@[simp] theorem Dev.noteGran_mnt (g : Nat) (w p : Bool) : (d.noteGran g w p).mnt = d.mnt := rfl
@[simp] theorem Dev.noteGran_pwr (g : Nat) (w p : Bool) : (d.noteGran g w p).pwr = d.pwr := rfl
@[simp] theorem Dev.noteGran_sec (g : Nat) (w p : Bool) : (d.noteGran g w p).sec = d.sec := rfl
@[simp] theorem Dev.noteGran_obs (g : Nat) (w p : Bool) : (d.noteGran g w p).obs = d.obs := rfl
@[simp] theorem Dev.noteGran_fwd (g : Nat) (w p : Bool) : (d.noteGran g w p).fwd = d.fwd := rfl
@[simp] theorem Dev.noteGran_prt (g : Nat) (w p : Bool) : (d.noteGran g w p).prt = d.prt := rfl
@[simp] theorem Dev.noteGran_lay (g : Nat) (w p : Bool) : (d.noteGran g w p).lay = d.lay := rfl
@[simp] theorem Dev.noteGran_bwd (g : Nat) (w p : Bool) : (d.noteGran g w p).bwd = d.bwd := rfl
@[simp] theorem Dev.noteGran_row (g : Nat) (w p : Bool) : (d.noteGran g w p).row = d.row := rfl
@[simp] theorem Dev.noteGran_ldg (g : Nat) (w p : Bool) : (d.noteGran g w p).ldg = d.ldg := rfl
@[simp] theorem Dev.noteGran_lnk (g : Nat) (w p : Bool) : (d.noteGran g w p).lnk = d.lnk := rfl
@[simp] theorem Dev.noteGran_engines (g : Nat) (w p : Bool) : (d.noteGran g w p).engines = d.engines := rfl
@[simp] theorem Dev.noteGran_out (g : Nat) (w p : Bool) : (d.noteGran g w p).out = d.out := rfl
@[simp] theorem Dev.noteGran_free (g : Nat) (w p : Bool) : (d.noteGran g w p).free = d.free := rfl

/-! ### What an update sets -/

@[simp] theorem Dev.emit_out (o : Out) : (d.emit o).out = o :: d.out := rfl
@[simp] theorem Dev.finish_done (x : Completion) : (d.finish x).hst.done = d.hst.done ++ [x] := rfl
@[simp] theorem Dev.setReg_regs (r : Reg) (v i : Nat) : (d.setReg r v i).regs = tput d.regs (r.card.at i) (v % 2 ^ 32) := rfl

end Sys2Proof.Machine
end

