-- ==== Sys2Proof/Laws/Ops.lean ====
section
/-! SUPPORT. What the shared operations of Machine/Ops.lean can change: a frame for raising a fault and its parts, and for the journal, and
from each one lemma for each field that stays. -/

namespace Sys2Proof.Machine

/-- `e` differs from `d` at most in what raising a fault changes: registers, the fault unit, trace and counters, started fill work, and what
leaves the chip. -/
structure FaultFrame (d e : Dev) : Prop where
  latched : e.latched = d.latched
  lowWords : e.lowWords = d.lowWords
  staged : e.staged = d.staged
  frm : e.frm = d.frm
  seq : e.seq = d.seq
  cht : e.cht = d.cht
  hst : e.hst = d.hst
  stk : e.stk = d.stk
  mnt : e.mnt = d.mnt
  pwr : e.pwr = d.pwr
  sec : e.sec = d.sec
  prt : e.prt = d.prt
  lay : e.lay = d.lay
  bwd : e.bwd = d.bwd
  row : e.row = d.row
  ldg : e.ldg = d.ldg
  lnk : e.lnk = d.lnk
  engines : e.engines = d.engines
  free : e.free = d.free

theorem FaultFrame.refl (d : Dev) : FaultFrame d d := by constructor <;> rfl

theorem FaultFrame.trans {a b c : Dev} (h : FaultFrame a b) (k : FaultFrame b c) : FaultFrame a c where
  latched := k.latched.trans h.latched
  lowWords := k.lowWords.trans h.lowWords
  staged := k.staged.trans h.staged
  frm := k.frm.trans h.frm
  seq := k.seq.trans h.seq
  cht := k.cht.trans h.cht
  hst := k.hst.trans h.hst
  stk := k.stk.trans h.stk
  mnt := k.mnt.trans h.mnt
  pwr := k.pwr.trans h.pwr
  sec := k.sec.trans h.sec
  prt := k.prt.trans h.prt
  lay := k.lay.trans h.lay
  bwd := k.bwd.trans h.bwd
  row := k.row.trans h.row
  ldg := k.ldg.trans h.ldg
  lnk := k.lnk.trans h.lnk
  engines := k.engines.trans h.engines
  free := k.free.trans h.free

variable (d : Dev)

theorem Dev.countFault_frame (s : Severity) : FaultFrame d (d.countFault s) := by
  cases s <;> constructor <;> rfl

theorem Dev.captureOvr_frame (code wher : Nat) : FaultFrame d (d.captureOvr code wher) := by
  unfold Dev.captureOvr
  split
  · exact .refl d
  · dsimp only
    split
    · split
      · constructor <;> rfl
      · exact .refl d
    · constructor <;> rfl

theorem Dev.captureAdm_frame (code source : Nat) : FaultFrame d (d.captureAdm code source) := by
  unfold Dev.captureAdm
  split
  · exact .refl d
  · constructor <;> rfl

theorem Dev.traceFlush_frame (before : Option Nat) : FaultFrame d (d.traceFlush before) := by constructor <;> rfl

theorem Dev.trace_frame (kind unit wher data : Nat) : FaultFrame d (d.trace kind unit wher data) := by
  unfold Dev.trace
  split
  · exact .refl d
  · constructor <;> rfl

theorem Dev.tracePin_frame (code : Nat) : FaultFrame d (d.tracePin code) := by
  unfold Dev.tracePin
  split
  · exact .refl d
  · split
    · exact .refl d
    · constructor <;> rfl

theorem Dev.cntEnter_frame (q n : Nat) : FaultFrame d (d.cntEnter q n) := by constructor <;> rfl

theorem Dev.cntLeave_frame (q n : Nat) : FaultFrame d (d.cntLeave q n) := by constructor <;> rfl

theorem Dev.cntAdvance_frame (n : Nat) : FaultFrame d (d.cntAdvance n) := by
  unfold Dev.cntAdvance
  split <;> constructor <;> rfl

theorem Dev.discardFill_frame (p : FillItem → Bool) : FaultFrame d (d.discardFill p) := by constructor <;> rfl

theorem Dev.emit_frame (o : Out) : FaultFrame d (d.emit o) := by constructor <;> rfl

theorem Dev.enterFault_frame (r : FaultRec) : FaultFrame d (d.enterFault r) := by
  unfold Dev.enterFault
  dsimp only
  split
  · constructor <;> rfl
  · split
    · constructor <;> rfl
    · split
      · constructor <;> rfl
      · refine .trans ?_ (Dev.countFault_frame _ .chipStop)
        constructor <;> rfl

theorem Dev.preempt_frame (s : Severity) : FaultFrame d (d.preempt s) := by
  unfold Dev.preempt
  split
  · exact .refl d
  · split
    · constructor <;> rfl
    · exact .refl d

/-- Raising a fault changes nothing but registers, the fault unit, trace and counters, started fill work, and what leaves the chip. -/
theorem Dev.raiseAs_frame (sev : Severity) (code unit wher detail : Nat) : FaultFrame d (d.raiseAs sev code unit wher detail) := by
  unfold Dev.raiseAs
  extract_lets down s r d1 d2 lost top d3 d4 trig cfg hit d5
  have h2 : FaultFrame d d2 :=
    ((d.countFault_frame s).trans (Dev.captureOvr_frame _ code wher)).trans (Dev.enterFault_frame d1 r)
  have h3 : FaultFrame d d3 := (h2.trans (Dev.preempt_frame d2 top)).trans (Dev.trace_frame _ _ _ _ _)
  have h4 : FaultFrame d d4 := by
    dsimp only [d4]
    split
    · exact h3.trans (Dev.trace_frame _ _ _ _ _)
    · exact h3
  have h5 : FaultFrame d d5 := by
    dsimp only [d5]
    split
    · exact h4.trans (Dev.tracePin_frame _ _)
    · split
      · exact h4.trans (Dev.tracePin_frame _ _)
      · exact h4
  split
  · exact (h5.trans (Dev.discardFill_frame _ _)).trans (Dev.emit_frame _ _)
  · exact h5

theorem Dev.raise_frame (code unit wher detail : Nat) : FaultFrame d (d.raise code unit wher detail) := d.raiseAs_frame _ code unit wher detail

@[simp] theorem Dev.raiseAs_latched (sev : Severity) (code unit wher detail : Nat) : (d.raiseAs sev code unit wher detail).latched = d.latched := (d.raiseAs_frame sev code unit wher detail).latched
@[simp] theorem Dev.raiseAs_lowWords (sev : Severity) (code unit wher detail : Nat) : (d.raiseAs sev code unit wher detail).lowWords = d.lowWords := (d.raiseAs_frame sev code unit wher detail).lowWords
@[simp] theorem Dev.raiseAs_staged (sev : Severity) (code unit wher detail : Nat) : (d.raiseAs sev code unit wher detail).staged = d.staged := (d.raiseAs_frame sev code unit wher detail).staged
@[simp] theorem Dev.raiseAs_frm (sev : Severity) (code unit wher detail : Nat) : (d.raiseAs sev code unit wher detail).frm = d.frm := (d.raiseAs_frame sev code unit wher detail).frm
@[simp] theorem Dev.raiseAs_seq (sev : Severity) (code unit wher detail : Nat) : (d.raiseAs sev code unit wher detail).seq = d.seq := (d.raiseAs_frame sev code unit wher detail).seq
@[simp] theorem Dev.raiseAs_cht (sev : Severity) (code unit wher detail : Nat) : (d.raiseAs sev code unit wher detail).cht = d.cht := (d.raiseAs_frame sev code unit wher detail).cht
@[simp] theorem Dev.raiseAs_hst (sev : Severity) (code unit wher detail : Nat) : (d.raiseAs sev code unit wher detail).hst = d.hst := (d.raiseAs_frame sev code unit wher detail).hst
@[simp] theorem Dev.raiseAs_stk (sev : Severity) (code unit wher detail : Nat) : (d.raiseAs sev code unit wher detail).stk = d.stk := (d.raiseAs_frame sev code unit wher detail).stk
@[simp] theorem Dev.raiseAs_mnt (sev : Severity) (code unit wher detail : Nat) : (d.raiseAs sev code unit wher detail).mnt = d.mnt := (d.raiseAs_frame sev code unit wher detail).mnt
@[simp] theorem Dev.raiseAs_pwr (sev : Severity) (code unit wher detail : Nat) : (d.raiseAs sev code unit wher detail).pwr = d.pwr := (d.raiseAs_frame sev code unit wher detail).pwr
@[simp] theorem Dev.raiseAs_sec (sev : Severity) (code unit wher detail : Nat) : (d.raiseAs sev code unit wher detail).sec = d.sec := (d.raiseAs_frame sev code unit wher detail).sec
@[simp] theorem Dev.raiseAs_prt (sev : Severity) (code unit wher detail : Nat) : (d.raiseAs sev code unit wher detail).prt = d.prt := (d.raiseAs_frame sev code unit wher detail).prt
@[simp] theorem Dev.raiseAs_lay (sev : Severity) (code unit wher detail : Nat) : (d.raiseAs sev code unit wher detail).lay = d.lay := (d.raiseAs_frame sev code unit wher detail).lay
@[simp] theorem Dev.raiseAs_bwd (sev : Severity) (code unit wher detail : Nat) : (d.raiseAs sev code unit wher detail).bwd = d.bwd := (d.raiseAs_frame sev code unit wher detail).bwd
@[simp] theorem Dev.raiseAs_row (sev : Severity) (code unit wher detail : Nat) : (d.raiseAs sev code unit wher detail).row = d.row := (d.raiseAs_frame sev code unit wher detail).row
@[simp] theorem Dev.raiseAs_ldg (sev : Severity) (code unit wher detail : Nat) : (d.raiseAs sev code unit wher detail).ldg = d.ldg := (d.raiseAs_frame sev code unit wher detail).ldg
@[simp] theorem Dev.raiseAs_lnk (sev : Severity) (code unit wher detail : Nat) : (d.raiseAs sev code unit wher detail).lnk = d.lnk := (d.raiseAs_frame sev code unit wher detail).lnk
@[simp] theorem Dev.raiseAs_engines (sev : Severity) (code unit wher detail : Nat) : (d.raiseAs sev code unit wher detail).engines = d.engines := (d.raiseAs_frame sev code unit wher detail).engines
@[simp] theorem Dev.raiseAs_free (sev : Severity) (code unit wher detail : Nat) : (d.raiseAs sev code unit wher detail).free = d.free := (d.raiseAs_frame sev code unit wher detail).free

@[simp] theorem Dev.raise_latched (code unit wher detail : Nat) : (d.raise code unit wher detail).latched = d.latched := (d.raise_frame code unit wher detail).latched
@[simp] theorem Dev.raise_lowWords (code unit wher detail : Nat) : (d.raise code unit wher detail).lowWords = d.lowWords := (d.raise_frame code unit wher detail).lowWords
@[simp] theorem Dev.raise_staged (code unit wher detail : Nat) : (d.raise code unit wher detail).staged = d.staged := (d.raise_frame code unit wher detail).staged
@[simp] theorem Dev.raise_frm (code unit wher detail : Nat) : (d.raise code unit wher detail).frm = d.frm := (d.raise_frame code unit wher detail).frm
@[simp] theorem Dev.raise_seq (code unit wher detail : Nat) : (d.raise code unit wher detail).seq = d.seq := (d.raise_frame code unit wher detail).seq
@[simp] theorem Dev.raise_cht (code unit wher detail : Nat) : (d.raise code unit wher detail).cht = d.cht := (d.raise_frame code unit wher detail).cht
@[simp] theorem Dev.raise_hst (code unit wher detail : Nat) : (d.raise code unit wher detail).hst = d.hst := (d.raise_frame code unit wher detail).hst
@[simp] theorem Dev.raise_stk (code unit wher detail : Nat) : (d.raise code unit wher detail).stk = d.stk := (d.raise_frame code unit wher detail).stk
@[simp] theorem Dev.raise_mnt (code unit wher detail : Nat) : (d.raise code unit wher detail).mnt = d.mnt := (d.raise_frame code unit wher detail).mnt
@[simp] theorem Dev.raise_pwr (code unit wher detail : Nat) : (d.raise code unit wher detail).pwr = d.pwr := (d.raise_frame code unit wher detail).pwr
@[simp] theorem Dev.raise_sec (code unit wher detail : Nat) : (d.raise code unit wher detail).sec = d.sec := (d.raise_frame code unit wher detail).sec
@[simp] theorem Dev.raise_prt (code unit wher detail : Nat) : (d.raise code unit wher detail).prt = d.prt := (d.raise_frame code unit wher detail).prt
@[simp] theorem Dev.raise_lay (code unit wher detail : Nat) : (d.raise code unit wher detail).lay = d.lay := (d.raise_frame code unit wher detail).lay
@[simp] theorem Dev.raise_bwd (code unit wher detail : Nat) : (d.raise code unit wher detail).bwd = d.bwd := (d.raise_frame code unit wher detail).bwd
@[simp] theorem Dev.raise_row (code unit wher detail : Nat) : (d.raise code unit wher detail).row = d.row := (d.raise_frame code unit wher detail).row
@[simp] theorem Dev.raise_ldg (code unit wher detail : Nat) : (d.raise code unit wher detail).ldg = d.ldg := (d.raise_frame code unit wher detail).ldg
@[simp] theorem Dev.raise_lnk (code unit wher detail : Nat) : (d.raise code unit wher detail).lnk = d.lnk := (d.raise_frame code unit wher detail).lnk
@[simp] theorem Dev.raise_engines (code unit wher detail : Nat) : (d.raise code unit wher detail).engines = d.engines := (d.raise_frame code unit wher detail).engines
@[simp] theorem Dev.raise_free (code unit wher detail : Nat) : (d.raise code unit wher detail).free = d.free := (d.raise_frame code unit wher detail).free

@[simp] theorem Dev.trace_latched (kind unit wher data : Nat) : (d.trace kind unit wher data).latched = d.latched := (d.trace_frame kind unit wher data).latched
@[simp] theorem Dev.trace_lowWords (kind unit wher data : Nat) : (d.trace kind unit wher data).lowWords = d.lowWords := (d.trace_frame kind unit wher data).lowWords
@[simp] theorem Dev.trace_staged (kind unit wher data : Nat) : (d.trace kind unit wher data).staged = d.staged := (d.trace_frame kind unit wher data).staged
@[simp] theorem Dev.trace_frm (kind unit wher data : Nat) : (d.trace kind unit wher data).frm = d.frm := (d.trace_frame kind unit wher data).frm
@[simp] theorem Dev.trace_seq (kind unit wher data : Nat) : (d.trace kind unit wher data).seq = d.seq := (d.trace_frame kind unit wher data).seq
@[simp] theorem Dev.trace_cht (kind unit wher data : Nat) : (d.trace kind unit wher data).cht = d.cht := (d.trace_frame kind unit wher data).cht
@[simp] theorem Dev.trace_hst (kind unit wher data : Nat) : (d.trace kind unit wher data).hst = d.hst := (d.trace_frame kind unit wher data).hst
@[simp] theorem Dev.trace_stk (kind unit wher data : Nat) : (d.trace kind unit wher data).stk = d.stk := (d.trace_frame kind unit wher data).stk
@[simp] theorem Dev.trace_mnt (kind unit wher data : Nat) : (d.trace kind unit wher data).mnt = d.mnt := (d.trace_frame kind unit wher data).mnt
@[simp] theorem Dev.trace_pwr (kind unit wher data : Nat) : (d.trace kind unit wher data).pwr = d.pwr := (d.trace_frame kind unit wher data).pwr
@[simp] theorem Dev.trace_sec (kind unit wher data : Nat) : (d.trace kind unit wher data).sec = d.sec := (d.trace_frame kind unit wher data).sec
@[simp] theorem Dev.trace_prt (kind unit wher data : Nat) : (d.trace kind unit wher data).prt = d.prt := (d.trace_frame kind unit wher data).prt
@[simp] theorem Dev.trace_lay (kind unit wher data : Nat) : (d.trace kind unit wher data).lay = d.lay := (d.trace_frame kind unit wher data).lay
@[simp] theorem Dev.trace_bwd (kind unit wher data : Nat) : (d.trace kind unit wher data).bwd = d.bwd := (d.trace_frame kind unit wher data).bwd
@[simp] theorem Dev.trace_row (kind unit wher data : Nat) : (d.trace kind unit wher data).row = d.row := (d.trace_frame kind unit wher data).row
@[simp] theorem Dev.trace_ldg (kind unit wher data : Nat) : (d.trace kind unit wher data).ldg = d.ldg := (d.trace_frame kind unit wher data).ldg
@[simp] theorem Dev.trace_lnk (kind unit wher data : Nat) : (d.trace kind unit wher data).lnk = d.lnk := (d.trace_frame kind unit wher data).lnk
@[simp] theorem Dev.trace_engines (kind unit wher data : Nat) : (d.trace kind unit wher data).engines = d.engines := (d.trace_frame kind unit wher data).engines
@[simp] theorem Dev.trace_free (kind unit wher data : Nat) : (d.trace kind unit wher data).free = d.free := (d.trace_frame kind unit wher data).free

/-! ### The journal -/

/-- `e` differs from `d` at most in the security block, in the count of free values (a seal's signature takes one) and in what raising a fault
changes. -/
structure JournalFrame (d e : Dev) : Prop where
  latched : e.latched = d.latched
  lowWords : e.lowWords = d.lowWords
  staged : e.staged = d.staged
  frm : e.frm = d.frm
  seq : e.seq = d.seq
  cht : e.cht = d.cht
  hst : e.hst = d.hst
  stk : e.stk = d.stk
  mnt : e.mnt = d.mnt
  pwr : e.pwr = d.pwr
  prt : e.prt = d.prt
  lay : e.lay = d.lay
  bwd : e.bwd = d.bwd
  row : e.row = d.row
  ldg : e.ldg = d.ldg
  lnk : e.lnk = d.lnk
  engines : e.engines = d.engines

theorem FaultFrame.journalFrame {d e : Dev} (h : FaultFrame d e) : JournalFrame d e where
  latched := h.latched
  lowWords := h.lowWords
  staged := h.staged
  frm := h.frm
  seq := h.seq
  cht := h.cht
  hst := h.hst
  stk := h.stk
  mnt := h.mnt
  pwr := h.pwr
  prt := h.prt
  lay := h.lay
  bwd := h.bwd
  row := h.row
  ldg := h.ldg
  lnk := h.lnk
  engines := h.engines

theorem JournalFrame.trans {a b c : Dev} (h : JournalFrame a b) (k : JournalFrame b c) : JournalFrame a c where
  latched := k.latched.trans h.latched
  lowWords := k.lowWords.trans h.lowWords
  staged := k.staged.trans h.staged
  frm := k.frm.trans h.frm
  seq := k.seq.trans h.seq
  cht := k.cht.trans h.cht
  hst := k.hst.trans h.hst
  stk := k.stk.trans h.stk
  mnt := k.mnt.trans h.mnt
  pwr := k.pwr.trans h.pwr
  prt := k.prt.trans h.prt
  lay := k.lay.trans h.lay
  bwd := k.bwd.trans h.bwd
  row := k.row.trans h.row
  ldg := k.ldg.trans h.ldg
  lnk := k.lnk.trans h.lnk
  engines := k.engines.trans h.engines

/-- A journal entry changes the security block; at the limits of R567 it raises a fault. -/
theorem Dev.journal_frame (source kind : Nat) (digest : Bool) (object who old new : Nat) :
    JournalFrame d (d.journal source kind digest object who old new) := by
  unfold Dev.journal
  split
  · exact (FaultFrame.refl d).journalFrame
  · extract_lets e0 e sealNow s1 d1 u d2
    have h1 : JournalFrame d d1 := by constructor <;> rfl
    have h2 : JournalFrame d d2 := by
      dsimp only [d2]
      split
      · exact h1.trans (Dev.raise_frame _ _ _ _ _).journalFrame
      · exact h1
    split
    · exact h2.trans (Dev.raise_frame _ _ _ _ _).journalFrame
    · exact h2

@[simp] theorem Dev.journal_latched (a b : Nat) (c : Bool) (o w x y : Nat) : (d.journal a b c o w x y).latched = d.latched := (d.journal_frame a b c o w x y).latched
@[simp] theorem Dev.journal_lowWords (a b : Nat) (c : Bool) (o w x y : Nat) : (d.journal a b c o w x y).lowWords = d.lowWords := (d.journal_frame a b c o w x y).lowWords
@[simp] theorem Dev.journal_staged (a b : Nat) (c : Bool) (o w x y : Nat) : (d.journal a b c o w x y).staged = d.staged := (d.journal_frame a b c o w x y).staged
@[simp] theorem Dev.journal_frm (a b : Nat) (c : Bool) (o w x y : Nat) : (d.journal a b c o w x y).frm = d.frm := (d.journal_frame a b c o w x y).frm
@[simp] theorem Dev.journal_seq (a b : Nat) (c : Bool) (o w x y : Nat) : (d.journal a b c o w x y).seq = d.seq := (d.journal_frame a b c o w x y).seq
@[simp] theorem Dev.journal_cht (a b : Nat) (c : Bool) (o w x y : Nat) : (d.journal a b c o w x y).cht = d.cht := (d.journal_frame a b c o w x y).cht
@[simp] theorem Dev.journal_hst (a b : Nat) (c : Bool) (o w x y : Nat) : (d.journal a b c o w x y).hst = d.hst := (d.journal_frame a b c o w x y).hst
@[simp] theorem Dev.journal_stk (a b : Nat) (c : Bool) (o w x y : Nat) : (d.journal a b c o w x y).stk = d.stk := (d.journal_frame a b c o w x y).stk
@[simp] theorem Dev.journal_mnt (a b : Nat) (c : Bool) (o w x y : Nat) : (d.journal a b c o w x y).mnt = d.mnt := (d.journal_frame a b c o w x y).mnt
@[simp] theorem Dev.journal_pwr (a b : Nat) (c : Bool) (o w x y : Nat) : (d.journal a b c o w x y).pwr = d.pwr := (d.journal_frame a b c o w x y).pwr
@[simp] theorem Dev.journal_prt (a b : Nat) (c : Bool) (o w x y : Nat) : (d.journal a b c o w x y).prt = d.prt := (d.journal_frame a b c o w x y).prt
@[simp] theorem Dev.journal_lay (a b : Nat) (c : Bool) (o w x y : Nat) : (d.journal a b c o w x y).lay = d.lay := (d.journal_frame a b c o w x y).lay
@[simp] theorem Dev.journal_bwd (a b : Nat) (c : Bool) (o w x y : Nat) : (d.journal a b c o w x y).bwd = d.bwd := (d.journal_frame a b c o w x y).bwd
@[simp] theorem Dev.journal_row (a b : Nat) (c : Bool) (o w x y : Nat) : (d.journal a b c o w x y).row = d.row := (d.journal_frame a b c o w x y).row
@[simp] theorem Dev.journal_ldg (a b : Nat) (c : Bool) (o w x y : Nat) : (d.journal a b c o w x y).ldg = d.ldg := (d.journal_frame a b c o w x y).ldg
@[simp] theorem Dev.journal_lnk (a b : Nat) (c : Bool) (o w x y : Nat) : (d.journal a b c o w x y).lnk = d.lnk := (d.journal_frame a b c o w x y).lnk
@[simp] theorem Dev.journal_engines (a b : Nat) (c : Bool) (o w x y : Nat) : (d.journal a b c o w x y).engines = d.engines := (d.journal_frame a b c o w x y).engines

end Sys2Proof.Machine
end

