-- ==== Sys2Proof/Laws/Mem.lean ====
section
/-! SUPPORT. What reaching device memory can change (Machine/Mem.lean, Machine/Store.lean): memory in its canonical form, what is attached to
it, protection's freezes and marks, fill work, free values, and what raising a fault changes. -/

namespace Sys2Proof.Machine

/-- `e` differs from `d` at most in what an access to device memory changes. -/
structure AccessDev (d e : Dev) : Prop where
  latched : e.latched = d.latched
  lowWords : e.lowWords = d.lowWords
  staged : e.staged = d.staged
  frm : e.frm = d.frm
  seq : e.seq = d.seq
  cht : e.cht = d.cht
  hst : e.hst = d.hst
  mnt : e.mnt = d.mnt
  pwr : e.pwr = d.pwr
  sec : e.sec = d.sec
  lay : e.lay = d.lay
  bwd : e.bwd = d.bwd
  row : e.row = d.row
  ldg : e.ldg = d.ldg
  lnk : e.lnk = d.lnk
  engines : e.engines = d.engines

theorem AccessDev.refl (d : Dev) : AccessDev d d := by constructor <;> rfl

theorem AccessDev.trans {a b c : Dev} (h : AccessDev a b) (k : AccessDev b c) : AccessDev a c where
  latched := k.latched.trans h.latched
  lowWords := k.lowWords.trans h.lowWords
  staged := k.staged.trans h.staged
  frm := k.frm.trans h.frm
  seq := k.seq.trans h.seq
  cht := k.cht.trans h.cht
  hst := k.hst.trans h.hst
  mnt := k.mnt.trans h.mnt
  pwr := k.pwr.trans h.pwr
  sec := k.sec.trans h.sec
  lay := k.lay.trans h.lay
  bwd := k.bwd.trans h.bwd
  row := k.row.trans h.row
  ldg := k.ldg.trans h.ldg
  lnk := k.lnk.trans h.lnk
  engines := k.engines.trans h.engines

theorem FaultFrame.accessDev {d e : Dev} (h : FaultFrame d e) : AccessDev d e where
  latched := h.latched
  lowWords := h.lowWords
  staged := h.staged
  frm := h.frm
  seq := h.seq
  cht := h.cht
  hst := h.hst
  mnt := h.mnt
  pwr := h.pwr
  sec := h.sec
  lay := h.lay
  bwd := h.bwd
  row := h.row
  ldg := h.ldg
  lnk := h.lnk
  engines := h.engines

theorem accessDev_foldl {α : Type} (f : Dev → α → Dev) (h : ∀ d x, AccessDev d (f d x)) (l : List α) (d : Dev) :
    AccessDev d (l.foldl f d) := by
  induction l generalizing d with
  | nil => exact .refl d
  | cons x r ih => exact (h d x).trans (ih (f d x))

/-- `t` differs from `s` at most in what an access to device memory changes. -/
structure AccessFrame (s t : State) : Prop where
  pending : t.pending = s.pending
  host : t.host = s.host
  mem : s.mem.wf = true → t.mem.wf = true
  dev : AccessDev s.dev t.dev

theorem AccessFrame.refl (s : State) : AccessFrame s s := ⟨rfl, rfl, id, .refl _⟩

theorem AccessFrame.trans {a b c : State} (h : AccessFrame a b) (k : AccessFrame b c) : AccessFrame a c :=
  ⟨k.pending.trans h.pending, k.host.trans h.host, fun w => k.mem (h.mem w), h.dev.trans k.dev⟩

theorem AccessFrame.ofDev {s : State} {e : Dev} (h : AccessDev s.dev e) : AccessFrame s { s with dev := e } := ⟨rfl, rfl, id, h⟩

theorem accessFrame_foldl {α : Type} (f : State → α → State) (h : ∀ s x, AccessFrame s (f s x)) (l : List α) (s : State) :
    AccessFrame s (l.foldl f s) := by
  induction l generalizing s with
  | nil => exact .refl s
  | cons x r ih => exact (h s x).trans (ih (f s x))

/-! ### Codewords and reads -/

theorem Dev.latchUe_access (d : Dev) (k a : Nat) : AccessDev d (d.latchUe k a) := by
  unfold Dev.latchUe
  split
  · exact .refl d
  · constructor <;> rfl

theorem Dev.countGran_access (d : Dev) (g : Nat) (r : Decoded) : AccessDev d (d.countGran g r) := by
  unfold Dev.countGran
  split
  · cases r <;> first | exact .refl d | (constructor <;> rfl)
  · cases r with
    | uncorrectable =>
      rename_i k hk
      have h1 : AccessDev d (d.bumpFld .memUe 0 32 1 k) := by constructor <;> rfl
      have h2 := h1.trans (Dev.latchUe_access _ k (64 * g - stackAddr k 0))
      exact h2.trans (by constructor <;> rfl)
    | _ => first | exact .refl d | (constructor <;> rfl)

theorem State.load_frame (s : State) (unit wher a n : Nat) : AccessFrame s (s.load unit wher a n).2 := by
  unfold State.load
  split
  · exact .refl s
  · refine .ofDev (accessDev_foldl _ (fun d g => ?_) _ _)
    dsimp only
    split
    · split
      · exact (Dev.countGran_access _ _ _).trans (Dev.raise_frame _ _ _ _ _).accessDev
      · exact (Dev.countGran_access _ _ _).trans (Dev.raise_frame _ _ _ _ _).accessDev
    · exact (Dev.countGran_access _ _ _).trans (Dev.raise_frame _ _ _ _ _).accessDev
    · exact Dev.countGran_access _ _ _

theorem Dev.accessFault_access (d : Dev) (inst cls a kind : Nat) (write : Bool) (unit detail : Nat) :
    AccessDev d (d.accessFault inst cls a kind write unit detail) := by
  unfold Dev.accessFault
  dsimp only
  refine .trans ?_ (Dev.raise_frame _ _ _ _ _).accessDev
  split
  · exact .refl d
  · constructor <;> rfl

theorem State.loadPieces_frame (s : State) (unit a o n : Nat) : AccessFrame s (s.loadPieces unit a o n).2 := by
  unfold State.loadPieces
  dsimp only
  generalize (([], false) : List Byte × Bool) = z
  generalize granPieces o n = l
  generalize s.dev.alloc a = e
  induction l generalizing s z with
  | nil => exact .refl s
  | cons p r ih =>
    have h := State.load_frame s unit a (s.dev.translate e p.1) p.2
    generalize hq : s.load unit a (s.dev.translate e p.1) p.2 = q at h
    have k := ih q.2 (z.1 ++ q.1.1, z.2 || q.1.2)
    rw [List.foldl_cons]
    dsimp only
    rw [hq]
    exact h.trans k

theorem State.loadAlloc_frame (s : State) (w : Who) (a o n : Nat) : AccessFrame s (s.loadAlloc w a o n).2 := by
  unfold State.loadAlloc
  split
  · exact .ofDev (Dev.accessFault_access _ _ _ _ _ _ _ _)
  · exact State.loadPieces_frame _ _ _ _ _

/-! ### Writes -/

theorem State.unmark_frame (s : State) (a : Nat) : AccessFrame s (s.unmark a) := by
  unfold State.unmark
  dsimp only
  split
  · exact ⟨rfl, rfl, fun w => Memory.wf_erase _ _ w, by constructor <;> rfl⟩
  · exact .refl s

/-- Writing into a granule changes only what is attached to it and what its decoder counts. -/
theorem Dev.writeGran_access (d : Dev) (g : Nat) (whole poison : Bool) : AccessDev d (d.writeGran g whole poison) := by
  unfold Dev.writeGran
  exact (Dev.countGran_access _ _ _).trans (by constructor <;> rfl)

theorem State.misread_wf (s : State) (g : Nat) (whole : Bool) (w : s.mem.wf = true) : (s.misread g whole).wf = true := by
  unfold State.misread
  split
  · exact w
  · split
    · exact Memory.wf_write _ _ w
    · exact w

theorem State.storeRaw_frame (s : State) (a : Nat) (b : List Byte) (poison : Bool) : AccessFrame s (s.storeRaw a b poison) := by
  unfold State.storeRaw
  extract_lets blocks s1 s2
  have h1 : AccessFrame s s1 := by
    dsimp only [s1]
    split
    · exact .refl s
    · exact accessFrame_foldl _ (fun t k => State.unmark_frame t _) _ _
  have h2 : AccessFrame s1 s2 := by
    dsimp only [s2]
    split
    · exact .refl _
    · refine accessFrame_foldl _ (fun t g => ?_) _ _
      exact ⟨rfl, rfl, State.misread_wf _ _ _, Dev.writeGran_access _ _ _ _⟩
  exact (h1.trans h2).trans ⟨rfl, rfl, fun w => Memory.wf_write a b w, .refl _⟩

theorem Dev.abandonSnapshot_access (d : Dev) (notice : Bool) : AccessDev d (d.abandonSnapshot notice) := by
  unfold Dev.abandonSnapshot
  split
  · exact .refl d
  · dsimp only
    split
    · exact (show AccessDev d _ by constructor <;> rfl).trans (Dev.raise_frame _ _ _ _ _).accessDev
    · constructor <;> rfl

theorem Dev.raiseEach_access {α : Type} (l : List α) (code : Nat) (d : Dev) :
    AccessDev d (l.foldl (fun (x : Dev) _ => x.raise code 24 0 0) d) := by
  induction l generalizing d with
  | nil => exact .refl d
  | cons a r ih => exact (Dev.raise_frame _ _ _ _ _).accessDev.trans (ih _)

theorem Dev.abandonMirror_access (d : Dev) (notice : Bool) (which : MirrorItem → Bool) : AccessDev d (d.abandonMirror notice which) := by
  unfold Dev.abandonMirror
  dsimp only
  split
  · exact .refl d
  · split
    · exact (show AccessDev d _ by constructor <;> rfl).trans (Dev.raiseEach_access _ _ _)
    · constructor <;> rfl

theorem Dev.poolFull_access (d : Dev) (k : Nat) : AccessDev d (d.poolFull k) := by
  unfold Dev.poolFull
  extract_lets on d1 held
  have h1 : AccessDev d d1 := by
    dsimp only [d1]
    split
    · exact Dev.abandonSnapshot_access d true
    · exact .refl d
  exact h1.trans (Dev.abandonMirror_access d1 true _)

theorem State.cow_frame (s : State) (b : Nat) : AccessFrame s (s.cow b) := by
  unfold State.cow
  split
  · exact .refl s
  · split
    · exact .refl s
    · extract_lets k gs found lost
      split
      · exact .ofDev (Dev.poolFull_access _ _)
      · extract_lets s1 stk
        have hf : AccessDev s.dev found := by
          dsimp only [found]
          split
          · exact .refl _
          · exact accessDev_foldl _ (fun d g => Dev.countGran_access d g _) _ _
        have h1 : AccessFrame s s1 := (AccessFrame.ofDev hf).trans (State.storeRaw_frame _ _ _ _)
        exact h1.trans (.ofDev (by constructor <;> rfl))

theorem State.storeBytes_frame (s : State) (a : Nat) (b : List Byte) (poison : Bool) : AccessFrame s (s.storeBytes a b poison) := by
  unfold State.storeBytes
  dsimp only
  split
  · exact State.storeRaw_frame _ _ _ _
  · exact (accessFrame_foldl _ (fun t k => State.cow_frame t k) _ _).trans (State.storeRaw_frame _ _ _ _)

theorem Dev.noteStore_access (d : Dev) (a o n : Nat) : AccessDev d (d.noteStore a o n) := by
  unfold Dev.noteStore
  dsimp only
  split <;> constructor <;> rfl

/-- Writing bytes of an allocation keeps memory canonical and changes nothing but what an access changes. -/
theorem State.poke_frame (s : State) (a o : Nat) (b : List Byte) (poison : Bool) : AccessFrame s (s.poke a o b poison) := by
  unfold State.poke
  exact (accessFrame_foldl _ (fun t p => State.storeBytes_frame t _ _ _) _ _).trans (.ofDev (Dev.noteStore_access _ _ _ _))

theorem State.storeAlloc_frame (s : State) (w : Who) (a o : Nat) (b : List Byte) (poison : Bool) :
    AccessFrame s (s.storeAlloc w a o b poison).2 := by
  unfold State.storeAlloc
  split
  · exact .ofDev (Dev.accessFault_access _ _ _ _ _ _ _ _)
  · exact State.poke_frame _ _ _ _ _

theorem State.storeTile_frame (s : State) (fwd : Bool) (t o : Nat) (b : List Byte) : AccessFrame s (s.storeTile fwd t o b) :=
  (State.storeBytes_frame s _ b false).trans (.ofDev (Dev.discardFill_frame _ _).accessDev)

/-! ### What a write stores, with nothing in its way -/

/-- A part write reads nothing new where no codeword is in error. -/
theorem State.misread_clean (s : State) (g : Nat) (whole : Bool) (h : s.dev.stk.upsets = []) : s.misread g whole = s.mem := by
  unfold State.misread Dev.decodeGran
  rw [h]
  split
  · rfl
  · split
    · rename_i hx
      exfalso
      revert hx
      have h0 : (sramErrors 0).foldl max 0 = 0 := by decide
      split
      · simp
      · split
        · simp
        · split <;> simp [tgetD, tget, h0]
    · rfl

theorem Dev.writeGran_upsets (d : Dev) (g : Nat) (whole poison : Bool) (h : d.stk.upsets = []) :
    (d.writeGran g whole poison).stk.upsets = [] := by
  unfold Dev.writeGran Dev.noteGran
  have hc : ∀ r, (d.countGran g r).stk.upsets = [] := by
    intro r
    unfold Dev.countGran
    split
    · cases r <;> first | exact h | (simp only []; show tdel d.stk.upsets g = []; rw [h]; rfl)
    · cases r <;> first | exact h | (show (Dev.latchUe _ _ _).stk.upsets = []; unfold Dev.latchUe; split <;> exact h)
  dsimp only
  rw [hc]
  rfl

theorem State.storeRaw_mem (s : State) (a : Nat) (b : List Byte) (h : s.dev.stk.zero = []) (u : s.dev.stk.upsets = []) :
    (s.storeRaw a b).mem = s.mem.write a b := by
  unfold State.storeRaw
  simp only [h, List.isEmpty_nil, if_true]
  split
  · rfl
  · have : ∀ (l : List Nat) (t : State), t.dev.stk.upsets = [] →
        (l.foldl (fun (t : State) g =>
          let whole := decide (a ≤ 64 * g) && decide (64 * g + 64 ≤ a + b.length)
          { t with mem := t.misread g whole, dev := t.dev.writeGran g whole false }) t).mem = t.mem := by
      intro l
      induction l with
      | nil => intro t _; rfl
      | cons g r ih =>
        intro t ht
        rw [List.foldl_cons, ih _ (Dev.writeGran_upsets _ _ _ _ ht)]
        exact State.misread_clean _ _ _ ht
    show Memory.write _ _ _ = _
    rw [this _ _ u]

end Sys2Proof.Machine
end

