-- ==== Sys2Proof/Laws/Step.lean ====
section
/-! SUPPORT. A step takes the front of the queue. -/

namespace Sys2Proof.Machine

theorem step_empty {s : State} (h : s.pending = []) : step s = .next s := by
  simp [step, h]

theorem step_cons {s : State} {c : Instr} {r : List Instr} (h : s.pending = c :: r) : step s = exec c { s with pending := r } := by
  simp [step, h]

end Sys2Proof.Machine
end

