-- ==== Sys2Proof/WellFormed.lean ====
section
/-! DEFINITION. Which commands the H1's edges can carry: the operand ranges that a type does not already fix. A
meaning is total all the same; a term that is not well formed stands for no event of the hardware. -/

namespace Sys2Proof

/-- The bytes of host memory have addresses in the 64-bit space of CXL.cache (R521, R522). -/
def wfWrites (w : List (Nat × Byte)) : Bool := w.all (fun p => decide (p.1 < 2 ^ 64))

/-- A span is 1 to 65,536 cycles (Table 1.6). -/
def wfSpan (n : Nat) : Bool := decide (1 ≤ n) && decide (n ≤ 65536)

/-- The readings of a tick are within their registers (R547, Table 13.1). -/
def TickObs.wf (o : TickObs) : Bool :=
  decide (o.stretched < 2 ^ 24) && decide (o.energy < 2 ^ 32) && o.hostBad.all (fun r => decide (r < 64)) &&
  o.sigOk.all (fun r => decide (r < 64)) && decide (o.temps.length = 37)

/-- The operands lie in the ranges of the hardware: spans (Table 1.6), flits (R407, R421), 64-bit addresses (R521, R522), the 72 symbols
of a codeword (R364), the endpoints of R100, the journal's slots (R567), the 1,793 bytes of a key (R557), the 37 sensors of R551. -/
def Instr.wf : Instr → Bool
  | .tick o => o.wf
  | .doorbell _ _ w => wfWrites w
  | .continue_ _ span => wfSpan span
  | .setTag _ _ span => wfSpan span
  | .fillQueue _ _ span => wfSpan span
  | .fillWindow _ _ span => wfSpan span
  | .fillRetire _ _ span => wfSpan span
  | .fillRunAheadStart _ tile _ => decide (tile < 1024)
  | .fwdWindow _ _ span => wfSpan span
  | .fwdWload _ _ span => wfSpan span
  | .fwdClear _ _ span => wfSpan span
  | .bwdWindow _ _ span => wfSpan span
  | .bwdBload _ _ span => wfSpan span
  | .bwdClear _ _ span => wfSpan span
  | .bwdDeposit _ _ span => wfSpan span
  | .mintLoad _ _ span => wfSpan span
  | .mintStore _ _ span => wfSpan span
  | .mintScales _ _ span => wfSpan span
  | .dmaCopy _ _ span => wfSpan span
  | .layCopy _ _ span => wfSpan span
  | .streamSend _ _ span => wfSpan span
  | .streamExpect _ _ span => wfSpan span
  | .streamBind _ _ span => wfSpan span
  | .rowRun _ _ span => wfSpan span
  | .lossAdd _ span => wfSpan span
  | .clear _ span => wfSpan span
  | .report _ span => wfSpan span
  | .settle _ span => wfSpan span
  | .flitReceive _ _ _ _ _ body => decide (body.length = 628)
  | .controlFlitReceive _ _ flit _ => decide (flit.length = 624)
  | .halted offsets => decide (offsets.length ≤ 37)
  | .hdmDecoderCommit _ base size sk => decide (base < 2 ^ 36) && decide (size < 2 ^ 36) && decide (sk < 2 ^ 64)
  | .cxlMemRead haddr errs => decide (haddr < 2 ^ 64) && decide (errs ≤ 72)
  | .cxlMemWrite haddr _ _ _ => decide (haddr < 2 ^ 64)
  | .scrubRead _ errs => decide (errs ≤ 72)
  | .jrnRead _ count => decide (count ≤ 65536)
  | .keyWrite _ _ key _ => decide (key.length ≤ 1793)
  | .hostSnoop haddr _ => decide (haddr < 2 ^ 64)
  | .thermalMarginLow temps => decide (temps.length = 37)
  | .thermalMarginExhausted temps => decide (temps.length = 37)
  | .thermalMarginRecovered temps => decide (temps.length = 37)
  | _ => true

end Sys2Proof
end

