-- ==== Sys2Proof/Tests/Slice0.lean ====
section
/-! SUPPORT. The checks of WellFormed on ill-formed terms, single steps on small states with values taken from the spec, and for each
obligation with hypotheses a state and operands that meet them. -/

namespace Sys2Proof.Tests

open Sys2Proof.Machine Sys2Proof.Safety

set_option Elab.async false

/-! ### Ill-formed commands are refused -/

/-- Readings of a cool, idle frame. -/
def calm : TickObs :=
  { stretched := 0, energy := 0, watts := 300, volts := 4800, meanSecond := 300, mean10 := 300, inlet := 30, temps := List.replicate 37 50
    hostBad := [], sigOk := [], queueCheckFails := false, elapsedNs := 0 }

theorem test_wf_tick : (Instr.tick calm).wf = true ∧ (Instr.tick { calm with hostBad := [64] }).wf = false ∧
    (Instr.tick { calm with sigOk := [64] }).wf = false ∧ (Instr.tick { calm with energy := 2 ^ 32 }).wf = false ∧
    (Instr.tick { calm with stretched := 2 ^ 24 }).wf = false := by decide

/-- R551: there are 37 sensors. -/
theorem test_wf_sensors : (Instr.tick { calm with temps := [] }).wf = false ∧ (Instr.thermalMarginLow (List.replicate 36 50)).wf = false ∧
    (Instr.thermalMarginExhausted (List.replicate 38 50)).wf = false ∧ (Instr.thermalMarginRecovered []).wf = false ∧
    (Instr.thermalMarginRecovered (List.replicate 37 50)).wf = true := by decide

theorem test_wf_host_addresses : (Instr.doorbell 0 0 [(2 ^ 64, 0)]).wf = false ∧ (Instr.cxlMemRead (2 ^ 64) 0).wf = false ∧
    (Instr.cxlMemWrite (2 ^ 64) 0 0 false).wf = false ∧ (Instr.hostSnoop (2 ^ 64) .data).wf = false ∧
    (Instr.hdmDecoderCommit 0 (2 ^ 36) 1 0).wf = false := by decide

theorem test_wf_symbols : (Instr.cxlMemRead 0 73).wf = false ∧ (Instr.scrubRead 0 73).wf = false := by decide

theorem test_wf_lengths : (Instr.halted (List.replicate 38 0)).wf = false ∧ (Instr.jrnRead 0 65537).wf = false ∧
    (Instr.fillRunAheadStart 0 1024 0).wf = false := by decide

theorem test_wf_flits : (Instr.flitReceive 0 0 true 0 0 (List.replicate 625 0)).wf = false ∧ (Instr.controlFlitReceive 0 0 [] 0).wf = false ∧
    (Instr.keyWrite 0 0 (List.replicate 1794 0) false).wf = false := by decide +kernel

/-- A span of 0, or above 65,536, is no span (Table 1.6). -/
theorem test_wf_spans : ∀ n ∈ [0, 65537], ∀ c ∈ [Instr.continue_ 0 n, .setTag 0 0 n, .fillQueue 0 0 n, .fillWindow 0 0 n, .fillRetire 0 0 n,
    .fwdWindow 0 0 n, .fwdWload 0 0 n, .fwdClear 0 0 n, .bwdWindow 0 0 n, .bwdBload 0 0 n, .bwdClear 0 0 n, .bwdDeposit 0 0 n,
    .mintLoad 0 0 n, .mintStore 0 0 n, .mintScales 0 0 n, .dmaCopy 0 0 n, .layCopy 0 0 n, .streamSend 0 0 n, .streamExpect 0 0 n,
    .streamBind 0 0 n, .rowRun 0 0 n, .lossAdd 0 n, .clear 0 n, .report 0 n, .settle 0 n], c.wf = false := by decide

/-- The opcode table gives no row any bits. -/
theorem test_no_words : decodeTableWord 32 0 = none ∧ (State.reset.withFetchWord 32 0).pending = [] := ⟨rfl, rfl⟩

/-! ### Small states -/

/-- The reset state with another device. -/
def on (d : Dev) : State := { State.reset with dev := d }

/-- The device after power-good, in a start-up stage. -/
def booted (stage : Nat) : Dev := { State.reset.dev with hst := { State.reset.dev.hst with stage := stage }, pwr := { State.reset.dev.pwr with rails := true } }

/-- A number placed in a blank part of a memory, least significant byte first. -/
def put (m : Memory) (a n v : Nat) : Memory := (List.range n).foldl (fun (x : Memory) i =>
  if v / 256 ^ i % 256 = 0 then x else x.set (a + i) (BitVec.ofNat 8 (v / 256 ^ i))) m

/-- A charter with a forward and a backward group of one tile each, streams of each class both ways on port 0, a plain, a ledger, a vault
and an SRAM allocation, two layers, and a class 3 tensor. -/
def chart : Charter :=
  { id := 1, settings := 16 + 2 ^ 8 * 5 + 2 ^ 32 * 7
    groups := [1 + 2 ^ 8 + 2 ^ 128, 2 + 2 ^ 8 + 2 ^ 128]
    streams := (List.range 10).map (fun i => BitVec.ofNat 128 (1 + 2 ^ 7 * (i % 2) + 2 ^ 28 * (i / 2) + 2 ^ 32 * 62400))
    allocs := [1 + 2 ^ 8 + 2 ^ 64 * 65536 + 2 ^ 128 * 0xFFFF, 1 + 2 + 2 ^ 8 + 2 ^ 32 * 0x100 + 2 ^ 64 * 65536 + 2 ^ 128 * 0xFFFF,
      1 + 2 ^ 8 + 2 ^ 32 * 0x200 + 2 ^ 64 * 65536 + 2 ^ 128 * 0xFFFF, 1 + 2 * 3 + 2 ^ 8 + 2 ^ 32 * 0x300 + 2 ^ 64 * 65536 + 2 ^ 128 * 0xFFFF]
    layers := [2 ^ 6 + 2 ^ 12 + 2 ^ 25 + 0xFFF * 2 ^ 72]
    tensors := [1 + 2 ^ 12 * 3]
    prot := [1 + 2 ^ 16 * 2 + 0xFF * 2 ^ 32 + 0xFF * 2 ^ 96] }

/-- A run in the first frame of its first step, its program at bundle 0 and its operand table at bundle 16. -/
def running : Dev :=
  { booted 9 with
    cht := { active := some chart }, frm := { State.reset.dev.frm with frame := 100, started := true, aligned := true }
    seq := { State.reset.dev.seq with
      run := some { cmd := {}, base := 0, optab := 16, n := 1, loops := List.replicate 16 2, s := 4, first := 100 }
      inStep := true, waiting := false } }

/-- Address of an operand-table index of that run. -/
def op (i : Nat) : Nat := 0x40000000000 + 64 * 16 + 16 * i

/-- The running device with numbers placed in device memory. -/
def runWith (d : Dev) (l : List (Nat × Nat × Nat)) : State :=
  { State.reset with dev := d, mem := l.foldl (fun (m : Memory) x => put m x.1 x.2.1 x.2.2) State.reset.mem }

/-- A bundle with its CHECK: KIND, LOOP, SEQ, SPAN − 1 and slots. -/
def bundleOf (kind loop seq span slots : Nat) : Nat :=
  let h := span + 2 ^ 16 * seq + 2 ^ 32 * kind + 2 ^ 35 * loop
  h + 2 ^ 48 * crcHeader h + 2 ^ 64 * slots

/-- A run whose next bundle is this one. -/
def atBundle (b : Nat) : State := runWith running [(0x40000000000, 64, b)]

/-- The register of an address satisfies a check. -/
def cardAt (a : Nat) (p : RegDef → Nat → Bool) : Bool := match regAt a with
  | some (c, i) => p c i
  | none => false

theorem cardAt_some {a : Nat} {p : RegDef → Nat → Bool} (h : cardAt a p = true) : ∃ c i, regAt a = some (c, i) ∧ p c i = true := by
  unfold cardAt at h
  split at h
  · exact ⟨_, _, by assumption, h⟩
  · cases h

/-! ### States that meet the hypotheses: registers, start-up and power -/

theorem meets_front_command : ({ State.reset with pending := [.droop, .thermalTrip] } : State).pending = .droop :: [.thermalTrip] := rfl

theorem meets_step_keeps_canonical : MemoryCanonical State.reset ∧ ∃ t, step State.reset = .next t := ⟨by decide, State.reset, rfl⟩

theorem meets_low_word_read : ∃ c h i j, regAt Reg.frmCountLo.card.addr = some (c, i) ∧ c.reg.isLow = true ∧
    regAt (Reg.frmCountLo.card.addr + 4) = some (h, j) := by
  obtain ⟨c, i, h, h'⟩ := cardAt_some (a := Reg.frmCountLo.card.addr) (p := fun c _ => c.reg.isLow) (by decide +kernel)
  obtain ⟨e, j, k, _⟩ := cardAt_some (a := Reg.frmCountLo.card.addr + 4) (p := fun _ _ => true) (by decide +kernel)
  exact ⟨c, e, i, j, h, h', k⟩

theorem meets_high_word_write : (BitVec.ofNat 24 Reg.fltAtLo.card.addr).toNat = Reg.fltAtLo.card.addr ∧
    (BitVec.ofNat 24 Reg.fltAtHi.card.addr).toNat = Reg.fltAtHi.card.addr ∧ JournalRoom State.reset.dev 2 := by decide

/-- RING_CFG is a staged read-write register. -/
theorem meets_staged_write : JournalRoom State.reset.dev 1 ∧ cardAt Reg.hstRingCfg.card.addr (fun c i =>
    decide ((c.reg.chipOnly = true → i = 0) ∧ c.wo = 0 ∧ c.w1c = 0 ∧ c.rw ≠ 0 ∧ c.imm = 0 ∧ c.reg.isLowRw = false ∧
      c.reg.isHighRw = false)) = true := by decide +kernel

/-- FRM.LEN is read only; offset 0x000004 is unoccupied. -/
theorem meets_read_only_and_unoccupied : cardAt Reg.frmLen.card.addr (fun c _ =>
    decide (c.rw = 0 ∧ c.w1c = 0 ∧ c.wo = 0 ∧ c.reg.isLowRw = false ∧ c.reg.isHighRw = false)) = true ∧
    regAt 4 = none ∧ inKeyWindow 4 = false ∧ inMsix 4 = false ∧ Room State.reset.dev 1 := by decide +kernel

/-- MNT.HIST_SEL is immediate; FRM.OVR is write-1-clear, with nothing to clear at reset and with OVR set. -/
theorem meets_immediate_and_clearing : JournalRoom State.reset.dev 1 ∧
    cardAt Reg.mntHistSel.card.addr (fun c i => decide ((c.reg.chipOnly = true → i = 0) ∧ c.wo = 0 ∧ c.reg.isLowRw = false ∧
      c.reg.isHighRw = false ∧ c.w1c = 0 ∧ c.imm ≠ 0 ∧ State.reset.dev.reg c.reg i < 2 ^ 32 ∧
      State.reset.dev.reg c.reg i &&& c.rw = State.reset.dev.reg c.reg i)) = true ∧
    cardAt Reg.frmOvr.card.addr (fun c i => decide ((c.reg.chipOnly = true → i = 0) ∧ c.wo = 0 ∧ c.reg.isLowRw = false ∧
      c.reg.isHighRw = false ∧ c.w1c ≠ 0 ∧ State.reset.dev.reg c.reg i < 2 ^ 32 ∧ 0 &&& c.w1c = 0 ∧ c.w1c &&& c.w1c ≠ 0 ∧
      State.reset.dev.quantity c.reg i 0 &&& c.w1c = 0 ∧ (State.reset.dev.setReg c.reg c.w1c).quantity c.reg i 0 &&& c.w1c ≠ 0)) = true := by
  decide +kernel

/-- R11: the high word of FRM.COUNT as it stood at the low word's read. -/
theorem test_high_word_latched : let d : Dev := { State.reset.dev with frm := { State.reset.dev.frm with frame := 0x123456789A } }
    (match exec (.lowWordRead (BitVec.ofNat 24 Reg.frmCountLo.card.addr)) (on d) with
      | .next t => (t.dev.out.head?, (({ t with dev := { t.dev with frm := State.reset.dev.frm } } : State).busRead .host Reg.frmCountHi.card.addr).1)
      | _ => (none, 0)) = (some (.value 0x3456789A), 0x12) := by decide +kernel

theorem meets_boot : (booted 2).hst.stage = 2 ∧ (booted 2).hst.failed = false ∧ (booted 2).sec.minSvn ≤ (0 : BitVec 16).toNat ∧
    (booted 2).sec.fallback = false ∧ Room (booted 2) 2 ∧ State.reset.dev.pwr.rails = false := by decide

theorem meets_boot_second_failure : let d : Dev := { booted 2 with sec := { (booted 2).sec with fallback := true } }
    d.hst.stage = 2 ∧ d.hst.failed = false ∧ d.sec.fallback = true ∧ Room d 2 := by decide

theorem meets_power_good : (State.reset.dev.pwr.rails = false ∧ State.reset.dev.hst.latchedCause = none) ∧
    let d : Dev := { State.reset.dev with hst := { State.reset.dev.hst with latchedCause := some 0x9001 } }
    d.pwr.rails = false ∧ d.hst.latchedCause = some 0x9001 ∧ JournalRoom d 1 := by decide

/-- A journal of two entries whose newest CHAIN is not the digest that R564 asks for. -/
theorem meets_broken_chain : ∃ l : List JEntry, chainOk 256 l = false := by
  let a : JEntry := { seq := 0, frame := 0, source := 1, kind := 1, object := 0, chain := 7 }
  let b : JEntry := { a with seq := 1 }
  refine ⟨[{ b with chain := shake256 (leBytes 32 7 ++ b.body) + 1 }, a], ?_⟩
  simp [chainOk, JEntry.body, a, b]

theorem meets_whole_chain : chainOk 256 (booted 2).sec.journal = true ∧ Room (booted 2) 1 := by decide

theorem meets_svn_rise : let d : Dev := { booted 4 with sec := { (booted 4).sec with raiseSvn := some 3 } }
    d.hst.stage = 4 ∧ d.hst.failed = false ∧ d.sec.raiseSvn = some 3 ∧ d.sec.fallback = false ∧ Room d 2 ∧ (booted 9).hst.stage ∉ [2, 3, 4, 7] := by
  decide

theorem meets_start_up : (booted 3).hst.stage = 3 ∧ (booted 4).hst.stage = 4 ∧ (booted 4).hst.failed = false ∧ Room (booted 4) 2 ∧
    (booted 7).hst.stage ∈ [2, 3, 4, 7] ∧ (booted 0).hst.stage < 7 := by decide

/-- R538: memory is trained once all 12 stacks have reported. -/
theorem test_memory_trained : (match exec (.memoryTrained 0x7FF) (on (booted 3)) with
    | .next t => (match exec (.memoryTrained 0x800) t with
      | .next u => (t.dev.hst.stage, u.dev.hst.stage)
      | _ => (0, 0))
    | _ => (0, 0)) = (3, 4) := by decide +kernel

theorem meets_input_fault : (booted 9).pwr.rails = true ∧ (Instr.thermalTrip, 0x9022) ∈ [(Instr.inputUndervoltage, 0x9001),
    (.inputOvervoltage, 0x9002), (.inputCurrentLimit, 0x9013), (.thermalTrip, 0x9022)] := by decide

theorem meets_power_excess : let d : Dev := { State.reset.dev with
      pwr := { State.reset.dev.pwr with since9011 := some (10 ^ 9 - 1), raised9012 := true }, seq := { State.reset.dev.seq with inStep := true } }
    Room d 1 ∧ d.pwr.since9011 = some (10 ^ 9 - 1) ∧ d.seq.inStep = true ∧ d.pwr.raised9012 = true ∧
    Room State.reset.dev 1 ∧ State.reset.dev.pwr.since9011 = none ∧ State.reset.dev.seq.inStep = false := by decide

/-- R546: one 0x9011 in any 1,000 ms. -/
theorem test_sustained_excess_limit : let d : Dev := { State.reset.dev with pwr := { State.reset.dev.pwr with since9011 := some (10 ^ 9) } }
    (match exec .sustainedPowerExcess (on d) with
      | .next t => t.dev.flt.queue.map FaultRec.code
      | _ => []) = [0x9011] := by decide +kernel

theorem meets_droop : State.reset.dev.pwr.droop = false ∧ State.reset.dev.reg .pwrDroop < 2 ^ 32 ∧
    ({ State.reset.dev.pwr with droop := true } : Pwr).droop = true := by decide

theorem meets_thermal : Room State.reset.dev 1 ∧ State.reset.dev.reg .pwrStatus < 2 ^ 32 ∧ State.reset.dev.reg .pwrTherm < 2 ^ 32 ∧
    40 < (41 : BitVec 8).toNat ∧ State.reset.dev.regFld .pwrStatus 5 1 = 0 ∧ State.reset.dev.regFld .pwrStatus 4 1 = 0 ∧
    (38 : BitVec 8).toNat < 39 := by decide

/-- Sensors that all read the same temperature. -/
def sensors (t : BitVec 8) : List (BitVec 8) := List.replicate 37 t

theorem meets_thermal_margins : (∀ t ∈ [0, 89, 90, 91, 94, 95, 255], (sensors t).length = 37) ∧ thermalMargin (sensors 91) < 5 ∧
    thermalMargin (sensors 95) ≤ 0 ∧ thermalMargin (sensors 255) ≤ 0 ∧ 6 ≤ thermalMargin (sensors 89) ∧ 5 ≤ thermalMargin (sensors 90) ∧
    0 < thermalMargin (sensors 94) ∧ thermalMargin (sensors 90) < 6 := by decide +kernel

/-- R551: a logic die at 104 °C and a stack logic die at 95 °C: the stack's margin is the lower. -/
theorem test_least_margin : thermalMargin ((sensors 50).set 3 104) = 1 ∧ thermalMargin (((sensors 50).set 3 104).set 25 95) = 0 ∧
    hottestSensor (((sensors 50).set 3 104).set 25 95) = (3, 104) := by decide +kernel

/-- Readings at the bounds that raise and clear nothing, and a device whose status bits are set. -/
theorem meets_thermal_bounds : (40 : BitVec 8).toNat ≤ 40 ∧ 39 ≤ (39 : BitVec 8).toNat ∧ ((State.reset.dev.setFld .pwrStatus 5 1 1).regFld .pwrStatus 5 1 = 1) ∧
    ((State.reset.dev.setFld .pwrStatus 4 1 1).regFld .pwrStatus 4 1 = 1) := by decide

/-- R551: an inlet of 40 °C is not above 40 °C. -/
theorem test_inlet_at_its_limit : (match exec (.inletHigh 40) State.reset with
    | .next t => t.dev.flt.queue.map FaultRec.code
    | _ => [1]) = [] := by decide +kernel

/-! ### Keys, journal, trace, management -/

/-- The running device with a single journal entry. -/
def journalled : Dev :=
  { booted 9 with sec := { (booted 9).sec with
      journal := [{ seq := 5, frame := 1, source := 1, kind := 1, object := 0, chain := 7 }], nextSeq := 6, acked := 5 } }

theorem meets_keys : JournalRoom (booted 9) 1 ∧ 3 ≤ (booted 9).hst.stage ∧ (booted 9).seq.run = none ∧ running.seq.run ≠ none ∧
    Room running 1 ∧ (0x7021, 0) ∉ running.lnk.raised ∧ running.lnk.links.filter Link.foreign = [] ∧ ([0x0A] : List Byte).headD 0 = 0x0A ∧ ([0x0B] : List Byte).headD 0 ≠ 0x0A := by decide

/-- A running device with one link, which has become foreign. -/
def foreign (raised : List (Nat × Nat)) : Dev :=
  { running with lnk := { running.lnk with raised := raised, links := [{ port := 3, fp := 9, farPort := 0, lanes := [2], up := true, foreign := true }] } }

theorem meets_yield : (∃ l, (foreign []).lnk.links.filter Link.foreign = [l] ∧ (0x7021, l.key) ∉ (foreign []).lnk.raised ∧
      (0x7021, l.key) ∈ (foreign [(0x7021, l.key)]).lnk.raised) ∧ (foreign []).seq.run ≠ none ∧ JournalRoom (foreign []) 0 ∧
    (0x7021, 0) ∈ ({ running.lnk with raised := [(0x7021, 0)] } : Lnk).raised :=
  ⟨⟨_, rfl, List.not_mem_nil, List.mem_cons_self⟩, by decide, by decide, by decide⟩

theorem meets_seals : JournalRoom journalled 1 ∧ (∃ e rest, journalled.sec.journal = e :: rest) ∧ journalled.sec.seals.length < 512 ∧
    3 ≤ journalled.hst.stage ∧ journalled.sec.acked ≤ (5 : BitVec 64).toNat ∧ (5 : BitVec 64).toNat < journalled.sec.nextSeq ∧
    journalled.sec.nextSeq ≤ (6 : BitVec 64).toNat ∧ Room journalled 1 :=
  ⟨by decide, ⟨_, _, rfl⟩, by decide, by decide, by decide, by decide, by decide, by decide⟩

theorem meets_seals_bounds : (4 : BitVec 64).toNat + 1 = journalled.sec.acked ∧ journalled.sec.acked ≤ journalled.sec.nextSeq ∧
    (3 : BitVec 64).toNat + 1 < journalled.sec.acked ∧ (booted 9).sec.journal = [] ∧ 3 ≤ (booted 9).hst.stage := by decide

theorem meets_seals_full : 512 ≤ (List.replicate 512 ({ seq := 0, chain := 0, sig := [] } : Seal)).length := by decide +kernel

/-- The booted device under a trace policy, in a state of recording. -/
def traced (policy : Nat) (x : TrcState) (rec : List Nat) : Dev :=
  { booted 9 with
    cht := { active := some { chart with
      settings := 16 + 2 ^ 8 * 5 + 2 ^ 32 * (7 + 8 * BitVec.ofNat 512 policy)
      allocs := [1 + 2 * 5 + 2 ^ 8 + 2 ^ 64 * 65536 + 2 ^ 128 * 0xFFFF] } }
    obs := { (booted 9).obs with state := x, buffer := rec, undrained := rec.length } }

theorem meets_trace : JournalRoom (traced 2 .armed []) 1 ∧ (traced 2 .off []).modeTrc = 2 ∧ (traced 2 .armed []).obs.state = .armed ∧
    (traced 2 .recording []).obs.state ∉ [TrcState.off, .full, .paused] ∧ (traced 2 .armed []).reg .obsTrcStatus < 2 ^ 32 ∧
    (booted 9).traceAlloc = none ∧ (booted 9).obs.state = .off := by decide +kernel

theorem meets_trace_dump_and_drain : let d := (traced 3 .full [1, 2, 3]).setReg .obsTrcAlloc 0
    d.traceAlloc ≠ none ∧ d.obs.state = .full ∧ d.prt.frozen = [] ∧ d.modeTrc = 3 ∧ 0 < d.obs.undrained ∧ d.obs.buffer ≠ [] ∧
    (traced 2 .off []).modeTrc ≠ 3 := by decide +kernel

theorem meets_trace_forms : (traced 3 .armed []).modeTrc ≠ 2 ∧
    ((traced 3 .full [1, 2, 3]).setReg .obsTrcAlloc 0).traceAlloc = some (0, 2048) ∧ (traced 3 .full []).obs.undrained = 0 := by decide +kernel

theorem meets_management : State.reset.dev.hst.stage < 2 ∧ (booted 2).hst.stage = 2 ∧ 3 ≤ journalled.hst.stage ∧
    (BitVec.ofNat 24 Reg.hstStart.card.addr).toNat = Reg.hstStart.card.addr ∧ (0 : BitVec 24).toNat ≠ Reg.hstStart.card.addr ∧
    (∃ e, journalled.sec.journal.filter (fun (x : JEntry) => decide ((5 : BitVec 64).toNat ≤ x.seq ∧ x.seq < (5 : BitVec 64).toNat + 1)) = [e]) ∧
    cardAt Reg.frmLen.card.addr (fun c _ => decide (tget journalled.latched Reg.frmLen.card.addr = none ∧ c.reg.isLow = false)) = true :=
  ⟨by decide, by decide, by decide, by decide, by decide, ⟨_, rfl⟩, by decide +kernel⟩

theorem meets_update : 2 ≤ (booted 9).hst.stage ∧ JournalRoom (booted 9) 1 ∧ (booted 9).updateBusy = false ∧ running.updateBusy = true ∧
    (booted 9).sec.updating = false ∧ (booted 9).sec.image = none ∧ (booted 9).sec.minSvn ≤ (0 : BitVec 16).toNat ∧ Room (booted 9) 1 := by
  decide +kernel

theorem meets_update_session : let d : Dev := { booted 9 with sec := { (booted 9).sec with updating := true, minSvn := 2, image := some (0, 2) } }
    2 ≤ d.hst.stage ∧ JournalRoom d 1 ∧ d.sec.updating = true ∧ d.sec.minSvn ≤ (2 : BitVec 16).toNat ∧ (1 : BitVec 16).toNat < d.sec.minSvn ∧
    d.sec.image = some (0, 2) ∧ Room d 1 := by decide

/-! ### Faults, orders and stops -/

/-- A waiting record. -/
def waiting : FaultRec := { code := 0x1030, sev := .degrade, unit := 3, wher := 4, seq := 9 }

theorem meets_orders : let o : Order := { src := .host, bits := 1, key := 0xA4, at_ := 0, arrival := 0 }
    o.cmd = none ∧ o.key ≠ 0xA5 ∧ JournalRoom State.reset.dev 1 ∧ Room State.reset.dev 1 := by decide

/-- Ring 0 is enabled and holds one entry that has not been examined. -/
def ringed (d : Dev) : Dev := { d with hst := { d.hst with rings := { live := true, tail := 1 } :: d.hst.rings.drop 1 } }

/-- A STOP entry: order 1 with its key. -/
def stopEntry : BitVec 1024 := 7 + 2 ^ 128 + 2 ^ 136 * 0xA5

theorem meets_stop_command : ((ringed running).ring 0).due = true ∧ Entry.opcode stopEntry = 7 ∧ Entry.wellFormed stopEntry = true ∧
    Entry.key stopEntry = 0xA5 ∧ Entry.order stopEntry = 1 ∧ Entry.stopAt stopEntry = 0 ∧ Entry.opcode 7 = 7 ∧
    Entry.wellFormed (stopEntry + 2 ^ 144) = false ∧ (ringed running).flt.stop = .running ∧ (ringed running).flt.halting = none ∧
    (ringed running).flt.chipStop = false ∧ (ringed running).flt.pending = none ∧ (ringed running).flt.boundary = none ∧ (ringed running).flt.fabric = none ∧
    (ringed running).flt.resume = none ∧ JournalRoom (ringed running) 3 ∧ Room (ringed running) 2 ∧ (running.ring 0).due = false := by
  decide +kernel

/-- A STOP entry with its key, an order and AT. -/
def ordering (order at_ : Nat) : BitVec 1024 := BitVec.ofNat 1024 (7 + 2 ^ 128 * order + 2 ^ 136 * 0xA5 + 2 ^ 192 * at_)

theorem meets_stop_orders : (∀ n ∈ [0, 1, 3, 5, 7, 9, 11, 16, 32], Entry.wellFormed (ordering n 0) = true ∧ Entry.order (ordering n 0) = n ∧
      Entry.key (ordering n 0) = 0xA5 ∧ Entry.stopAt (ordering n 0) = 0) ∧
    Entry.key (stopEntry - 2 ^ 136) ≠ 0xA5 ∧ Entry.stopAt (ordering 1 105) = 105 ∧ frameBefore (ringed running).frm.frame 105 = true := by decide +kernel

/-- The running device stopping since tick 90, longest stream deadline 1. -/
def stopping : Dev := { running with flt := { running.flt with stop := .stopping, stopTick := 90 } }

theorem meets_stop_complete : stopping.flt.stop = .stopping ∧ stopping.flt.halting = none ∧
    tickDue (frameAfter stopping.flt.stopTick stopping.dMax) (frameAfter stopping.frm.frame 1) = true ∧ stopping.prt.mirrorState ≠ .streaming ∧ stopping.frm.cycle = 0 ∧ stopping.modeTrc ≠ 3 ∧
    running.flt.stop ≠ .stopping := by decide +kernel

theorem meets_stop_complete_with_drain : let d : Dev := { traced 3 .paused [1, 2] with flt := { running.flt with stop := .stopping }
                                                                                       frm := { running.frm with frame := 5 } }
    d.flt.stop = .stopping ∧ d.flt.halting = none ∧ tickDue (frameAfter d.flt.stopTick d.dMax) (frameAfter d.frm.frame 1) = true ∧
    d.prt.mirrorState ≠ .streaming ∧ d.frm.cycle = 0 ∧ d.modeTrc = 3 ∧ d.prt.frozen = [] := by decide +kernel

theorem meets_halted : let r : HaltRecord := { frame := 0, h := 0, cause := 0, source := 0, index := 0, seq := 0, step := 0
                                               units := List.replicate 37 (0, 0, 0) }
    let d : Dev := { running with flt := { running.flt with halting := some (0, 0, 0), haltRecord := some r } }
    d.flt.halting ≠ none ∧ d.flt.haltRecord = some r ∧ r.units.length = 37 ∧ (List.replicate 37 (0 : Fin 49)).length = 37 ∧
    running.flt.halting = none := by decide

theorem meets_control_die_and_reset : Room (booted 9) 2 ∧ (booted 9).flt.stop = .running ∧ (booted 9).flt.chipStop = false ∧
    (booted 9).cht.active = none := by decide

theorem meets_fault_handle : let a : FaultRec := { waiting with sev := .stepAbort }
    let b : FaultRec := { waiting with code := 0x1064, sev := .notice, seq := 3 }
    let d : Dev := { running with flt := { running.flt with queue := [b, a] } }
    d.flt.reserved = none ∧ d.flt.handling = none ∧ a ∈ d.flt.queue ∧ (∀ x ∈ d.flt.queue, x ≠ a → x.sev.val < a.sev.val ∨ (x.sev = a.sev ∧ a.seq < x.seq)) ∧
    d.flt.log.length < 256 ∧ d.seq.run ≠ none ∧ d.flt.cancel = none := by decide

theorem meets_fault_interrupted : let r : FaultRec := { waiting with sev := .chipStop }
    let d : Dev := { running with flt := { running.flt with handling := some waiting } }
    (d.flt.reserved = none ∧ d.flt.handling = some waiting ∧ waiting.sev ≠ .chipStop ∧ d.flt.log.length < 256) ∧
    ({ running.flt with reserved := some r } : Flt).reserved = some r := by decide

/-- R497: among equal severities the lowest SEQ is taken. -/
theorem test_lowest_seq_first : let d : Dev := { running with flt := { running.flt with queue := [waiting, { waiting with code := 0x1031, seq := 3 }] } }
    (match exec .faultHandle (on d) with
      | .next t => t.dev.flt.queue.map FaultRec.seq
      | _ => []) = [9] := by decide +kernel

theorem meets_raise : let d : Dev := { running with flt := { running.flt with queue := [waiting] } }
    QueueBounded d ∧ (∃ q ∈ d.flt.queue, q.code = 0x1030 ∧ q.unit = 3 ∧ q.wher = 4) ∧ ¬ Waits d 0x1031 3 4 ∧ Room d 1 := by decide

theorem meets_raise_full : let d : Dev := { running with flt := { running.flt with
      queue := (List.range 32).map (fun i => { waiting with code := 0x2000 + i }) } }
    QueueBounded d ∧ ¬ Waits d 0x1030 3 4 ∧ d.flt.queue.length + b2n d.flt.handling.isSome = 32 ∧ d.flt.reserved = none ∧
    ({ d.flt with reserved := some waiting } : Flt).reserved = some waiting := by decide

/-! ### Rings -/

theorem meets_doorbell : (ringed running).hst.rings.length = 64 ∧ ((ringed running).ring 0).live = true ∧
    (15 : BitVec 32).toNat % 4096 < 2 ^ ((ringed running).ring 0).n ∧ ¬ (16 : BitVec 32).toNat % 4096 < 2 ^ ((ringed running).ring 0).n ∧
    Room (ringed running) 1 := by decide +kernel

/-- A RUN entry: FRAMES, BASE 0, OPTAB 16, one step, every loop once. -/
def runEntry (frames : Nat) : BitVec 1024 :=
  BitVec.ofNat 1024 (1 + 2 ^ 32 * frames + 2 ^ 160 * 16 + 2 ^ 192 + 2 ^ 256 * leNat ((List.replicate 16 (leBytes 4 1)).flatten))

/-- An idle aligned chip with the charter in force, tracker table and directory in allocation 0. -/
def idle : Dev :=
  ((({ running with seq := State.reset.dev.seq } : Dev).setReg .mntTrkAlloc 0).setReg .ldgDirAlloc 0)

/-- Its memory: the directory's header and a program of one STEP_END. -/
def idleState (d : Dev) : State :=
  runWith d [(0, 4, 0x5244474C), (4, 2, 1), (16, 4, 1), (20, 4, 2), (48, 4, 64), (56, 4, 4096), (0x40000000000, 64, bundleOf 4 0 0 0 0)]

/-- An entry is admitted. -/
def Admitted (x : Exam) : Bool := match x with
  | .admitted _ => true
  | _ => false

theorem admitted_some {x : Exam} (h : Admitted x = true) : ∃ a, x = .admitted a := by
  cases x
  · cases h
  · cases h
  · exact ⟨_, rfl⟩

theorem meets_run : ((ringed idle).ring 0).due = true ∧ JournalRoom (ringed idle) 1 ∧ (ringed idle).obs.counting = false ∧
    Entry.opcode (runEntry 3) = 1 ∧ ∃ a, (idleState (ringed idle)).examine (runEntry 3) = .admitted a :=
  ⟨by decide +kernel, by decide +kernel, by decide +kernel, by decide +kernel, admitted_some (by decide +kernel)⟩

/-- R26: FRAMES must be at least N × S + 2. -/
theorem test_run_needs_frames : (match (idleState (ringed idle)).examine (runEntry 2) with
    | .refuse c _ => c
    | _ => 0) = 0x1001 := by decide +kernel

/-- An entry is refused. -/
def Refused (x : Exam) : Bool := match x with
  | .refuse _ _ => true
  | _ => false

theorem refused_some {x : Exam} (h : Refused x = true) : ∃ code create, x = .refuse code create := by
  cases x
  · cases h
  · exact ⟨_, _, rfl⟩
  · cases h

theorem meets_refusal : (∃ code create, (idleState (ringed idle)).examine (runEntry 2) = .refuse code create) ∧ Entry.opcode (runEntry 2) = 1 ∧
    Room (ringed idle) 1 :=
  ⟨refused_some (by decide +kernel), by decide +kernel, by decide +kernel⟩

/-- R31, R56: a command with a count of 0 is refused with 0x1025 also where its program opens no loop. -/
theorem test_run_needs_counts : (match (idleState (ringed idle)).examine (runEntry 3 - 2 ^ 256) with
    | .refuse c _ => c
    | _ => 0) = 0x1025 := by decide +kernel

/-- A LOAD_CHARTER entry of 64 KiB at host address 0. -/
def loadEntry : BitVec 1024 := 2 + 2 ^ 32 * 3 + 2 ^ 192 * 65536

theorem meets_load : ((ringed idle).ring 0).due = true ∧ Entry.opcode loadEntry = 2 ∧ Entry.wellFormed loadEntry = true ∧
    (ringed idle).seq.run = none ∧ (ringed idle).cht.loader = none ∧ (ringed idle).flt.stop = .running ∧ (ringed idle).flt.halting = none ∧
    (ringed idle).loadFrames (Entry.length loadEntry) ≤ Entry.frames loadEntry ∧ Entry.effect loadEntry = 0 := by decide +kernel

theorem meets_head_entries : (Instr.run 0 (runEntry 3), true) ∈ ringRows 0 (runEntry 3) ∧ (running.ring 0).due = false ∧
    ((ringed idle).ring 0).due = true ∧ Room (ringed idle) 1 ∧ Entry.wellFormed (runEntry 3 + 2 ^ 16) = false ∧
    Entry.wellFormed (runEntry 3) = true ∧ (ringed running).waits (runEntry 3) = true ∧ (ringed idle).waits (runEntry 3) = false ∧
    stopping.flt.stop ≠ .running ∧ Entry.opcode (runEntry 3) ≤ 3 := by decide +kernel

/-- COPY entries: DIR 0 and 1 with the layout descriptor at host address 4096, DIR 2 of one bundle from allocation 0. -/
def copyEntry (dir : Nat) : BitVec 1024 :=
  BitVec.ofNat 1024 (3 + 2 ^ 32 + 2 ^ 128 * dir + (if dir = 2 then 2 ^ 416 else 2 ^ 256 * 4096))

/-- Host memory with a descriptor of one granule at the start of allocation 0, for writing. -/
def withHostLayout (s : State) : State :=
  { s with host := put s.host 4096 128 (2 ^ 12 * 7 + 2 ^ 20 + 2 ^ 24 + 2 ^ 88 * 2 ^ 6 + 2 ^ 128 * 0xFFF + 2 ^ 304) }

/-- A granule of allocation 0 moves; a bundle's signature is asked for. -/
theorem meets_copy_data : let s := withHostLayout (on (ringed idle))
    let l := s.hostLayout (copyEntry 0)
    l.count = 1 ∧ (s.dev.alloc l.alloc).purpose ≠ 1 ∧ s.dev.accessKind 6 l.alloc (l.bitPos (l.elem (l.tuple 0)) / 8) 64 true = none ∧
    s.dev.accessKind 6 l.alloc (l.bitPos (l.elem (l.tuple 0)) / 8) 64 false = none ∧ s.dev.contested 36 (s.dev.hostRanges (copyEntry 0) l) = [] ∧
    (((ringed idle).setReg .secPolicy 1).reg .secPolicy).testBit 0 = true ∧
    ∀ b ∈ [(0, 64), (64, sigBytes)], ((ringed idle).setReg .secPolicy 1).accessKind 7 0 b.1 b.2 false = none := by decide +kernel

theorem meets_copies : ((ringed idle).ring 0).due = true ∧ Entry.opcode (copyEntry 0) = 3 ∧ Entry.opcode (copyEntry 2) = 3 ∧
    Entry.dir (copyEntry 1) = 1 ∧ Entry.dir (copyEntry 2) = 2 ∧ PlainMemory (withHostLayout (on (ringed idle))) ∧
    (∀ dir ∈ [0, 1, 2], ∃ a, (withHostLayout (on (ringed idle))).examine (copyEntry dir) = .admitted a) ∧
    ((ringed idle).reg .secPolicy).testBit 0 = false ∧ (ringed idle).accessKind 7 0 0 64 false = none := by
  refine ⟨by decide +kernel, by decide +kernel, by decide +kernel, by decide +kernel, by decide +kernel, by decide +kernel, ?_, by decide +kernel, by decide +kernel⟩
  intro dir h
  have : ∀ dir ∈ [0, 1, 2], Admitted ((withHostLayout (on (ringed idle))).examine (copyEntry dir)) = true := by decide +kernel
  exact admitted_some (this dir h)

/-- A DECIDE entry for step 7. -/
def decideEntry (decision : Nat) : BitVec 1024 := BitVec.ofNat 1024 (5 + 2 ^ 32 + 2 ^ 128 * 7 + 2 ^ 192 * decision)

/-- The escrow record of step 7, with no groups. -/
def escrow7 : Escrow :=
  { step := 7, rank := 0, members := 1, clearSum := 0, lossSum := 0, loss := 0, lovf := false, spike := false, nonfin := false, flags := 0
    groups := [], anchors := [], nextAnchors := [] }

/-- A device whose escrow holds step 7 in a state. -/
def escrowed (d : Dev) (x : EscrowState) : Dev := { d with ldg := { d.ldg with state := x, record := some escrow7, waitFrom := some 0 } }

theorem meets_tallies_decisions : let tally : BitVec 1024 := 4 + 2 ^ 32 + 2 ^ 224
    Entry.opcode tally = 4 ∧ Entry.wellFormed tally = true ∧ 1 ≤ Entry.frames tally ∧ (on (ringed idle)).host.wf = true ∧
    Entry.opcode (decideEntry 1) = 5 ∧ Entry.wellFormed (decideEntry 1) = true ∧ Entry.decision (decideEntry 2) = 2 ∧
    (ringed idle).heldFor (Entry.step (decideEntry 1)) = false ∧ (escrowed (ringed idle) .held).heldFor (Entry.step (decideEntry 1)) = true ∧
    ((escrowed (ringed idle) .held).ring 0).due = true := by decide +kernel

theorem meets_decisions : let d := escrowed (ringed idle) .held
    JournalRoom d 1 ∧ 1 ≤ Entry.frames (decideEntry 1) ∧ d.ldg.record = some escrow7 ∧ (d.ring 0).due = true ∧ Room (ringed idle) 1 ∧
    ((ringed idle).ring 0).due = true := by decide +kernel

/-- A chip whose tracker table and directory the control die may read, and one without a table. -/
theorem meets_tallies : let s := idleState (ringed idle)
    s.host.wf = true ∧ s.dev.stk.poison = [] ∧ s.dev.stk.upsets = [] ∧ (s.dev.ring 0).due = true ∧ JournalRoom s.dev 1 ∧ s.dev.obs.counting = false ∧
    s.lastStepPlace = none ∧
    (∀ o n, (s.dev.alloc s.dev.tallyTable).valid = true → o + n ≤ (s.dev.alloc s.dev.tallyTable).size →
      s.dev.accessKind 7 s.dev.tallyTable o n false = none) ∧ ((ringed State.reset.dev).alloc (ringed State.reset.dev).tallyTable).valid = false ∧
    Room s.dev 1 := by
  refine ⟨by decide +kernel, by decide +kernel, by decide +kernel, by decide +kernel, by decide +kernel, by decide +kernel,
    by decide +kernel, ?_, by decide +kernel, by decide +kernel⟩
  intro o n v k
  have m : ((idleState (ringed idle)).dev.alloc (idleState (ringed idle)).dev.tallyTable).mayRead 7 = true := by decide +kernel
  simp only [Dev.accessKind, v, m, if_neg (Nat.not_lt.mpr k)]
  rfl

/-- The record of the step committed last, in the directory. -/
theorem meets_last_step : let d := ringed { idle with ldg := { idle.ldg with dir := 0, record := some { escrow7 with step := 0 } } }
    let s := runWith d [(0, 4, 0x5244474C), (4, 2, 1), (8, 8, 1), (16, 4, 1), (20, 4, 2), (48, 4, 64), (56, 4, 4096)]
    s.lastStepPlace = some (0, 4096) ∧ s.dev.accessKind 7 0 4096 64 false = none := by decide +kernel

theorem meets_securing : ∀ k ∈ [1, 2, 3, 4, 5, 6], let e : BitVec 1024 := BitVec.ofNat 1024 (6 + 2 ^ 32 * 2 + 2 ^ 128 * k)
    Entry.opcode e = 6 ∧ Entry.wellFormed e = true ∧ 2 ≤ Entry.frames e ∧ Entry.kind e = k ∧ (ringed idle).prt.requests = [] := by
  decide +kernel

/-- A request of a kind waits for the tick. -/
def requested (d : Dev) (k : Nat) : State :=
  on { d with prt := { d.prt with requests := [({}, BitVec.ofNat 1024 (6 + 2 ^ 32 * 2 + 2 ^ 128 * k))] } }

/-- The idle chip with a refill bitmap, ready and with a snapshot armed or not. -/
def securing (armed : Option Nat) : Dev :=
  ({ ringed idle with prt := { (ringed idle).prt with ready := true, armed := armed } } : Dev).setReg .prtRefillAlloc 2

theorem meets_securing_ticks : (∀ k ∈ [1, 2, 3, 4, 5], (requested (securing none) k).secureRefused (BitVec.ofNat 1024 (6 + 2 ^ 32 * 2 + 2 ^ 128 * k)) = false) ∧
    (requested (securing (some 7)) 6).secureRefused (BitVec.ofNat 1024 (6 + 2 ^ 32 * 2 + 2 ^ 128 * 6)) = false ∧
    (requested (securing (some 7)) 1).secureRefused (BitVec.ofNat 1024 (6 + 2 ^ 32 * 2 + 2 ^ 128)) = true ∧
    (requested (escrowed (securing none) .cleared) 2).secureRefused (BitVec.ofNat 1024 (6 + 2 ^ 32 * 2 + 2 ^ 128 * 2)) = true ∧
    (∀ k ∈ [3, 4, 5, 6], (requested running k).secureRefused (BitVec.ofNat 1024 (6 + 2 ^ 32 * 2 + 2 ^ 128 * k)) = true) ∧
    Room (requested (securing none) 1).dev 1 := by decide +kernel

/-- A load whose image is awaited. -/
def loading : Dev := { idle with cht := { idle.cht with loader := some { cmd := {}, addr := 0, length := 64, effect := 102 } } }

/-- A check fails. -/
def Fails {α β : Type} (x : Except α β) : Bool := match x with
  | .error _ => true
  | .ok _ => false

theorem fails_some {α β : Type} {x : Except α β} (h : Fails x = true) : ∃ f, x = .error f := by
  cases x
  · exact ⟨_, rfl⟩
  · cases h

theorem passes_some {α β : Type} {x : Except α β} (h : Fails x = false) : ∃ a, x = .ok a := by
  cases x
  · cases h
  · exact ⟨_, rfl⟩

theorem meets_charter_images : JournalRoom loading 1 ∧ Room loading 1 ∧ State.reset.dev.cht.loader = none ∧
    (∃ l, loading.cht.loader = some l ∧ l.staged = none ∧
      ∃ f, loading.validate ((on loading).host.read l.addr l.length) l.length true = .error f) :=
  ⟨by decide, by decide, rfl, { cmd := {}, addr := 0, length := 64, effect := 102 }, by decide, by decide, fails_some (by decide +kernel)⟩

/-- A device whose charter has settings only, with an owner key for charters in slot 0. -/
def keyed : Dev :=
  { idle with
    cht := { active := some { id := 1, settings := 16 + 2 ^ 8 * 5 } }
    sec := { idle.sec with keys := [(0, (1, [0x0A]))] } }

/-- A partial image on it that replaces the settings, signed. -/
def image : List Byte :=
  let head := leBytes 4 0x4843564B ++ leBytes 2 1 ++ leBytes 2 0x4831 ++ [0, 1, 1, 0] ++ leBytes 4 2240 ++ leBytes 8 2 ++ leBytes 8 1 ++ leBytes 32 0
  let dir := [1, 0, 0, 0] ++ leBytes 4 128 ++ leBytes 4 64 ++ leBytes 4 1 ++ leBytes 48 0
  let settings := [17, 5, 0, 0, 7, 0, 0, 0, 16, 0, 0, 4, 1, 0, 2, 0, 3, 0] ++ leBytes 46 0
  let body := head ++ dir ++ settings
  body ++ leBytes 16 (keyIdOf [0x0A]) ++ leBytes 64 (shake512 body) ++ leBytes 1968 0

theorem meets_good_charter_image : ∃ c, keyed.validate image 2240 true = .ok c := passes_some (by decide +kernel)

theorem meets_completions : let c : Completion := { cmd := {}, status := 1 }
    let d : Dev := { idle with hst := { idle.hst with done := [c] } }
    d.hst.done = c :: [] ∧ c.cmd.record = none ∧ (on d).host.wf = true ∧ Room d 1 ∧ idle.hst.done = [] := by decide +kernel

/-! ### Bundles -/

/-- The plan is admitted. -/
def Plans {α β : Type} (x : Except α β) : Bool := !Fails x

/-- A run whose bundle of a kind is next, inside loop 2 opened by bundle 0. -/
def looped (n : Nat) : State :=
  { atBundle (bundleOf 2 2 0 99 0) with dev := { running with seq := { running.seq with
      counters := List.replicate 16 n, nest := [(2, 0)] } } }

/-- CONTINUE on mint 0, in slot 0: target 0x40, operation 1. -/
def contSlot : Nat := 2 ^ 16 + 2 ^ 21 * 0x40

theorem meets_bundles : ∀ k ∈ [0, 1], let s := atBundle (bundleOf k (2 * k) 0 99 contSlot)
    s.dev.canIssue = true ∧ (s.bundle 0).kind = k ∧ s.dev.headerFault (s.bundle 0) 0 = none ∧ 0 + (s.bundle 0).span ≤ s.dev.plannable ∧
    s.dev.seq.loopFault (s.bundle 0) = false ∧ s.dev.seq.counters.length = 16 ∧ (s.bundle 0).slots = [{ target := 0x40, op := 1, arg := 0 }] ∧
    Plans (s.admitSlots 100 0 (s.bundle 0).slots) = true := by decide +kernel

theorem meets_loop_close : ∀ n ∈ [1, 2], let s := looped n
    s.dev.canIssue = true ∧ (s.bundle 0).kind = 2 ∧ s.dev.headerFault (s.bundle 0) 0 = none ∧ s.dev.seq.loopFault (s.bundle 0) = false ∧
    s.dev.seq.counters.length = 16 ∧ s.dev.seq.counters.getD (s.bundle 0).loop 0 = n := by decide +kernel

/-- R55: LOOP_CLOSE with its counter at 1 goes on, above 1 it goes back. -/
theorem test_loop_close_turns : (match exec .loopClose (looped 1), exec .loopClose (looped 2) with
    | .next t, .next u => (t.dev.seq.index, t.dev.seq.nest, u.dev.seq.index, u.dev.seq.nest)
    | _, _ => (9, [], 9, [])) = (1, [], 0, [(2, 0)]) := by decide +kernel

theorem meets_frame_ends : ∀ k ∈ [3, 4], let s := atBundle (bundleOf k 0 0 0 0)
    s.dev.canIssue = true ∧ s.dev.headerFault (s.bundle 0) 0 = none ∧ s.dev.seq.loopFault (s.bundle 0) = false ∧ (s.bundle 0).kind = k ∧
    s.dev.fillLeft = none := by decide +kernel

/-- A fill item of the forward group, number 3, of 20 cycles, begun on tile 0, or complete there. -/
def item (cycles : Nat) : FillItem :=
  { item := 3, deadline := 200, cost := 20, inputs := [], action := 0, tag := 1
    progress := [(0, { cycles := cycles, shadow := if cycles < 20 then none else some {} })] }

/-- The running device with fill items queued on group 0, whose tag is 1. -/
def filled (d : Dev) (q : List FillItem) : Dev := { d with fwd := { d.fwd with groups := [(0, { tag := 1, fill := q })] } }

theorem meets_fill_left : let s := runWith (filled running [item 5]) [(0x40000000000, 64, bundleOf 4 0 0 0 0)]
    s.dev.canIssue = true ∧ s.dev.headerFault (s.bundle 0) 0 = none ∧ s.dev.seq.loopFault (s.bundle 0) = false ∧ (s.bundle 0).kind = 4 ∧
    s.dev.fillLeft.isSome = true ∧ Room s.dev 1 := by decide +kernel

/-- Two CONTINUE slots on the same unit. -/
def twice : Nat := contSlot + 2 ^ 28 * contSlot

theorem meets_header_checks : let bad := (atBundle (bundleOf 0 0 0 0 0 + 2 ^ 48))
    let late := atBundle (bundleOf 0 0 1 0 0)
    let two := atBundle (bundleOf 0 0 0 0 twice)
    let odd := atBundle (bundleOf 256 0 0 0 0)
    bad.dev.canIssue = true ∧ Room bad.dev 1 ∧ ((bad.bundle 0).kind = 0 ∧ (bad.bundle 0).check ≠ crcHeader (fld (bad.bundle 0) 0 48)) ∧
    ((late.bundle 0).check = crcHeader (fld (late.bundle 0) 0 48) ∧ (late.bundle 0).seq ≠ 0) ∧
    ((two.bundle 0).check = crcHeader (fld (two.bundle 0) 0 48) ∧ (two.bundle 0).seq = 0 ∧ ¬ ((two.bundle 0).slots.map Slot.target).Nodup) ∧
    ((odd.bundle 0).check = crcHeader (fld (odd.bundle 0) 0 48) ∧ (odd.bundle 0).seq = 0 ∧ ((odd.bundle 0).slots.map Slot.target).Nodup ∧
      (odd.bundle 0).reserved ≠ 0) := by decide +kernel

theorem meets_span_and_loop_faults : let long := { atBundle (bundleOf 0 0 0 65535 0) with dev := running }
    let close := atBundle (bundleOf 2 2 0 0 0)
    long.dev.headerFault (long.bundle 0) 0 = none ∧ long.dev.plannable < 0 + (long.bundle 0).span ∧
    close.dev.headerFault (close.bundle 0) 0 = none ∧ 0 + (close.bundle 0).span ≤ close.dev.plannable ∧
    (close.bundle 0).loop ∉ close.dev.seq.nest.map Prod.fst := by decide +kernel

theorem meets_deep_loops : let nest := (List.range 8).map (fun k => (k + 1, 0))
    8 < (openLoop nest 0 0).length ∧ ¬ 8 < (openLoop nest 8 0).length ∧ nest ≠ [] ∧
    (running.headerFault ((atBundle (bundleOf 1 0 0 0 0)).bundle 0) 0 = none ∧ running.headerFault ((atBundle (bundleOf 4 0 0 0 0)).bundle 0) 0 = none) := by
  decide +kernel

theorem meets_continue : running.canIssue = true ∧ running.frm.cycle + 100 ≤ running.plannable ∧ (running.group 0).kind = 1 ∧
    (running.group 1).kind = 2 ∧ running.bwdAsleep running.frm.cycle = true ∧
    ({ running with bwd := { running.bwd with gated := false } } : Dev).bwdAsleep running.frm.cycle = false ∧
    (running.group 2).kind ≠ 1 ∧ (running.group 2).kind ≠ 2 ∧ running.plannable < running.frm.cycle + 65536 ∧ Room running 1 ∧
    idle.canIssue = false := by decide +kernel

/-! ### Operations of slots -/

/-- The window descriptor: layer 0, FIRST and LAST, ACT 1, its finisher at index 2 in U1 with no function; NEXT none. -/
def windowWord : Nat := 2 ^ 10 + 2 ^ 11 + 2 ^ 26 + 2 ^ 132 * 2 + 2 ^ 148 * 0xFFFF

/-- A run about to issue that window on group 0: its descriptor, its finisher and a fill item for it. -/
def window (spare : Option (Nat × List Byte)) (undrained : Option Nat) : State :=
  runWith { filled running [] with fwd := { (filled running []).fwd with tiles := [(0, { spare := spare, undrained := undrained, slack := 30 })] } }
    [(op 0, 32, windowWord), (op 2, 16, 2 ^ 4), (op 3, 16, 3 + 2 ^ 8 + 2 ^ 16 * 20 + 2 ^ 100)]

theorem meets_tags : let d := (window (some (0, [])) none).dev
    d.canIssue = true ∧ d.frm.cycle + 12 ≤ d.plannable ∧ (d.group 0).kind = 1 ∧ (d.group 1).kind = 2 ∧ Room d 1 ∧
    d.windowOk ((window (some (0, [])) none).window 0) 0 (d.fwdGroup 0).tag = true ∧ d.stk.poison = [] ∧ d.stk.upsets = [] ∧
    ({ d with bwd := { d.bwd with gated := false } } : Dev).bwdAsleep d.frm.cycle = false := by decide +kernel

theorem meets_fill : let s := window (some (0, [])) none
    let q := { s with dev := filled running [item 5] }
    let full := { s with dev := filled running (List.replicate 32 (item 5)) }
    s.dev.canIssue = true ∧ s.dev.frm.cycle + 20 ≤ s.dev.plannable ∧ s.fillQueueFault 0 3 s.dev.framesLeft = none ∧ PlainMemory q ∧
    q.fillQueueFault 0 3 q.dev.framesLeft = some 0x1033 ∧ q.fillWindowFault 0 3 20 = none ∧ q.fillWindowFault 0 3 19 = some 0x1005 ∧
    q.fillWindowFault 0 4 20 = some 0x1033 ∧
    (let i := { full.fillItem 3 with item := 4 }
     full.dev.windowOk (full.window i.action) 0 i.tag = true ∧ (∀ j ∈ (full.dev.fwdGroup 0).fill, j.item ≠ i.item) ∧
       (full.window i.action).outBytes ≤ 16384) ∧
    (q.dev.fwdGroup 0).fill.map FillItem.item = [3] ∧ q.dev.itemDone 0 (item 5) = false ∧
    q.dev.itemDone 0 (item 20) = true ∧ ((q.dev.fwdGroup 0).fill.find? (fun x => decide (x.item = 4))).isNone = true ∧
    32 ≤ (List.replicate 32 (item 5)).length := by decide +kernel

theorem meets_run_ahead : let d : Dev := { filled running [item 5] with
      fwd := { (filled running [item 5]).fwd with tiles := [(0, { slack := 30 })] }
      seq := { running.seq with acting := [(0, 2, 0)], lastCycle := 0, lastSpan := 100 } }
    d.runAhead = true ∧ d.slackOpen 0 = true ∧ d.slackOpen 1 = false ∧ 0 ∈ d.fwdMembers 0 ∧ 1 ∉ d.fwdMembers 0 ∧ PlainMemory (on d) ∧
    0 < min 10 (d.fwdTile 0).slack ∧
    (({ on d with dev := d.modFwdTile 0 (fun x => { x with slack := x.slack - 10 }) } : State).nextItem 0 0).isSome = true := by decide +kernel

theorem meets_forward_window : let s := window (some (0, [])) none
    s.fwdWindowFault 0 0 100 = none ∧ PlainMemory s ∧ (s.dev.fwdMembers 0).any (fun x => match (s.dev.fwdTile x).undrained with
      | some u => decide (u ≠ (s.dev.fwdGroup 0).tag)
      | none => false) = false ∧
    (window (some (0, [])) (some 2)).fwdWindowFault 0 0 100 = none ∧ (window none none).fwdWindowFault 0 0 100 = some 0x2002 ∧
    s.fwdWindowFault 0 0 81 = some 0x1005 ∧ Room s.dev 2 := by decide +kernel

/-- A run about to issue a LAST weight-gradient window on group 1, awake, with its deposit descriptor. -/
def backward (deposit : Option (List (Nat × BwdEntry))) : State :=
  runWith { running with bwd := { running.bwd with gated := false, tiles := [(0, { spare := some { arg := 0, codes := [], scales := [] }, deposit := deposit })] } }
    [(op 0, 32, 2 ^ 10 + 2 ^ 11 + 2 ^ 12 + 2 ^ 32 * 0x24 + 2 ^ 40 * 0x24 + 2 ^ 198 * 0xFFFF), (op 2, 16, 2 ^ 84)]

theorem meets_backward_window : (backward none).bwdWindowFault 1 0 168 0 = none ∧ PlainMemory (backward none) ∧
    (backward none).bwdWindowFault 1 0 167 0 = some 0x3001 ∧ (backward (some [])).bwdWindowFault 1 0 168 0 = some 0x3005 ∧
    ((backward none).bwdDescAt 0).last = true ∧ ((backward none).bwdDescAt 0).mode = 1 := by decide +kernel

theorem deposit_charges_fit (s : State) (h : s.dev.engines = []) (hn : (s.dev.bwdMembers 1).length = 1) (hp : 5000 ≤ s.dev.plannable) :
    ∀ c ∈ s.bwdDepositCharges 1 2, s.dev.copyEnd c.1 0 c.2.2 ≤ s.dev.plannable := by
  intro c hc
  simp only [State.bwdDepositCharges, Dev.perStack, List.mem_map, List.mem_filterMap] at hc
  obtain ⟨p, ⟨k, _, hk⟩, rfl⟩ := hc
  split at hk
  · cases hk
  · cases hk
    have hl : ((s.depDescAt 2).entries (s.dev.bwdMembers 1).length).length = 16384 := by
      rw [hn]
      simp only [DepDesc.entries, List.length_flatMap, List.length_map, List.length_range]
      decide +kernel
    have hf := List.length_filter_le (fun i => decide (s.dev.gradStack (s.depDescAt 2).tensor s.dev.half i = k))
      ((s.depDescAt 2).entries (s.dev.bwdMembers 1).length)
    simp only [stackCharge, Dev.copyEnd, Dev.engine, h, tgetD, tget, Option.getD_none, ceilDiv]
    omega

theorem meets_deposit : let s := backward (some [(5, { v := 3 })])
    s.bwdDepositFault 1 2 0 = none ∧ (∀ c ∈ s.bwdDepositCharges 1 2, s.dev.copyEnd c.1 0 c.2.2 ≤ s.dev.plannable) ∧ s.dev.bwdMembers 1 = [0] ∧
    (s.dev.bwdTile 0).deposit = some [(5, { v := 3 })] ∧
    s.dev.accessKind 3 (s.dev.tensor 0).alloc (s.dev.gradOff 0 s.dev.half ((s.depDescAt 2).entry 0 0 5).toNat) 8 true = none ∧
    (backward none).bwdDepositFault 1 2 0 = some 0x3006 :=
  ⟨by decide +kernel, deposit_charges_fit _ rfl (by decide +kernel) (by decide +kernel), by decide +kernel, by decide +kernel, by decide +kernel,
    by decide +kernel⟩

/-! ### Copies and mints -/

/-- A layout descriptor of one container of 2^ECONT bits at element `origin` of allocation 0, for writing. -/
def one (econt origin : Nat) : Nat := 2 ^ 12 * econt + 2 ^ 20 + 2 ^ 24 + 2 ^ 48 * origin + 2 ^ 88 * 2 ^ 6 + 2 ^ 128 * 0xFFF + 2 ^ 304

/-- A run with copy descriptors at 0 (granules) and 1 (bytes), a mint descriptor at 2 (F32 to BF16, fixed scale) and their layouts. -/
def copying : State :=
  runWith running [(op 0, 16, 8 + 2 ^ 16 * 16), (op 1, 16, 24 + 2 ^ 16 * 32), (op 2, 16, 40 + 2 ^ 16 * 48 + 2 ^ 32 * 0x25 + 2 ^ 40 * 0x24 + 2 ^ 62 * 2),
    (op 3, 16, 40 + 2 ^ 16 * 48 + 2 ^ 32 * 0x25 + 2 ^ 40 * 0x24 + 2 ^ 62 * 3),
    (op 8, 128, one 7 0), (op 16, 128, one 7 1), (op 24, 128, one 3 1), (op 32, 128, one 3 200), (op 40, 128, one 5 0), (op 48, 128, one 4 9)]

theorem meets_copy : ∀ c ∈ [(24, 0, copying.dmaCost 0 0), (12, 1, copying.layCost 0 1)],
    let d := copying.dev
    let x := copyDesc (BitVec.ofNat 128 (copying.opnd c.2.1 16))
    let src := copying.layoutAt x.src
    let dst := copying.layoutAt x.dst
    let n := dst.width / 8
    d.canIssue = true ∧ d.frm.cycle + 1 ≤ d.plannable ∧ d.copyEnd c.1 0 c.2.2 ≤ d.plannable ∧ PlainMemory copying ∧
    dst.count = 1 ∧ dst.isValid (dst.tuple 0) = true ∧ src.econt = dst.econt ∧ 3 ≤ dst.econt ∧
    (∀ l ∈ [src, dst], l.packed = false ∧ l.blocked = false ∧ l.fold = false) ∧
    (c.1 = 24 → d.dmaMine 0 src dst 0 = true) ∧ (c.1 = 12 → d.layMine 0 dst 0 = true ∧ d.elemPlace src (src.elem (dst.tuple 0)) = 0) ∧
    d.accessKind 0 src.alloc (n * src.elem (dst.tuple 0)) n false = none ∧ d.accessKind 0 dst.alloc (n * dst.elem (dst.tuple 0)) n true = none ∧
    d.contested c.1 [d.elemRange dst (dst.elem (dst.tuple 0))] = [] := by decide +kernel

/-- A device whose engine has nearly used the frame. -/
def late (e : Nat) (d : Dev) : Dev := { d with engines := tput d.engines e { committed := 63480 } }

theorem meets_copy_refused : (late 24 running).plannable < (late 24 running).copyEnd 24 0 (copying.dmaCost 0 0) ∧ Room (late 24 running) 1 := by
  decide +kernel

theorem meets_mint : copying.mintOk 2 false = true ∧ copying.mintOk 3 false = false ∧ copying.mintOk 2 true = true ∧
    copying.dev.copyEnd 24 0 (copying.mintCost 2 2) ≤ copying.dev.plannable ∧ Room copying.dev 1 ∧
    (late 24 running).plannable < (late 24 running).copyEnd 24 0 (copying.mintCost 2 2) := by decide +kernel

theorem meets_copy_complete : let d : Dev := { running with engines := [(12, { committed := 9, jobs := [{ stop := 9 }] })] }
    12 ≤ 12 ∧ 12 < 24 ∧ (d.engine 12).jobs ≠ [] := by decide

/-! ### Links and streams -/

/-- The running device with a present partner, fingerprint 77, on an up link of two lanes at port 0. -/
def linked : Dev :=
  { running with lnk := { running.lnk with
      partners := [(0, { state := .present, fp := 77 })]
      links := [{ port := 0, fp := 77, farPort := 3, lanes := [0, 1], up := true, hailSent := true, accepted := true, hailOk := true }] } }

/-- Its run with a send of 640 bytes on stream 2, an expectation of two messages on stream 1 and a binding of it. -/
def streaming (d : Dev) : State :=
  runWith d [(op 0, 16, 2 + 2 ^ 32 * 640), (op 1, 16, 1 + 2 ^ 16 * 2), (op 2, 16, 1 + 2 ^ 24 * 3 + 2 ^ 64 * 64)]

/-- A message held on stream 1, sent with its count and a tag frame. -/
def held (tag : Nat) : Dev :=
  { linked with lnk := { linked.lnk with streams := [(1, { held := [{ frame := tag, mseq := 0, bytes := [1, 2, 3], whole := true }] })] } }

theorem meets_send : let s := streaming linked
    s.dev.canIssue = true ∧ s.dev.frm.cycle + 1 ≤ s.dev.plannable ∧ s.dev.sendFault (s.sendDescAt 0).stream (s.sendDescAt 0).bytes 0 = none ∧
    (s.dev.streamLink 2).isSome = true ∧ (s.dev.stream 2).cls ≠ 3 ∧ s.dev.lnk.links.filter (fun z => z.is 0 77 3) = s.dev.lnk.links ∧
    (streaming running).dev.sendFault 2 640 0 = some 0x7015 ∧ Room running 1 ∧ (s.sendBytes 0 0).1 ≠ none ∧
    (let r := runWith linked [(op 0, 16, 2 + 2 ^ 16 * 8 + 2 ^ 32 * 64), (op 8, 128, one 7 1024)]
     (r.sendBytes 0 0).1 = none ∧ r.dev.sendFault (r.sendDescAt 0).stream (r.sendDescAt 0).bytes 0 = none) := by decide +kernel

theorem meets_bind : let s := streaming (held 100)
    let b := bindDesc (s.opnd 2 16)
    (linked.streamState b.stream).held = [] ∧ (s.dev.streamState b.stream).held = [{ frame := 100, mseq := 0, bytes := [1, 2, 3], whole := true }] ∧
    s.dev.flt.stop = .running ∧ frameBefore s.dev.frm.frame (s.dev.deadline b.stream 100) = true ∧ 0 = (s.dev.streamState b.stream).recv ∧
    3 ≤ b.slotBytes ∧ PlainMemory s ∧ s.dev.accessKind 2 b.alloc (64 * b.offset) 3 true = none := by decide +kernel

theorem meets_deadlines : let d : Dev := { held 99 with lnk := { (held 99).lnk with expects := [{ stream := 1, frame := 99, count := 2, deadline := 100 }] } }
    Room d d.lnk.expects.length ∧
    (∀ x ∈ d.lnk.expects, tickDue x.deadline d.frm.frame = true ∧ tgetD (d.streamState x.stream).done x.frame 0 ≠ x.count) ∧
    Room d d.lnk.streams.length ∧ (∃ m ∈ (d.streamState 1).held, tickDue (d.deadline 1 m.frame) d.frm.frame = true) := by decide +kernel

/-- The link with flit 5 outstanding, sent `n` times, of a class and a deadline tick, with retries charged. -/
def resending (n retries : Nat) (cls : Nat := 1) (deadline : Nat := 101) : Dev :=
  { linked with lnk := { linked.lnk with links := linked.lnk.links.map (fun l =>
      { l with replay := [(5, { hdr := 1, payload := [], sends := n, cls := cls, deadline := deadline })], retries := retries }) } }

theorem meets_resend : let found := fun (d : Dev) => d.lnk.links.find? (fun l =>
      decide (l.port = 0) && l.up && !l.second && !l.foreign && d.frm.aligned && l.replay.any (fun (f : Nat × Flit) => decide (f.1 = 5 ∧ f.2.sends ≠ 0)))
    found linked = none ∧ (found (resending 1 0)).isSome = true ∧ 0 < linkReserve 2 running.frameLen ∧
    (found (resending 4 (linkReserve 2 running.frameLen))).isSome = true ∧ (found (resending 5 0)).isSome = true ∧ Room (resending 5 0) 2 ∧
    (found (resending 1 0 3 100)).isSome = true ∧ tickDue 100 linked.frm.frame = true ∧ tickDue 101 linked.frm.frame = false ∧
    linked.seq.run ≠ none ∧ (found { resending 1 0 with seq := State.reset.dev.seq }).isSome = true := by
  decide +kernel

/-- A control flit of frame 100 with a marker. -/
def control : List Byte := leBytes 6 100 ++ [16, 0] ++ leBytes 8 77 ++ leBytes 8 77 ++ [1, 0x30] ++ leBytes 10 0 ++ [1, 0] ++ leBytes 6 104 ++ leBytes 580 0

theorem meets_lane_events : (linked.lane 0 0).trained = false ∧ (linked.lane 0 0).raised7001 = false ∧ Room linked 1 ∧
    (0x7001, 0) ∉ linked.lnk.raised ∧ (∀ k, (0x7005, k) ∉ linked.lnk.raised) ∧ (∃ l, linked.linkAt 0 0 = some l ∧ l.up = true) ∧
    linked.linkAt 0 5 = none ∧ bytesAt control 36 1 = 1 :=
  ⟨by decide +kernel, by decide +kernel, by decide +kernel, by decide +kernel, fun _ => List.not_mem_nil, ⟨_, rfl, rfl⟩, by decide +kernel,
    by decide +kernel⟩

/-- Header of a last data flit: class 1 stream 3, FSEQ 0, frame 100, MSEQ 0, 3 bytes. -/
def dataHdr : BitVec 96 := 1 + 2 ^ 4 * 3 + 2 ^ 48 * 100 + 2 ^ 80 * 3 + 2 ^ 90

/-- The number that `n` bytes make. -/
theorem leNat_leBytes (n v : Nat) : leNat (leBytes n v) = v % 256 ^ n := by
  induction n generalizing v with
  | zero => simp [leBytes, leNat, Nat.mod_one]
  | succ n ih =>
    have h : v % 256 ^ (n + 1) = v % 256 + 256 * (v / 256 % 256 ^ n) := by rw [Nat.pow_succ, Nat.mul_comm (256 ^ n), Nat.mod_mul]
    rw [leBytes, leNat, ih, BitVec.toNat_ofNat, h]

theorem leBytes_length (n v : Nat) : (leBytes n v).length = n := by
  induction n generalizing v with
  | zero => rfl
  | succ n ih => simp [leBytes, ih]

/-- A body of three bytes with the CRC-32C of its header and payload. -/
def flitBody : List Byte :=
  let payload : List Byte := [1, 2, 3] ++ List.replicate 621 0
  payload ++ leBytes 4 (crc32c (leBytes 12 dataHdr.toNat ++ payload))

/-- The check value of CRC-32C (PRESUMED, log entry 161): the code of the digits 1 to 9. -/
theorem test_crc32c : crc32c [0x31, 0x32, 0x33, 0x34, 0x35, 0x36, 0x37, 0x38, 0x39] = 0xE3069283 := by decide +kernel

theorem crc32c_lt (b : List Byte) : crc32c b < 2 ^ 32 := by
  have step : ∀ (n : Nat) (x : Nat), x < 2 ^ 32 →
      (List.range n).foldl (fun (x : Nat) _ => if x % 2 = 1 then (x / 2) ^^^ 0x82F63B78 else x / 2) x < 2 ^ 32 := by
    intro n
    induction n with
    | zero => intro x h; exact h
    | succ n ih =>
      intro x h
      rw [List.range_succ, List.foldl_append]
      have k := ih x h
      simp only [List.foldl_cons, List.foldl_nil]
      split
      · exact Nat.xor_lt_two_pow (by omega) (by decide)
      · omega
  have all : ∀ (b : List Byte) (r : Nat), r < 2 ^ 32 → b.foldl crc32Byte r < 2 ^ 32 := by
    intro b
    induction b with
    | nil => intro r h; exact h
    | cons x b ih =>
      intro r h
      exact ih _ (step 8 _ (Nat.xor_lt_two_pow h (by have := x.isLt; omega)))
  exact Nat.xor_lt_two_pow (all b _ (by decide)) (by decide)

theorem meets_good_flit : (Instr.flitReceive 0 0 true 0 dataHdr flitBody).wf = true ∧
    leNat (flitBody.drop 624) = crc32c (leBytes 12 dataHdr.toNat ++ flitBody.take 624) := by
  have hl : ([1, 2, 3] ++ List.replicate 621 0 : List Byte).length = 624 := by rw [List.length_append, List.length_replicate]; rfl
  constructor
  · simp only [Instr.wf, flitBody, List.length_append, hl, leBytes_length, decide_true]
  · simp only [flitBody, List.drop_left' hl, List.take_left' hl, leNat_leBytes]
    exact Nat.mod_eq_of_lt (Nat.lt_of_lt_of_eq (crc32c_lt _) (by decide))

theorem meets_flit : let d := linked
    let h := dataHdr.toNat
    (∃ l, d.linkAt 0 0 = some l ∧ l.up = true ∧ l.foreign = false ∧ l.second = false ∧ l.window = [] ∧ l.replay = [] ∧
      d.lnk.links.filter (fun z => z.is l.port l.fp l.farPort) = [l] ∧ nfld h 16 16 = l.rxSeq ∧ (d.partner (d.stream 3).partner).fp = l.fp) ∧
    d.frm.aligned = true ∧ nfld h 0 4 = 1 ∧ nfld h 4 12 = 3 ∧ h.testBit 91 = false ∧ h.testBit 90 = true ∧ nfld h 64 16 = 0 ∧
    (d.stream 3).valid = true ∧ (d.stream 3).recv = true ∧ (d.stream 3).port = 0 ∧ (d.stream 3).cls = 1 ∧ d.flt.stop = .running ∧
    nfld h 56 8 = (d.streamState 3).recv ∧ d.resolveTag (nfld h 48 8) = some 100 ∧ frameBefore d.frm.frame (d.deadline 3 100) = true :=
  ⟨⟨_, rfl, by decide, by decide, by decide, by decide, by decide, by decide, by decide, by decide⟩, by decide +kernel⟩

theorem meets_feeds : (0x7002, 48 * 0) ∉ linked.lnk.raised ∧ (linked.feeds 0).onB = false ∧ (linked.feeds 0).bOk = false ∧ (linked.feeds 0).aOk = false ∧
    Room linked (2 * linked.lnk.links.length + 1) ∧ ((linked.putFeeds 0 { bOk := true }).feeds 0).bOk = true ∧
    ((linked.putFeeds 0 { aOk := true, onB := true }).feeds 0).onB = true ∧ ((linked.putFeeds 0 { aOk := true, onB := true }).feeds 0).aOk = true := by
  decide +kernel

/-! ### Hails -/

theorem bytesAt_left (a b : List Byte) (i n : Nat) (h : i + n ≤ a.length) : bytesAt (a ++ b) i n = bytesAt a i n := by
  rw [bytesAt, bytesAt, List.drop_append_of_le_length (by omega), List.take_append_of_le_length (by rw [List.length_drop]; omega)]

theorem bytesAt_right (a b : List Byte) (k n m : Nat) (h : a.length = m) : bytesAt (a ++ b) (m + k) n = bytesAt b k n := by
  subst h
  simp [bytesAt, List.drop_append, List.drop_of_length_le]

/-- The number that `n` bytes behind others make. -/
theorem bytesAt_number (a c : List Byte) (k n v : Nat) (h : a.length = k) (l : v < 256 ^ n) : bytesAt (a ++ (leBytes n v ++ c)) k n = v := by
  have e := bytesAt_right a (leBytes n v ++ c) 0 n k h
  rw [Nat.add_zero] at e
  rw [e, bytesAt, List.drop_zero, List.take_left' (leBytes_length n v), leNat_leBytes, Nat.mod_eq_of_lt l]

/-- The identity certificate (Table 13.4) of the chip with the fingerprint `f` and a key of 1,793 zero bytes, with an empty signature. -/
def certHead : List Byte := leBytes 4 0x54524543 ++ [1, 1] ++ leBytes 2 1793 ++ leBytes 8 0
def certRest : List Byte := leBytes 2 0x4831 ++ leBytes 22 0
def certKey : List Byte := List.replicate 1793 0
def hailCert (f : Nat) : List Byte :=
  certHead ++ (leBytes 16 Config.deviceCa.toNat ++ (leBytes 8 f ++ (certRest ++ (certKey ++ leBytes 65 0))))

/-- A hail of a kind from that chip, sent in frame 100. -/
def hailHead (kind : Nat) : List Byte := leBytes 4 0x4C494148 ++ [BitVec.ofNat 8 kind, 1, 3, 0]
def hailRest : List Byte := leBytes 6 100 ++ leBytes 2 0x4831 ++ leBytes 6 0 ++ leBytes 2 1922 ++ leBytes 24 0
def hailBody (f kind : Nat) : List Byte :=
  hailHead kind ++ (leBytes 8 f ++ (leBytes 8 Config.fingerprint.toNat ++ (hailRest ++ hailCert f)))

/-- The running device, not solitary, with a link to that chip. -/
def hailing (f : Nat) : Dev :=
  { running with lnk := { running.lnk with solitary := false, links := [{ port := 0, fp := f, farPort := 3, lanes := [0], up := true }] } }

theorem hail_names_its_sender (f kind : Nat) (h : f < 2 ^ 64) : bytesAt (hailBody f kind) 8 8 = f := bytesAt_number _ _ 8 8 f rfl h

theorem hail_names_this_chip (f kind : Nat) : bytesAt (hailBody f kind) 16 8 = Config.fingerprint.toNat := by
  rw [hailBody, ← List.append_assoc]
  exact bytesAt_number _ _ 16 8 _ (by rw [List.length_append, leBytes_length]; rfl) Config.fingerprint.isLt

/-- The rest of a hail's header, at its offset from byte 24. -/
theorem hail_rest (f kind k n : Nat) (h : k + n ≤ 40) : bytesAt (hailBody f kind) (24 + k) n = bytesAt hailRest k n := by
  have e : hailBody f kind = (hailHead kind ++ leBytes 8 f ++ leBytes 8 Config.fingerprint.toNat) ++ (hailRest ++ hailCert f) := by
    simp only [hailBody, List.append_assoc]
  rw [e, bytesAt_right _ _ k n 24 (by rw [List.length_append, List.length_append, leBytes_length, leBytes_length]; rfl)]
  exact bytesAt_left _ _ k n h

theorem hail_cert (f kind : Nat) : (hailBody f kind).drop 64 = hailCert f := by
  have e : hailBody f kind = (hailHead kind ++ leBytes 8 f ++ leBytes 8 Config.fingerprint.toNat ++ hailRest) ++ hailCert f := by
    simp only [hailBody, List.append_assoc]
  rw [e, List.drop_left' (by rw [List.length_append, List.length_append, List.length_append, leBytes_length, leBytes_length]; rfl)]

theorem cert_length (f : Nat) : (hailCert f).length = 1922 := by
  simp only [hailCert, certKey, List.length_append, leBytes_length, List.length_replicate]
  rfl

theorem cert_key (f : Nat) : (hailCert f).drop 64 = certKey ++ leBytes 65 0 := by
  have e : hailCert f = (certHead ++ leBytes 16 Config.deviceCa.toNat ++ leBytes 8 f ++ certRest) ++ (certKey ++ leBytes 65 0) := by
    simp only [hailCert, List.append_assoc]
  rw [e, List.drop_left' (by rw [List.length_append, List.length_append, List.length_append, leBytes_length, leBytes_length]; rfl)]

theorem cert_key_take : (certKey ++ leBytes 65 0).take 1793 = certKey := List.take_left' List.length_replicate

theorem hail_key (f kind : Nat) : hailKeyDigest (hailBody f kind) = shake256 certKey := by
  have h : (hailBody f kind).drop 128 = (hailCert f).drop 64 := by rw [← hail_cert f kind, List.drop_drop]
  rw [hailKeyDigest, h, cert_key, cert_key_take]

/-- The rest of a certificate, behind its subject and behind its key. -/
theorem cert_rest (f k n : Nat) (h : k + n ≤ 24) : bytesAt (hailCert f) (40 + k) n = bytesAt certRest k n := by
  have e : hailCert f = (certHead ++ leBytes 16 Config.deviceCa.toNat ++ leBytes 8 f) ++ (certRest ++ (certKey ++ leBytes 65 0)) := by
    simp only [hailCert, List.append_assoc]
  rw [e, bytesAt_right _ _ k n 40 (by rw [List.length_append, List.length_append, leBytes_length, leBytes_length]; rfl)]
  exact bytesAt_left _ _ k n h

theorem cert_tail (f k n : Nat) : bytesAt (hailCert f) (1857 + k) n = bytesAt (leBytes 65 0) k n := by
  have e : hailCert f = (certHead ++ leBytes 16 Config.deviceCa.toNat ++ leBytes 8 f ++ certRest ++ certKey) ++ leBytes 65 0 := by
    simp only [hailCert, List.append_assoc]
  rw [e]
  exact bytesAt_right _ _ k n 1857
    (by simp only [List.length_append, leBytes_length, certKey, List.length_replicate]; rfl)

theorem cert_laid (f kind : Nat) (h : f < 2 ^ 64) (e : shake256 certKey % 2 ^ 64 = f) :
    certLaid 1 Config.deviceCa.toNat (((hailBody f kind).drop 64).take (bytesAt (hailBody f kind) 38 2)) = true := by
  have n : bytesAt (hailBody f kind) 38 2 = 1922 := (hail_rest f kind 14 2 (by decide)).trans (by decide +kernel)
  have i : bytesAt (hailCert f) 16 16 = Config.deviceCa.toNat := bytesAt_number certHead _ 16 16 _ rfl Config.deviceCa.isLt
  have u : bytesAt (hailCert f) 32 8 = f := by
    rw [hailCert, ← List.append_assoc]
    exact bytesAt_number _ _ 32 8 f (by rw [List.length_append, leBytes_length]; rfl) h
  have a : ∀ k n, k + n ≤ 16 → bytesAt (hailCert f) k n = bytesAt certHead k n := fun k n h => bytesAt_left _ _ k n h
  have r := cert_rest f
  have t := cert_tail f
  rw [n, hail_cert, ← cert_length f, List.take_length]
  simp only [certLaid, i, u, cert_key, cert_key_take, e, cert_length, a 0 4 (by decide),
    a 4 1 (by decide), a 5 1 (by decide), a 6 2 (by decide), r 0 2 (by decide), r 3 21 (by decide), t 0 63, t 63 2]
  have c1 : bytesAt certHead 0 4 = 0x54524543 ∧ bytesAt certHead 4 1 = 1 ∧ bytesAt certHead 5 1 = 1 ∧ bytesAt certHead 6 2 = 1793 ∧
    bytesAt certRest 0 2 = 0x4831 ∧ bytesAt certRest 3 21 = 0 ∧ bytesAt (leBytes 65 0) 0 63 = 0 ∧ bytesAt (leBytes 65 0) 63 2 = 0 := by
    decide +kernel
  simp only [c1, if_true]
  decide +kernel

theorem hail_length (f kind : Nat) : (hailBody f kind).length = 1986 := by
  simp only [hailBody, List.length_append, leBytes_length, cert_length]
  rfl

theorem hail_ok (f : Nat) (h : f < 2 ^ 64) (e : shake256 certKey % 2 ^ 64 = f) (kind : Nat) (hk : kind ∈ [1, 2, 3]) :
    (hailing f).hailOk kind (hailBody f kind) true true = true := by
  have a : ∀ k n, k + n ≤ 8 → bytesAt (hailBody f kind) k n = bytesAt (hailHead kind) k n := fun k n h => bytesAt_left _ _ k n h
  have r := hail_rest f kind
  have fr : (hailing f).frm.frame = 100 := rfl
  have c : bytesAt hailRest 6 2 = 0x4831 ∧ bytesAt hailRest 18 22 = 0 ∧ bytesAt hailRest 0 6 = 100 := by decide +kernel
  have o : bytesAt (hailHead kind) 0 4 = 0x4C494148 ∧ bytesAt (hailHead kind) 4 1 = kind ∧ bytesAt (hailHead kind) 5 1 = 1 := by
    have : ∀ kind ∈ [1, 2, 3], bytesAt (hailHead kind) 0 4 = 0x4C494148 ∧ bytesAt (hailHead kind) 4 1 = kind ∧ bytesAt (hailHead kind) 5 1 = 1 := by
      decide +kernel
    exact this kind hk
  simp only [Dev.hailOk, hail_names_this_chip, hail_names_its_sender f kind h, hail_key, cert_laid f kind h e, e, hail_length,
    a 0 4 (by decide), a 4 1 (by decide), a 5 1 (by decide), r 6 2 (by decide), r 18 22 (by decide), r 0 6 (by decide), c, o, fr]
  decide +kernel

theorem meets_hails : ∃ f < 2 ^ 64, ∀ kind ∈ [1, 2, 3], (hailing f).hailOk kind (hailBody f kind) true true = true :=
  ⟨_, Nat.mod_lt _ (by decide), fun kind h => hail_ok _ (Nat.mod_lt _ (by decide)) rfl kind h⟩

/-- A certificate that does not verify. -/
theorem meets_bad_hails (f : Nat) : ∀ kind ∈ [1, 2, 3], (hailing f).hailOk kind (hailBody f kind) false true = false := by
  intro kind _
  simp only [Dev.hailOk, Bool.and_false, Bool.false_and]

/-- The same device with a chip's fingerprint and the second eight bytes of its key's digest in partner 0. -/
def known (f key : Nat) : Dev :=
  { hailing f with lnk := { (hailing f).lnk with partners := [(0, { state := .present, fp := f, keyd := key })] } }

theorem meets_hail_links (f : Nat) (h : f < 2 ^ 64) :
    ∃ l, (hailing f).hailLink 0 (hailBody f 1) = some l ∧ l.fp = f ∧ l.foreign = false ∧ l.hailSent = false := by
  have p : bytesAt (hailBody f 1) 6 1 = 3 := (bytesAt_left (hailHead 1) _ 6 1 (by decide)).trans (by decide +kernel)
  refine ⟨{ port := 0, fp := f, farPort := 3, lanes := [0], up := true }, ?_, rfl, rfl, rfl⟩
  simp only [Dev.hailLink, hail_names_its_sender f 1 h, hailing, p, List.find?_cons, and_self, decide_true]

theorem range_255 : List.range 255 = 0 :: (List.range 254).map (· + 1) := by decide +kernel

theorem meets_hail_new (f : Nat) : (hailing f).partnerOf f = none ∧ (hailing f).freePartner = some 0 ∧ (hailing f).heldShort = false ∧
    ({ hailing f with lnk := { (hailing f).lnk with solitary := true } } : Dev).heldShort = true ∧ (hailing f).frm.aligned = true ∧
    (∀ k, (0x7020, k) ∉ (hailing f).lnk.raised ∧ (0x7022, k) ∉ (hailing f).lnk.raised) ∧ Room (hailing f) 1 := by
  have h : ∀ i, ((hailing f).partner i).state = .free := fun i => rfl
  have c : (hailing f).lnk.changes = [] := rfl
  refine ⟨by simp [Dev.partnerOf, h, c], by simp [Dev.freePartner, range_255, h, c], rfl, rfl, rfl, fun _ => ⟨List.not_mem_nil, List.not_mem_nil⟩,
    (by decide +kernel : Room (hailing 0) 1)⟩

theorem meets_hail_known (f key : Nat) : (known f key).partnerOf f = some 0 ∧ ((known f key).partner 0).keyd = key := by
  have p : (known f key).partner 0 = { state := .present, fp := f, keyd := key } := rfl
  exact ⟨by simp [Dev.partnerOf, range_255, p], rfl⟩

theorem meets_no_hail_link : linked.hailLink 0 (hailBody 78 1) = none ∧ linked.partnerOf 77 = some 0 ∧ (linked.partner 0).state = .present ∧
    linked.lnk.changes = [] ∧ linked.lnk.free = [] ∧ JournalRoom linked 1 := by
  refine ⟨?_, by decide +kernel, rfl, rfl, rfl, by decide +kernel⟩
  simp only [Dev.hailLink, hail_names_its_sender 78 1 (by decide)]
  rfl

/-- The table of partners is full. -/
def crowded (f : Nat) : Dev :=
  { hailing f with lnk := { (hailing f).lnk with partners := (List.range 255).map (fun i => (i, { state := .present, fp := f + 1 })) } }

theorem crowded_partner (f : Nat) : ∀ i ∈ List.range 255, (crowded f).partner i = { state := .present, fp := f + 1 } := by
  have h : ∀ (l : List Nat) (p q : Partner), ∀ i ∈ l, tgetD (l.map (fun i => (i, p))) i q = p := by
    intro l p q
    induction l with
    | nil => intro i h; cases h
    | cons x l ih =>
      intro i h
      by_cases e : x = i
      · subst e; simp [tgetD, tget]
      · have k := ih i ((List.mem_cons.mp h).resolve_left (fun z => e z.symm))
        simpa [tgetD, tget, e] using k
  exact h _ _ _

theorem meets_hail_crowded (f : Nat) : (crowded f).partnerOf f = none ∧ (crowded f).freePartner = none ∧ (crowded f).heldShort = false := by
  refine ⟨?_, ?_, rfl⟩
  · simp only [Dev.partnerOf, List.find?_eq_none]
    intro i h
    simp [crowded_partner f i h]
  · simp only [Dev.freePartner, List.find?_eq_none]
    intro i h
    simp [crowded_partner f i h]

/-! ### Rows and losses -/

/-- A run with a row descriptor at 0 (RELU of one row of one F32, from the layout at 8 to the layout at 16), a loss descriptor at 2 of
the layout at 8, and the directory in allocation 0. -/
def rowed : State :=
  runWith running [(op 0, 32, 8 + 2 ^ 8 * 0 + 2 ^ 48 * 8 + 2 ^ 64 * 8 + 2 ^ 80 * 0xFFFF + 2 ^ 96 * 16 + 2 ^ 112 * 0xFFFF + 2 ^ 128 * 0xFFFFFFFF +
      2 ^ 160 * 0xFFFFFF + 2 ^ 216 * 0x25252525), (op 2, 8, 8), (op 8, 128, one 5 0), (op 16, 128, one 5 1), (0, 4, 0x3F800000)]

theorem meets_rows : rowed.dev.canIssue = true ∧ rowed.dev.frm.cycle + 33 ≤ rowed.dev.plannable ∧ rowed.rowFault 0 33 = none ∧ PlainMemory rowed ∧
    Fails (rowed.dev.admitCharges 0 0 0 ((rowed.rowCharges 0).map plainCharge)) = false ∧ (rowed.rowDescAt 0).func ≠ 4 ∧
    (rowed.rowDescAt 0).func ≠ 6 ∧ rowed.rowFault 0 5 = some 0x3020 ∧ rowed.lossFault 2 33 = none ∧ rowed.lossFault 2 32 = some 0x1023 ∧
    (rowed.lossDesc 2).rows = 1 ∧
    (rowed.elem { inst := 0, cls := 1, unit := 24 } (rowed.layoutAt 8) ((rowed.layoutAt 8).elem ((rowed.layoutAt 8).tuple 0))).1 =
      some (0x3F800000, false) ∧ Room rowed.dev 1 := by decide +kernel

theorem meets_losses : (f32Contribution (f32Val 0x3F800000) rowed.dirLossA).nonfin = false ∧
    (f32Contribution (f32Val 0x7F800000) rowed.dirLossA).nonfin = true := by decide +kernel

/-! ### Clearing, reports and settlement -/

/-- The linked device without class 2 streams, alone in its clearing domain. -/
def alone : Dev := { linked with cht := { active := some { chart with streams := chart.streams.take 4 } } }

theorem alone_rank : alone.rank = 0 := by
  have h : alone.memberFps = [] := by decide +kernel
  simp [Dev.rank, Dev.rankOf, h]

/-- A round of one block that sends on stream 2 and receives on stream 3, at index 0, the LAST one. -/
def clearing (d : Dev) : State := runWith d [(op 0, 32, 2 ^ 16 * 2 + 2 ^ 28 * 3 + 2 ^ 88 + 2 ^ 136)]

theorem meets_clear : (clearing alone).clearDescFault 0 = none := by
  have h : (clearing alone).dev.rank = 0 := alone_rank
  simp only [State.clearDescFault, h]
  decide +kernel

theorem meets_clear_admission : (clearing alone).dev.canIssue = true ∧ (clearing alone).dev.frm.cycle + 1 ≤ (clearing alone).dev.plannable ∧
    Fails (alone.admitCharges 0 0 0 (((clearing alone).clearCharges 0).map plainCharge)) = false ∧
    Fails (alone.admitSends 0 [(2, (clearing alone).unpackedLength ((clearing alone).roundAt 0))]) = false ∧ Room alone 1 := by decide +kernel

/-- The round issued, with a message of its one block, values 5, waiting on its stream. -/
def summing (tensor : Nat) : State :=
  clearing { alone with
    ldg := { alone.ldg with state := .clearing, rounds := [{ arg := 0, applied := false, deadline := 101 }], last := none }
    lnk := { alone.lnk with streams := [(3, { inbox := [(100, clearingMessage false false tensor 0 0 [List.replicate 256 5] [])] })] } }

theorem meets_message : let s := summing 0
    let waits := fun (r : Round) => !r.applied && decide ((s.roundAt r.arg).recv = 3)
    let n := fun (b : List Byte) (o k : Nat) => leNat ((b.drop o).take k)
    (s.dev.ldg.rounds.find? waits).isSome = true ∧ (∀ m ∈ (s.dev.streamState 3).inbox, n m.2 8 8 = s.dev.ldg.step ∧ n m.2 2 2 = 0 ∧
      n m.2 16 8 = 0 ∧ n m.2 4 4 = 1 ∧ (n m.2 1 1).testBit 0 = false) ∧ PlainMemory s ∧ Room s.dev 1 ∧
    (∀ k ∈ List.range 256, s.dev.accessKind 3 (s.dev.tensor 0).alloc (s.dev.gradOff 0 s.dev.half k) 8 true = none) ∧
    (∀ m ∈ ((summing 1).dev.streamState 3).inbox, n m.2 2 2 ≠ 0) := by decide +kernel

theorem meets_clearing_complete : let d : Dev := { alone with ldg := { alone.ldg with state := .clearing, last := some 0, rounds := [{ arg := 0, applied := true, deadline := 101 }] } }
    d.ldg.state = .clearing ∧ d.ldg.last ≠ none ∧ (∀ r ∈ d.ldg.rounds, r.applied = true) ∧ d.ldg.reports = [] := by decide

theorem meets_reports : let d := escrowed linked .cleared
    let e : Dev := { d with ldg := { d.ldg with step := 7 } }
    e.frm.aligned = true ∧ e.ldg.state ≠ .idle ∧ e.ldg.state ≠ .clearing ∧ escrow7.clearSum = 0 ∧ escrow7.verdict = 0 ∧ e.reportFault 1 = none ∧ (e.streamsOf 2 false).Nodup ∧ Fails (e.admitSends 0 ((e.streamsOf 2 false).map (fun i => (i, 32)))) = false ∧
    d.reportFault 1 = some 0x5002 ∧ Room d 1 ∧ (e.stream 5).valid = true ∧ (e.stream 5).cls = 2 ∧ (e.stream 5).recv = true ∧
    (e.stream 4).recv = false ∧ d.ldg.record = some escrow7 := by decide +kernel

theorem meets_report_rank : ∃ msg : BitVec 256, fld msg 16 8 = linked.rankOf 77 ∧ fld msg 0 8 = 1 ∧ fld msg 32 64 = 7 ∧ fld msg 96 64 ≠ escrow7.clearSum := by
  have h : linked.rankOf 77 = if Config.fingerprint.toNat < 77 then 1 else 0 := by
    have h1 : linked.memberFps = [77] := by decide +kernel
    by_cases h2 : Config.fingerprint.toNat < 77 <;> simp [Dev.rankOf, h1, h2]
  rw [h]
  split
  · exact ⟨1 + 2 ^ 16 + 2 ^ 32 * 7 + 2 ^ 96, by decide +kernel⟩
  · exact ⟨1 + 2 ^ 32 * 7 + 2 ^ 96, by decide +kernel⟩

theorem meets_deferred : let r : Report := { kind := 2, step := 7, verdict := 0, rank := 0, clearSum := 0, digest8 := 0, streams := [4] }
    linked.sendFault 4 r.bytes.length linked.frm.cycle = none ∧ running.sendFault 4 r.bytes.length 0 ≠ none ∧
    7 ∈ ({ linked.ldg with reverted := [7] } : Ldg).reverted := by decide +kernel

/-- The linked device with home and forward tensors for the ledger tensor 0: master weights 1, a state 2 and forward weights 3. -/
def homed : Dev :=
  { linked with cht := { active := some { chart with
      allocs := chart.allocs ++ [0x400, 0x500].map (fun (base : BitVec 256) => 1 + 2 ^ 8 + 2 ^ 32 * base + 2 ^ 64 * 16384 + 2 ^ 128 * 0xFFFF)
      tensors := [1 + 2 ^ 12 * 3, 4 + 2 ^ 12 * 4 + 2 ^ 48 * 0x25, 5 + 2 ^ 12 * 5 + 2 ^ 48 * 0x25, 2 ^ 48 * 0x14] } } }

/-- An escrow with one SGD group of tensor 0. -/
def grouped : Escrow :=
  { escrow7 with groups := [{ opt := 0, bias := false, grad := 0, master := 1, state1 := 2, state2 := 0xFFFF, fwd := 3, escrow := 3
                              bcopy := 0xFFFF, eta := 0, beta1 := 0, beta2 := 0, eps := 0, wd := 0, gscale := 0, seed := 0, reserved := false }] }

theorem meets_settle : let d : Dev := { homed with ldg := { homed.ldg with state := .settling, record := some grouped } }
    (on d).settleFault 0 = none ∧ Fails (d.admitCharges 0 0 0 ((on d).settleCharges 0 0)) = false ∧
    (on linked).settleFault 0 = some 0x5002 ∧ (on { d with cht := linked.cht }).settleFault 0 = some 0x5002 ∧ Room d 1 ∧ ((on d).chunkAt 0).count = 0 ∧ ((on d).chunkAt 0).glast = false := by decide +kernel

theorem meets_settlement : let d : Dev := { escrowed linked .settling with
      ldg := { (escrowed linked .settling).ldg with outside := true, chunks := [{ group := 0, first := 0, count := 0, final := true }] } }
    d.ldg.record = some escrow7 ∧ d.ldg.state = .settling ∧ d.ldg.outside = true ∧ d.flt.caught = false ∧
    escrow7.groups = [] ∧ escrow7.images = [] ∧ d.ldg.chunks ≠ [] ∧ Room d 1 ∧ (escrowed linked .reverting).ldg.state = .reverting := by decide

theorem meets_waits : (escrowed running .cleared).waitOver = true ∧ (escrowed linked .cleared).barrierMet = false ∧
    (escrowed linked .settled).releaseMet = false ∧ (escrowed alone .cleared).barrierMet = true ∧ (escrowed alone .settled).releaseMet = true ∧
    ({ running with ldg := { running.ldg with state := .cleared, record := some escrow7 } } : Dev).waitOver = false := by
  refine ⟨by decide +kernel, ?_, ?_, by decide +kernel, by decide +kernel, by decide +kernel⟩
  · decide +kernel
  · decide +kernel

/-! ### The tick -/

theorem meets_quiet_tick : Quiet State.reset.dev ∧ calm.queueCheckFails = false ∧ 8 * calm.energy ≤ 9 * energyLimit State.reset.dev.frameLen ∧
    State.reset.dev.staged = [] ∧ State.reset.dev.pwr.plan = none ∧ calm.temps.length = 37 ∧ State.reset.dev.reg .pwrTherm < 2 ^ 32 :=
  ⟨⟨rfl, rfl, by decide, rfl, rfl, rfl⟩, by decide, by decide, rfl, rfl, by decide, by decide⟩

theorem meets_quiet_tick_with_write : let d : Dev := { State.reset.dev with staged := [{ src := .host, addr := Reg.mntTrkAlloc.card.addr, value := 5 }] }
    Quiet d ∧ JournalRoom d 1 := ⟨⟨rfl, rfl, by decide, rfl, rfl, rfl⟩, by decide⟩

/-! ### Device memory from the host, scrubbing -/

/-- The running device with the first 256 MiB of its memory at host address 0. -/
def mapped : Dev := { running with hst := { running.hst with hdm0 := some { base := 0, size := 2 ^ 28, start := 0 }, trained := 1 } }

theorem meets_host_memory : mapped.hostTarget 64 false = some (0, 64) ∧ mapped.hostTarget 0x100040 true = some (1, 64) ∧
    running.hostTarget 64 false = none ∧ mapped.stk.poison = [] ∧ mapped.stk.upsets = [] ∧
    mapped.translate (mapped.alloc 0) 64 / 64 / 64 ∉ mapped.stk.zero ∧ PlainMemory (on mapped) ∧ (mapped.alloc 0).purpose ≠ 1 ∧
    (mapped.alloc 1).purpose = 1 ∧ Room mapped 1 ∧ 0 + 2 ^ 28 * 2304 ≤ 0x9000000000 ∧ 0x9000000000 < 1 + 2 ^ 28 * 2304 := by decide +kernel

/-- R379: the enabled byte of a granule is replaced. -/
theorem test_byte_enable : (match exec (.cxlMemWrite 64 2 0xAABB false) (on mapped) with
    | .next t => (t.byte 64, t.byte 65, t.byte 66)
    | _ => (9, 9, 9)) = (0, 0xAA, 0) := by decide +kernel

theorem meets_scrub : let d := mapped
    d.hst.trained.testBit 0 = true ∧ d.hst.trained.testBit 1 = false ∧ d.stk.scrub.getD 0 0 < 0x30000000 ∧ 0 / 64 ∉ d.stk.zero ∧ 0 ∉ d.stk.poison ∧
    d.stk.upsets = [] ∧ 0x2FFFFFFF + 1 = 0x30000000 ∧ Room d 1 ∧ stackOf (64 * 0) = some 0 ∧ stackOf (64 * 0x30000000) ≠ some 0 ∧ 0 ∉ d.stk.corrected := by
  decide +kernel

theorem meets_last_spare : ∀ g, let d : Dev := { mapped with stk := { mapped.stk with corrected := [0], spares := (List.range 16).map (fun j => (j, 31)) } }
    tgetD d.stk.spares (16 * 0 + Config.dramDie g % 16) 0 = 31 ∧ 0 ∈ d.stk.corrected := by
  intro g
  have h : ∀ k < 16, tgetD ((List.range 16).map (fun j => (j, 31))) (16 * 0 + k) 0 = 31 := by decide
  exact ⟨h _ (Nat.mod_lt _ (by decide)), by decide⟩

/-! ### Protection -/

/-- A vault header: KIND, ITEM, SHARD, K, source 77, OFFSET and LENGTH. -/
def vhdr (kind item shard k offset length : Nat) : BitVec 512 :=
  BitVec.ofNat 512 (kind + 2 ^ 16 * item + 2 ^ 32 * shard + 2 ^ 40 * k + 2 ^ 128 * 77 + 2 ^ 192 * offset + 2 ^ 256 * length)

/-- The linked device with its vault partition, which holds a bay of source 77. -/
def vaulted (d : Dev) : State :=
  runWith d [(0x200000, 4, 0x54415642), (0x200004, 2, 1), (0x200020, 8, 77), (0x200028, 8, 4096), (0x200030, 8, 8192)]

theorem meets_vault : (∀ k ∈ [1, 2, 3, 4, 5, 6, 7, 9, 10, 11], linked.vaultOk 7 (vaultHdr (vhdr k 0 0 2 0 8)) (leBytes 8 8192) = true) ∧
    linked.vaultOk 7 (vaultHdr (vhdr 8 0 0xF 0 0 4096)) [] = true ∧ linked.vaultOk 6 (vaultHdr (vhdr 8 0 0xF 0 0 4096)) [] = false ∧
    linked.vaultAlloc = some 2 ∧ (∃ l, claimBay ((vaulted linked).bays 2) (linked.alloc 2).size 77 8192 = some l) ∧
    claimBay ((vaulted linked).bays 2) (linked.alloc 2).size 77 65536 = none ∧ linked.prt.outbox = [] ∧
    alone.vaultStream 0 3 false = none ∧ Room linked 1 :=
  ⟨by decide +kernel, by decide +kernel, by decide +kernel, by decide +kernel, Option.isSome_iff_exists.mp (by decide +kernel), by decide +kernel,
    by decide +kernel, by decide +kernel, by decide +kernel⟩

/-- A bay claimed again, larger, stays at its place; one behind another moves behind it where it does not fit any more. -/
theorem meets_bay_claimed_again : let s := vaulted linked
    let now : List Bay := [{ source := 77, offset := 4096, size := 8256, gen := 0 }]
    claimBay (s.bays 2) (linked.alloc 2).size 77 8200 = some now ∧ (s.putBays 2 now).bays 2 = now ∧
    (s.bays 2).find? (fun b => b.source = 77) = some { source := 77, offset := 4096, size := 8192, gen := 0 } ∧
    claimBay [{ source := 77, offset := 4096, size := 64, gen := 5 }, { source := 78, offset := 4160, size := 64, gen := 0 }] 65536 77 65 =
      some [{ source := 78, offset := 4160, size := 64, gen := 0 }, { source := 77, offset := 4224, size := 128, gen := 5 }] ∧
    (s.bays 2).all (fun b => b.source ≠ 78) = true ∧ (s.bays 2).length < 127 ∧ bayEnd (s.bays 2) + (100 + 63) / 64 * 64 ≤ (linked.alloc 2).size := by
  decide +kernel

theorem meets_bay_written : let s := vaulted linked
    let l := [({ source := 77, offset := 4096, size := 8192, gen := 0 } : Bay)]
    (s.putBays 2 l).bays 2 = l ∧ (s.putBays 2 [{ source := 2 ^ 64, offset := 0, size := 0, gen := 0 }]).bays 2 ≠
      [{ source := 2 ^ 64, offset := 0, size := 0, gen := 0 }] := by decide +kernel

theorem meets_vault_block : let s := vaulted linked
    let h := vaultHdr (vhdr 3 5 1 2 0 8)
    (s.bays 2).find? (fun b => b.source = h.source) = some { source := 77, offset := 4096, size := 8192, gen := 0 } ∧ PlainMemory s ∧
    (∀ x ∈ s.dev.prt.held, x.src ≠ h.source) ∧ 4096 % 64 = 0 ∧ s.dev.accessKind 5 2 (4096 + h.offset % 64) 8 true = none ∧
    (h.offset % 64 + 8 + 63) / 64 * 64 ≤ 8192 ∧ 64 < ((vaultHdr (vhdr 3 5 1 2 60 8)).offset % 64 + 8 + 63) / 64 * 64 ∧
    ((on linked).bays 2).all (fun b => b.source ≠ 77) = true := by decide +kernel

/-- A shard that the vault holds of source 77. -/
def kept : Held := { src := 77, item := 0, shard := 0, gen := 0, step := 3, grans := [(0, 0)], size := 8, whole := true }

theorem meets_vault_fetch : let d : Dev := { linked with prt := { linked.prt with held := [kept], serving := some (0, 77) } }
    d.heldFind 77 0 256 0 = none ∧ ({ linked with prt := { linked.prt with held := [{ kept with shard := 256 }] } } : Dev).heldFind 77 0 256 0 =
      some { kept with shard := 256 } ∧
    d.accessKind 5 (d.itemRange 0 0).1 (d.itemRange 0 0).2.1 4096 false = none ∧ d.stk.poison = [] ∧ d.stk.upsets = [] ∧
    kept.whole = true ∧ granPieces 0 (min (min 4096 8) (kept.size - 0)) = [(0, 8)] ∧
    kept.place { source := 77, offset := 4096, size := 8192, gen := 0 } 0 = 4096 ∧ linked.prt.held = [] ∧ linked.prt.refill = none ∧ d.prt.held = [kept] ∧
    ((vaulted d).bays 2).find? (fun b => b.source = kept.src) = some { source := 77, offset := 4096, size := 8192, gen := 0 } ∧
    d.accessKind 5 2 4096 8 false = none ∧ d.accessKind 5 2 65536 8 false = some 1 := by decide +kernel

/-- A snapshot in progress of one item. -/
def snapping (sent : Bool) (recorded : Bool) (awaiting : List (Nat × Nat)) : Dev :=
  let x : SnapItem := { item := 0, alloc := 0, base := 0, size := 4096, group := 0, k := 2, places := [0, 0, 0, 0], chunk := b2n sent
                        receipts := if sent then [0, 1, 2, 3] else [] }
  let sn : Snapshot := { gen := 4, step := 7, frame := 90, groups := [0], recorded := recorded, awaiting := awaiting, items := [x] }
  { linked with prt := { linked.prt with snap := some sn } }

theorem meets_snapshot_read : let d := snapping false false []
    d.prt.frozen = [] ∧ d.stk.poison = [] ∧ d.stk.upsets = [] ∧ d.accessKind 5 0 0 4096 false = none ∧ ((on d).engineRead 0 0 4096 (some true)).1.isSome = true ∧
    ((on d).engineRead 0 65536 64 (some true)).1 = none ∧ (alone.vaultSend 0 3 false []).1 = false ∧ (linked.vaultSend 0 4 false []).1 = true := by
  decide +kernel

theorem meets_snapshot : (snapping false false []).prt.outbox = [] ∧ (snapping false false []).flt.stop = .running ∧
    (∀ sn, (snapping false false []).prt.snap = some sn → ∃ x, sn.items.findIdx? (fun y => !y.sent && y.ready (snapping false false [])) = some 0 ∧ sn.items[0]? = some x ∧ x.pinned = false) ∧
    (∀ sn, (snapping true false []).prt.snap = some sn → (∀ x ∈ sn.items, x.sent = true ∧ x.safe = true) ∧ sn.recorded = false ∧ sn.partners ≠ []) := by
  refine ⟨by decide +kernel, by decide +kernel, ?_, ?_⟩
  · intro sn h
    cases h
    exact ⟨_, by decide +kernel, rfl, by decide +kernel⟩
  · intro sn h
    cases h
    exact ⟨by decide +kernel, rfl, by decide +kernel⟩

theorem meets_last_receipt : ∀ sn, (snapping true true [(0, 0)]).prt.snap = some sn → (vaultHdr (vhdr 6 0xC000 0 0 0 0)).item - 0xC000 = 0 ∧
    sn.recorded = true ∧ sn.awaiting.filter (fun x => x ≠ (0, 0)) = [] ∧ (vaultHdr (vhdr 6 0xC000 0 0 0 0)).status = 0 := by
  intro sn h
  cases h
  exact ⟨by decide +kernel, rfl, by decide +kernel, by decide +kernel⟩

/-- A mirror of tensor 0 with one block to send. -/
def mirroring : MirrorItem := { tensor := 0, partner := 0, toSend := [0] }

theorem meets_mirror : let d : Dev := { linked with prt := { linked.prt with mirrors := [mirroring] } }
    d.prt.mirrors.find? (fun x => !x.toSend.isEmpty) = some mirroring ∧ mirroring.open_ = false ∧
    d.canIssue = true ∧ ({ d with flt := { d.flt with stop := .stopping } } : Dev).canIssue = false ∧
    d.prt.mirrors.find? (fun x => decide (x.tensor = 0 ∧ x.partner = 0)) = some mirroring ∧ 0 < (d.alloc (d.tensor 0).alloc).size := by
  decide +kernel

/-- A restore that waits for 8 bytes of item 0, and a refill of tensor 0. -/
def restoring : RefillRun := { restore := true, fp := 77, group := 0, asked := true, wants := [{ item := 0, shard := 0, gen := 1, group := 0, size := 8, tries := [0] }] }
def refilling : RefillRun := { restore := false, fp := 77, group := 0, asked := true, items := [{ item := 0, alloc := 0, base := 0, size := 8192, tries := [(0, 0xA)] }] }

theorem meets_fetch_data : let d : Dev := (({ linked with prt := { linked.prt with refill := some refilling } } : Dev).setReg .prtRefillAlloc 2)
    restoring.restore = true ∧ restoring.wants ≠ [] ∧ restoring.asked = true ∧ (vaultHdr (vhdr 9 0 0 0 0 8)).status = 0 ∧
    refilling.restore = false ∧ refillAt refilling.items ((on d).refillPos refilling) = some ({ item := 0, alloc := 0, base := 0, size := 8192, tries := [(0, 0xA)] }, 0) ∧
    PlainMemory (on d) ∧ d.accessKind 5 0 0 4096 true = none ∧ d.accessKind 5 d.refillAlloc 0 1 true = none ∧
    (leBytes 4096 0).length = min 4096 (8192 - 4096 * 0) ∧ (leBytes 8 0).length ≠ min 4096 (8192 - 4096 * 0) ∧
    refillAt [({ item := 0, alloc := 0, base := 0, size := 8192 } : RefillItem)] 0 = some ({ item := 0, alloc := 0, base := 0, size := 8192 }, 0) ∧
    ({ item := 0, alloc := 0, base := 0, size := 8192 } : RefillItem).via = homeShard ∧ linked.usable 0 = true ∧
    OutsideBytes d 0 0 4096 (d.translate (d.alloc d.refillAlloc) 0) := by
  unfold OutsideBytes
  decide +kernel

theorem meets_restore_complete : let r : RefillRun := { restore := true, fp := 77, group := 0 }
    r.restore = true ∧ r.wants = [] ∧ r.chosen = false ∧ Room linked 1 ∧ State.reset.dev.protGroups = [] := by decide +kernel

theorem meets_reconcile : let d : Dev := { linked with prt := { linked.prt with reconcile := some (0, 0) } }
    d.prt.reconcile = some (0, 0) ∧ (on d).dirValid (d.regFld .ldgDirAlloc 0 12) = false ∧ Room ((on d).reconcileChecks 0 0).2.dev 1 := by
  decide +kernel

theorem meets_refill_begin : linked.seq.run ≠ none ∧ ({ linked with seq := State.reset.dev.seq } : Dev).ldg.state = .idle ∧
    linked.cht.active ≠ none ∧ linked.prt.serving = none ∧ linked.sectionDigests.length = 64 := by decide +kernel

end Sys2Proof.Tests
end

section
/-! SUPPORT. The register table, what raising a fault keeps and enters, and an entry of a journal with room. -/

namespace Sys2Proof.Machine

open Sys2Proof.Safety

/-! ### The register table -/

theorem card_of_mem_regTable : ∀ c ∈ regTable, c.reg.card = c := by decide +kernel

/-- What `regAt` finds stands there: a card of the table, and a number of it that the card has. -/
theorem regAt_eq_some {a i : Nat} {c : RegDef} (h : regAt a = some (c, i)) : c ∈ regTable ∧ i < c.count ∧ c.at i = a := by
  obtain ⟨e, he, hx⟩ := List.exists_of_findSome?_eq_some h
  obtain ⟨j, hj, hc⟩ := Option.map_eq_some_iff.mp hx
  cases hc
  have hr := List.mem_of_find?_eq_some hj
  have ha := List.find?_some hj
  exact ⟨he, List.mem_range.mp hr, of_decide_eq_true ha⟩

theorem card_of_regAt {a i : Nat} {c : RegDef} (h : regAt a = some (c, i)) : c.reg.card = c :=
  card_of_mem_regTable c (regAt_eq_some h).1

theorem card_at_of_regAt {a i : Nat} {c : RegDef} (h : regAt a = some (c, i)) : c.reg.card.at i = a := by
  rw [card_of_regAt h]
  exact (regAt_eq_some h).2.2

/-! ### Registers outside a list of addresses -/

theorem sameRegs_refl (d : Dev) (xs : List Nat) : SameRegs d d xs := fun _ _ => rfl

theorem sameRegs_trans {a b c : Dev} {xs : List Nat} (h : SameRegs a b xs) (k : SameRegs b c xs) : SameRegs a c xs :=
  fun p hp => (k p hp).trans (h p hp)

theorem sameRegs_of_regs_eq {a b : Dev} (xs : List Nat) (h : b.regs = a.regs) : SameRegs a b xs := fun p _ => by rw [h]

theorem Dev.setReg_sameRegs (d : Dev) (r : Reg) (v i : Nat) {xs : List Nat} (h : r.card.at i ∈ xs) : SameRegs d (d.setReg r v i) xs :=
  fun _ hp => tget_tput_other _ _ _ _ (fun e => hp (e ▸ h))

theorem Dev.countFault_regs (d : Dev) (s : Severity) : SameRegs d (d.countFault s) countRegs := by
  cases s
  case notice | degrade => exact Dev.setReg_sameRegs d .fltCount0 _ 0 (by decide +kernel)
  case stepAbort | chipStop => exact Dev.setReg_sameRegs d .fltCount1 _ 0 (by decide +kernel)

theorem Dev.countFault_flt (d : Dev) (s : Severity) : (d.countFault s).flt = d.flt := by cases s <;> rfl

/-- Only the three overruns are captured (R84). -/
theorem Dev.captureOvr_other (d : Dev) {code : Nat} (wher : Nat) (h : code < 0x1010 ∨ 0x1012 < code) : d.captureOvr code wher = d := by
  simp [Dev.captureOvr, h]

theorem Dev.captureOvr_flt (d : Dev) (code wher : Nat) : (d.captureOvr code wher).flt = d.flt := by
  unfold Dev.captureOvr
  extract_lets o bit grp prt o1 o2
  split
  · rfl
  · split
    · split <;> rfl
    · rfl

theorem Dev.trace_regs (d : Dev) (kind unit wher data : Nat) : (d.trace kind unit wher data).regs = d.regs := by
  unfold Dev.trace
  split <;> rfl

theorem Dev.trace_flt (d : Dev) (kind unit wher data : Nat) : (d.trace kind unit wher data).flt = d.flt := by
  unfold Dev.trace
  split <;> rfl

theorem Dev.tracePin_regs (d : Dev) (code : Nat) : (d.tracePin code).regs = d.regs := by
  unfold Dev.tracePin
  split
  · rfl
  · split <;> rfl

theorem Dev.tracePin_flt (d : Dev) (code : Nat) : (d.tracePin code).flt = d.flt := by
  unfold Dev.tracePin
  split
  · rfl
  · split <;> rfl

/-! ### What raising a fault keeps and what it enters -/

/-- `e` is `d` but for the fault queue and its counts. -/
def Flt.QueueOf (d e : Flt) : Prop :=
  e = { d with queue := e.queue, handling := e.handling, nextSeq := e.nextSeq, reserved := e.reserved, overflow := e.overflow }

theorem Flt.QueueOf.of_eq {d e : Flt} (h : e = d) : d.QueueOf e := h ▸ rfl

theorem Flt.QueueOf.trans {a b c : Flt} (h : a.QueueOf b) (k : b.QueueOf c) : a.QueueOf c := by
  unfold Flt.QueueOf at h k ⊢
  rw [k, h]

theorem Dev.enterFault_queueOf (d : Dev) (r : FaultRec) : d.flt.QueueOf (d.enterFault r).flt := by
  unfold Dev.enterFault
  dsimp only
  split
  · rfl
  · split
    · rfl
    · split
      · rfl
      · unfold Flt.QueueOf
        rw [Dev.countFault_flt]

theorem Dev.preempt_queueOf (d : Dev) (s : Severity) : d.flt.QueueOf (d.preempt s).flt := by
  unfold Dev.preempt
  split
  · rfl
  · split <;> rfl

theorem Dev.enterFault_regs (d : Dev) (r : FaultRec) : SameRegs d (d.enterFault r) countRegs := by
  unfold Dev.enterFault
  dsimp only
  split
  · exact sameRegs_refl _ _
  · split
    · exact sameRegs_refl _ _
    · split
      · exact sameRegs_refl _ _
      · exact Dev.countFault_regs _ _

theorem Dev.preempt_regs (d : Dev) (s : Severity) : (d.preempt s).regs = d.regs := by
  unfold Dev.preempt
  split
  · rfl
  · split <;> rfl

/-- With room in the queue a record waits in it, or is counted at the one that waits for the same cause (R496). -/
theorem Dev.enterFault_waits (d : Dev) (r : FaultRec) (h : Room d 1) :
    Waits (d.enterFault r) r.code r.unit r.wher := by
  unfold Dev.enterFault
  dsimp only
  split
  · rename_i hq
    obtain ⟨q, hm, hs⟩ := List.any_eq_true.mp hq
    have hs' := of_decide_eq_true hs
    exact ⟨_, List.mem_map_of_mem hm, by rw [if_pos hs']; exact hs'⟩
  · rw [if_pos (by unfold Room at h; omega)]
    exact ⟨_, List.mem_append_right _ (List.mem_singleton.mpr rfl), rfl, rfl, rfl⟩

theorem Dev.preempt_waits (d : Dev) (s : Severity) {code unit wher : Nat} (h : Waits d code unit wher) :
    Waits (d.preempt s) code unit wher := by
  obtain ⟨q, hq, hs⟩ := h
  unfold Dev.preempt
  split
  · exact ⟨q, hq, hs⟩
  · split
    · exact ⟨q, List.mem_cons_of_mem _ hq, hs⟩
    · exact ⟨q, hq, hs⟩

/-- The stages of a raising: it is counted, captured and entered, and it may stop the handling of another record; the rest is trace,
counters, fill work and an interrupt. -/
theorem Dev.raiseAs_stages (d : Dev) (sev : Severity) (code unit wher detail : Nat) :
    ∃ (s top : Severity) (r : FaultRec), r.code = code ∧ r.unit = unit ∧ r.wher = wher ∧
      (d.raiseAs sev code unit wher detail).flt = ((((d.countFault s).captureOvr code wher).enterFault r).preempt top).flt ∧
      (d.raiseAs sev code unit wher detail).regs = (((d.countFault s).captureOvr code wher).enterFault r).regs := by
  unfold Dev.raiseAs
  extract_lets down s r d1 d2 lost top d3 d4 trig cfg hit d5
  have h4 : d4.flt = d3.flt ∧ d4.regs = d3.regs := by
    dsimp only [d4]
    split
    · exact ⟨Dev.trace_flt _ _ _ _ _, Dev.trace_regs _ _ _ _ _⟩
    · exact ⟨rfl, rfl⟩
  have h5 : d5.flt = d4.flt ∧ d5.regs = d4.regs := by
    have pin : ∀ c, (d4.tracePin c).flt = d4.flt ∧ (d4.tracePin c).regs = d4.regs :=
      fun c => ⟨Dev.tracePin_flt _ c, Dev.tracePin_regs _ c⟩
    dsimp only [d5]
    split
    · exact pin _
    · split
      · exact pin _
      · exact ⟨rfl, rfl⟩
  have f : d5.flt = (d2.preempt top).flt := (h5.1.trans h4.1).trans (Dev.trace_flt _ _ _ _ _)
  have g : d5.regs = d2.regs := ((h5.2.trans h4.2).trans (Dev.trace_regs _ _ _ _ _)).trans (Dev.preempt_regs _ _)
  refine ⟨s, top, r, rfl, rfl, rfl, ?_⟩
  split <;> exact ⟨f, g⟩

theorem Dev.raiseAs_faultPartsOf (d : Dev) (sev : Severity) (code unit wher detail : Nat) :
    FaultPartsOf d (d.raiseAs sev code unit wher detail) := by
  refine ⟨?_, ?_⟩
  · have h := d.raiseAs_frame sev code unit wher detail
    generalize d.raiseAs sev code unit wher detail = e at h
    cases e
    cases h
    simp_all
  · obtain ⟨s, top, r, -, -, -, hf, -⟩ := d.raiseAs_stages sev code unit wher detail
    have h1 : ((d.countFault s).captureOvr code wher).flt = d.flt := (Dev.captureOvr_flt _ _ _).trans (Dev.countFault_flt _ _)
    exact (((Flt.QueueOf.of_eq h1).trans (Dev.enterFault_queueOf _ _)).trans (Dev.preempt_queueOf _ _)).trans (.of_eq hf)

/-- Raising a fault that is no overrun changes no register but the two that count. -/
theorem Dev.raiseAs_regs (d : Dev) (sev : Severity) {code : Nat} (unit wher detail : Nat) (hc : code < 0x1010 ∨ 0x1012 < code) :
    SameRegs d (d.raiseAs sev code unit wher detail) countRegs := by
  obtain ⟨s, top, r, -, -, -, -, hg⟩ := d.raiseAs_stages sev code unit wher detail
  rw [Dev.captureOvr_other _ _ hc] at hg
  exact sameRegs_trans (sameRegs_trans (d.countFault_regs s) (Dev.enterFault_regs _ r)) (sameRegs_of_regs_eq _ hg)

/-- With room in the fault queue a raised fault waits in it (R496). -/
theorem Dev.raiseAs_waits (d : Dev) (sev : Severity) (code unit wher detail : Nat) (h : Room d 1) :
    Waits (d.raiseAs sev code unit wher detail) code unit wher := by
  obtain ⟨s, top, r, hc, hu, hw, hf, -⟩ := d.raiseAs_stages sev code unit wher detail
  have h1 : ((d.countFault s).captureOvr code wher).flt = d.flt := (Dev.captureOvr_flt _ _ _).trans (Dev.countFault_flt _ _)
  have h2 := (Dev.enterFault_waits _ r (by unfold Room at h ⊢; rw [h1]; exact h))
  rw [hc, hu, hw] at h2
  unfold Waits
  rw [hf]
  exact Dev.preempt_waits _ top h2

/-! ### An entry of a journal with room -/

/-- `e` is `d` after one journal entry of a kind and source, naming an object with its value before and after. -/
def Dev.TookEntry (d e : Dev) (source kind object old new : Nat) : Prop :=
  ∃ (x : JEntry) (seals : List Seal) (free : Nat),
    e = { d with
      sec := { d.sec with journal := (x :: d.sec.journal).take 65536, nextSeq := d.sec.nextSeq + 1, seals := seals }
      free := free } ∧
    x.source = source ∧ x.kind = kind ∧ x.object = object % 2 ^ 64 ∧ x.old = old % 2 ^ 256 ∧ x.new = new % 2 ^ 256

/-- Away from its limits the journal takes the entry and raises nothing (R567). -/
theorem Dev.journal_of_room {d : Dev} (h : JournalRoom d 1) (source kind : Nat) (digest : Bool) (object who old new : Nat) :
    d.TookEntry (d.journal source kind digest object who old new) source kind object old new := by
  have hr : d.sec.nextSeq - d.sec.acked + 1 < 57344 := h
  unfold Dev.journal
  rw [if_neg (by unfold Sec.unexported; omega)]
  extract_lets e0 e sealNow s1 d1 u d2
  have hu : u ≤ d.sec.nextSeq - d.sec.acked + 1 := by
    show d.sec.nextSeq + 1 - d.sec.acked ≤ _
    omega
  have h2 : d2 = d1 := if_neg (by omega)
  rw [if_neg (by omega), h2]
  exact ⟨e, _, _, rfl, rfl, rfl, rfl, rfl, rfl⟩

theorem Dev.TookEntry.room {d e : Dev} {source kind object old new n : Nat} (t : d.TookEntry e source kind object old new)
    (h : JournalRoom d (n + 1)) : JournalRoom e n := by
  obtain ⟨x, seals, free, rfl, -⟩ := t
  have hr : d.sec.nextSeq - d.sec.acked + (n + 1) < 57344 := h
  show d.sec.nextSeq + 1 - d.sec.acked + n < 57344
  omega

theorem Dev.TookEntry.regs {d e : Dev} {source kind object old new : Nat} (t : d.TookEntry e source kind object old new) :
    e.regs = d.regs := by
  obtain ⟨x, seals, free, rfl, -⟩ := t
  rfl

theorem Dev.TookEntry.staged {d e : Dev} {source kind object old new : Nat} (t : d.TookEntry e source kind object old new) :
    e.staged = d.staged := by
  obtain ⟨x, seals, free, rfl, -⟩ := t
  rfl

theorem Dev.TookEntry.stk {d e : Dev} {source kind object old new : Nat} (t : d.TookEntry e source kind object old new) :
    e.stk = d.stk := by
  obtain ⟨x, seals, free, rfl, -⟩ := t
  rfl

theorem JournalRoom.mono {d : Dev} {m n : Nat} (h : JournalRoom d n) (hmn : m ≤ n) : JournalRoom d m := by
  unfold JournalRoom at h ⊢
  omega

/-- A change goes on while the journal has room (R567). -/
theorem Dev.refuseChange_of_room {d : Dev} (h : JournalRoom d 0) (src : Master) (where_ detail : Nat) :
    d.refuseChange src where_ detail = (false, d) := by
  have hr : d.sec.unexported < 57344 := h
  have hf : d.journalFull src = false := by
    cases src
    all_goals exact decide_eq_false (by omega)
  simp [Dev.refuseChange, hf]

end Sys2Proof.Machine
end

section
/-! The statements on the BAR0 bus, each after the rules of the bus that it needs (R8 to R17). -/

namespace Sys2Proof.Machine

open Sys2Proof.Safety

/-- Memory reads as before where neither the memories nor what is attached to a stack has changed. -/
theorem sameBytes_of_stk (s : State) {e : Dev} (h : e.stk = s.dev.stk) : SameBytes s { s with dev := e } :=
  ⟨rfl, fun a => by simp [State.byte, Dev.zeroMarked, h], fun _ => rfl⟩

/-! ### The bus -/

theorem State.busWrite_other (s : State) {src : Master} (h : src = .peer ∨ src = .device) (a v : Nat) :
    s.busWrite src a v = (false, s) := by
  rcases h with rfl | rfl <;> rfl

theorem State.busWrite_at (s : State) {src : Master} (h : src = .host ∨ src = .management) {a i : Nat} {c : RegDef} (v : Nat)
    (ha : regAt a = some (c, i)) : s.busWrite src a v = s.regWrite src c i a (s.dev.selected c.reg) v := by
  unfold State.busWrite
  rw [if_neg (by rcases h with rfl | rfl <;> decide), ha]

theorem State.busWrite_unoccupied (s : State) {a : Nat} (v : Nat) (ha : regAt a = none) (hk : inKeyWindow a = false) (hm : inMsix a = false) :
    s.busWrite .host a v = (true, { s with dev := s.dev.unoccupied .host a }) := by
  unfold State.busWrite
  rw [if_neg (by decide), ha]
  simp [hk, hm]

theorem State.busRead_unoccupied (s : State) (src : Master) {a : Nat} (ha : regAt a = none) (hk : inKeyWindow a = false)
    (hm : inMsix a = false) : s.busRead src a = (0, { s with dev := s.dev.unoccupied src a }) := by
  unfold State.busRead
  rw [ha]
  simp [hk, hm]

theorem chipOnly_shown {r : Reg} {i : Nat} (hi : r.chipOnly = true → i = 0) : (r.chipOnly && decide (i ≠ 0)) = false := by
  cases h : r.chipOnly
  · rfl
  · simp [hi h]

/-- A register without a writable field takes no write. -/
theorem State.regWrite_readOnly (s : State) (src : Master) {c : RegDef} (i a sel v : Nat) (hrw : c.rw = 0) (hw1c : c.w1c = 0) (hwo : c.wo = 0)
    (hl : c.reg.isLowRw = false) (hh : c.reg.isHighRw = false) : s.regWrite src c i a sel v = (true, s) := by
  simp [State.regWrite, hrw, hw1c, hwo, hl, hh]

/-- A write of a read-write register that is no half of a 64-bit quantity. -/
theorem State.regWrite_rw (s : State) (src : Master) {c : RegDef} {i : Nat} (a sel v : Nat) (hi : c.reg.chipOnly = true → i = 0)
    (hwo : c.wo = 0) (hl : c.reg.isLowRw = false) (hh : c.reg.isHighRw = false) (hw1c : c.w1c = 0) (hrw : c.rw ≠ 0) :
    s.regWrite src c i a sel v =
      ((s.dev.rwWrite src c i a sel v).1, { s with dev := (s.dev.rwWrite src c i a sel v).2 }) := by
  unfold State.regWrite
  rw [chipOnly_shown hi]
  simp [hwo, hl, hh, hw1c, hrw]

/-- A write of a write-1-clear register. -/
theorem State.regWrite_w1c (s : State) (src : Master) {c : RegDef} {i : Nat} (a sel v : Nat) (hi : c.reg.chipOnly = true → i = 0)
    (hwo : c.wo = 0) (hl : c.reg.isLowRw = false) (hh : c.reg.isHighRw = false) (hw1c : c.w1c ≠ 0) :
    s.regWrite src c i a sel v =
      ((s.dev.clearWrite src c i a v).1, { s with dev := (s.dev.clearWrite src c i a v).2 }) := by
  unfold State.regWrite
  rw [chipOnly_shown hi]
  simp [hwo, hl, hh, hw1c]

/-- A staged write with room in the journal. -/
theorem Dev.stage_of_room {d : Dev} (h : JournalRoom d 0) (src : Master) (c : RegDef) (i a sel v : Nat) :
    d.stage src c i a sel v =
      (true, { d with staged := d.staged ++ [({ src := src, addr := a, value := v, sel := sel, pos := d.arrived } : StagedWrite)] }) := by
  unfold Dev.stage
  rw [Dev.refuseChange_of_room h, ite_self]
  rfl

/-- A read-write register without immediate fields is written at the tick (R13). -/
theorem State.regWrite_staged {s : State} (h : JournalRoom s.dev 0) (src : Master) {c : RegDef} {i : Nat} (a sel v : Nat)
    (hi : c.reg.chipOnly = true → i = 0) (hwo : c.wo = 0) (hw1c : c.w1c = 0) (hrw : c.rw ≠ 0) (himm : c.imm = 0)
    (hl : c.reg.isLowRw = false) (hh : c.reg.isHighRw = false) :
    (s.regWrite src c i a sel v).2 = { s with dev := { s.dev with staged := s.dev.staged ++
      [({ src := src, addr := a, value := v, sel := sel, pos := s.dev.arrived } : StagedWrite)] } } := by
  rw [State.regWrite_rw s src a _ v hi hwo hl hh hw1c hrw, Dev.rwWrite, if_neg (by simp [himm]), Dev.stage_of_room h]

/-- The registers that DOMAIN_WRITE, CNT_ENABLE and RING_ENABLE write wait for the tick. -/
theorem commandRegs_staged : ∀ r ∈ [Reg.lnkDomainLo, .lnkDomainHi, .obsCntCtl, .hstRingCfg], regAt r.card.addr = some (r.card, 0) ∧
    r.card.reg = r ∧ r.card.wo = 0 ∧ r.card.w1c = 0 ∧ r.card.rw ≠ 0 ∧ r.card.imm = 0 ∧ r.isLowRw = false ∧ r.isHighRw = false := by
  decide +kernel

/-- A command's write of one of them, under what a selector shows. -/
theorem State.regWrite_commandReg {s : State} (h : JournalRoom s.dev 0) (src : Master) {r : Reg}
    (hr : r ∈ [Reg.lnkDomainLo, .lnkDomainHi, .obsCntCtl, .hstRingCfg]) (sel v : Nat) :
    (s.regWrite src r.card 0 r.card.addr sel v).2 = { s with dev := { s.dev with staged := s.dev.staged ++
      [({ src := src, addr := r.card.addr, value := v, sel := sel, pos := s.dev.arrived } : StagedWrite)] } } := by
  obtain ⟨-, he, hwo, hw1c, hrw, himm, hl, hh⟩ := commandRegs_staged r hr
  exact State.regWrite_staged h src _ sel v (fun _ => rfl) hwo hw1c hrw himm (by rw [he]; exact hl) (by rw [he]; exact hh)

theorem State.busWrite_commandReg {s : State} (h : JournalRoom s.dev 0) {src : Master} (hs : src = .host ∨ src = .management) {r : Reg}
    (hr : r ∈ [Reg.lnkDomainLo, .lnkDomainHi, .obsCntCtl, .hstRingCfg]) (v : Nat) :
    (s.busWrite src r.card.addr v).2 = { s with dev := { s.dev with staged := s.dev.staged ++
      [({ src := src, addr := r.card.addr, value := v, sel := s.dev.selected r, pos := s.dev.arrived } : StagedWrite)] } } := by
  obtain ⟨ha, he, -⟩ := commandRegs_staged r hr
  rw [State.busWrite_at s hs v ha, he, State.regWrite_commandReg h src hr]

/-! ### The commands of the bus -/

theorem exec_registerWrite (a : BitVec 24) (v : BitVec 32) (s : State) :
    exec (.registerWrite a v) s = .next (s.busWrite .host a.toNat v.toNat).2 := rfl

theorem exec_highWordWrite (a : BitVec 24) (v : BitVec 32) (s : State) :
    exec (.highWordWrite a v) s = .next (s.busWrite .host a.toNat v.toNat).2 := rfl

theorem exec_lowWordRead (a : BitVec 24) (s : State) :
    exec (.lowWordRead a) s = .next { (s.busRead .host a.toNat).2 with
      dev := (s.busRead .host a.toNat).2.dev.emit (.value (s.busRead .host a.toNat).1) } := rfl

theorem exec_unoccupiedWrite (a : BitVec 24) (s : State) :
    exec (.bar0UnoccupiedAccess a true) s = .next (s.busWrite .host a.toNat 0).2 := rfl

theorem exec_unoccupiedRead (a : BitVec 24) (s : State) :
    exec (.bar0UnoccupiedAccess a false) s = .next { (s.busRead .host a.toNat).2 with
      dev := (s.busRead .host a.toNat).2.dev.emit (.value (s.busRead .host a.toNat).1) } := rfl

/-! ### Writes that are ignored, reported or wait for the tick -/

/-- Settles O8: a write of a card without writable bits falls through, and an unoccupied offset only raises its notice. -/
theorem readOnlyAndUnoccupiedWrites : Obligations.ReadOnlyAndUnoccupiedWrites := by
  refine ⟨fun a v s c i ha hrw hw1c hwo hl hh => ?_, fun a write s ha hk hm hroom => ?_⟩
  · rw [exec_registerWrite, State.busWrite_at s (.inl rfl) _ ha, State.regWrite_readOnly s _ _ _ _ _ hrw hw1c hwo hl hh]
  · have hw := s.dev.raiseAs_waits (severityOf 0xB001) 0xB001 37 0 a.toNat hroom
    have hf := s.dev.raiseAs_faultPartsOf (severityOf 0xB001) 0xB001 37 0 a.toNat
    have hg := s.dev.raiseAs_regs (severityOf 0xB001) 37 0 a.toNat (code := 0xB001) (.inr (by decide))
    have hstk : (s.dev.unoccupied .host a.toNat).stk = s.dev.stk := Dev.raise_stk _ _ _ _ _
    cases write with
    | true =>
      refine ⟨{ s with dev := s.dev.unoccupied .host a.toNat }, ?_, hw, nofun, hf, hg, sameBytes_of_stk s hstk⟩
      rw [exec_unoccupiedWrite, State.busWrite_unoccupied s 0 ha hk hm]
    | false =>
      refine ⟨{ s with dev := (s.dev.unoccupied .host a.toNat).emit (.value 0) }, ?_, hw, fun _ => rfl, ⟨?_, hf.2⟩, hg,
        sameBytes_of_stk s hstk⟩
      · rw [exec_unoccupiedRead, State.busRead_unoccupied s _ ha hk hm]
      · show Dev.emit _ _ = _
        rw [show s.dev.unoccupied .host a.toNat = _ from hf.1]
        rfl

/-- Settles O7: with room in the journal every such write only joins the staged ones, and the bus lets no other master in. -/
theorem registerWritesWaitForTheTick : Obligations.RegisterWritesWaitForTheTick := by
  refine ⟨fun s src v high ring use off seq hs c hc => ?_, fun s src v hs hroom => ?_⟩
  · have hb := s.busWrite_other hs
    have hring : ¬(src = .host ∨ src = .management) := by rcases hs with rfl | rfl <;> decide
    simp only [List.mem_cons, List.not_mem_nil, or_false] at hc
    rcases hc with rfl | rfl | rfl | rfl | rfl | rfl | rfl | rfl | rfl | rfl | rfl | rfl | rfl
    all_goals
      simp [exec, execDomainWrite, execCntEnable, execRingEnable, execPartnerFree, execYield, execKeyCommit, execKeyErase, execKeyDataWrite,
        execJrnCtlSeal, execJrnAckWrite, execTrcArm, execTrcTrigger, execTrcDump, hb, hring]
  · have h0 : JournalRoom s.dev 0 := JournalRoom.mono hroom (by decide)
    refine ⟨fun a c i ha hi hwo hw1c hrw himm hl hh => ?_, fun high => ?_, ?_, fun ring => ?_⟩
    · rw [exec_registerWrite, State.busWrite_at s (.inl rfl) _ ha, State.regWrite_staged h0 _ _ _ _ hi hwo hw1c hrw himm hl hh]
    · cases high with
      | true => exact congrArg Host.Outcome.next (State.busWrite_commandReg h0 hs (r := .lnkDomainHi) (by decide) v.toNat)
      | false => exact congrArg Host.Outcome.next (State.busWrite_commandReg h0 hs (r := .lnkDomainLo) (by decide) v.toNat)
    · exact congrArg Host.Outcome.next (State.busWrite_commandReg h0 hs (r := .obsCntCtl) (by decide) v.toNat)
    · show Host.Outcome.next (if src = .host ∨ src = .management then _ else s) = _
      rw [if_pos hs]
      exact congrArg Host.Outcome.next (State.regWrite_commandReg h0 src (r := .hstRingCfg) (by decide) ring.val v.toNat)

/-! ### The change of a quantity -/

/-- With room in the journal a change that would alter the quantity is made and journalled; any other does nothing (R15, R567). -/
theorem Dev.change_of_room {d : Dev} (h : JournalRoom d 0) (src : Master) (c : RegDef) (i a sel v : Nat) :
    d.change src c i a sel v = (true,
      if d.quantity c.reg i sel &&& c.writable = v &&& c.writable then d
      else (d.setQuantity c.reg i sel (v &&& c.writable)).journalChange src c a (d.quantity c.reg i sel)
        ((d.setQuantity c.reg i sel (v &&& c.writable)).quantity c.reg i sel)) := by
  unfold Dev.change
  rw [Dev.refuseChange_of_room h]
  extract_lets old q d1
  split <;> rfl

/-- Noting the change of one 32-bit value. -/
theorem Dev.noteWord_keeps (d : Dev) (src : Master) (a old new : Nat) :
    let e := if old = new then d else d.journalReg src a old new
    e.staged = d.staged ∧ e.stk = d.stk ∧ (∀ n, JournalRoom d (n + 1) → e.regs = d.regs ∧ JournalRoom e n) := by
  dsimp only
  split
  · exact ⟨rfl, rfl, fun n h => ⟨rfl, JournalRoom.mono h (by omega)⟩⟩
  · refine ⟨Dev.journal_staged .., Dev.journal_stk .., fun n h => ?_⟩
    have t := Dev.journal_of_room (JournalRoom.mono h (by omega)) (masterNum src) 1 false a 0 old new
    exact ⟨t.regs, t.room h⟩

/-- Noting a change leaves the registers, the staged writes and what is attached to memory. -/
theorem Dev.journalChange_keeps {d : Dev} (h : JournalRoom d 2) (src : Master) (c : RegDef) (a old new : Nat) :
    (d.journalChange src c a old new).regs = d.regs ∧ (d.journalChange src c a old new).staged = d.staged ∧
      (d.journalChange src c a old new).stk = d.stk := by
  unfold Dev.journalChange
  dsimp only
  split
  · obtain ⟨s1, k1, g1⟩ := d.noteWord_keeps src (a - 4) (wordOf old 0) (wordOf new 0)
    obtain ⟨r1, room1⟩ := g1 1 h
    generalize (if wordOf old 0 = wordOf new 0 then d else d.journalReg src (a - 4) (wordOf old 0) (wordOf new 0)) = d1 at *
    obtain ⟨s2, k2, g2⟩ := d1.noteWord_keeps src a (wordOf old 1) (wordOf new 1)
    obtain ⟨r2, -⟩ := g2 0 room1
    exact ⟨r2.trans r1, s2.trans s1, k2.trans k1⟩
  · obtain ⟨s1, k1, g1⟩ := d.noteWord_keeps src a old new
    exact ⟨(g1 1 h).1, s1, k1⟩

/-! ### The two words of a 64-bit quantity (R11, R12) -/

/-- No low register follows a low register. -/
theorem isLow_next : ∀ c ∈ regTable, c.reg.isLow = true → ∀ i < c.count, (regAt (c.at i + 4)).all (fun x => !x.1.reg.isLow) = true := by
  decide +kernel

theorem State.busRead_low (s : State) (src : Master) {a i j : Nat} {c h : RegDef} (ha : regAt a = some (c, i)) (hl : c.reg.isLow = true)
    (hh : regAt (a + 4) = some (h, j)) :
    s.busRead src a = (s.view c.reg i, { s with dev := { s.dev with latched := tput s.dev.latched (a + 4) (s.view h.reg j) } }) := by
  unfold State.busRead
  rw [ha]
  dsimp only
  rw [if_pos hl, hh]

theorem State.busRead_latched (s : State) (src : Master) {a j v : Nat} {h : RegDef} (hh : regAt a = some (h, j)) (hl : h.reg.isLow = false)
    (hv : tget s.dev.latched a = some v) : (s.busRead src a).1 = v := by
  unfold State.busRead
  rw [hh]
  simp [hl, hv]

/-- The 64-bit read-write quantities. -/
def pairRegs : List (Reg × Reg) :=
  [(Reg.hstCmdLo, Reg.hstCmdHi), (.hstCompLo, .hstCompHi), (.secJrnAckLo, .secJrnAckHi), (.fltAtLo, .fltAtHi)]

theorem pairRegs_cards : ∀ p ∈ pairRegs, regAt p.1.card.addr = some (p.1.card, 0) ∧ regAt p.2.card.addr = some (p.2.card, 0) ∧
    p.1.card.reg = p.1 ∧ p.2.card.reg = p.2 ∧ p.1.card.wo = 0 ∧ p.2.card.wo = 0 ∧ p.1.isLowRw = true ∧ p.2.isLowRw = false ∧
    p.2.isHighRw = true ∧ p.2.card.addr - 4 = p.1.card.addr := by
  decide +kernel

theorem pairRegs_staged : ∀ p ∈ pairRegs, p.2 ≠ .fltAtHi → p.2.card.imm = 0 ∧ p.2.card.rw = 2 ^ 32 - 1 := by decide +kernel

theorem State.busWrite_lowWord (s : State) {p : Reg × Reg} (hp : p ∈ pairRegs) (v : Nat) :
    (s.busWrite .host p.1.card.addr v).2 =
      { s with dev := { s.dev with lowWords := tput s.dev.lowWords p.1.card.addr (v % 2 ^ 32) } } := by
  obtain ⟨ha, -, he, -, hwo, -, hl, -⟩ := pairRegs_cards p hp
  rw [State.busWrite_at s (.inl rfl) v ha]
  simp [State.regWrite, Dev.pairWrite, hwo, he, hl]

/-- The write of the high word takes the low word that waits. -/
theorem State.busWrite_highWord (s : State) {p : Reg × Reg} (hp : p ∈ pairRegs) {low : Nat} (v : Nat)
    (hlow : tget s.dev.lowWords p.1.card.addr = some low) :
    (s.busWrite .host p.2.card.addr v).2 = { s with dev :=
      (({ s.dev with lowWords := tdel s.dev.lowWords p.1.card.addr } : Dev).rwWrite .host p.2.card 0 p.2.card.addr (s.dev.selected p.2)
        (low + 2 ^ 32 * (v &&& p.2.card.rw))).2 } := by
  obtain ⟨-, ha, -, he, -, hwo, -, hl, hh, hd⟩ := pairRegs_cards p hp
  rw [State.busWrite_at s (.inl rfl) v ha]
  simp [State.regWrite, Dev.pairWrite, hwo, he, hl, hh, hd, tgetD, hlow]

theorem Dev.pair_setPair (d : Dev) {lo hi : Reg} (v : Nat) (h : lo.card.at 0 ≠ hi.card.at 0) :
    (d.setPair lo hi v).pair lo hi = v % 2 ^ 64 := by
  unfold Dev.setPair Dev.pair
  rw [Dev.reg_setReg_other _ _ _ _ _ _ h, Dev.reg_setReg_same, Dev.reg_setReg_same]
  omega

theorem Dev.pair_congr {d e : Dev} (h : e.regs = d.regs) (lo hi : Reg) (i : Nat) : e.pair lo hi i = d.pair lo hi i := by
  simp [Dev.pair, Dev.reg, h]

/-- FLT.AT takes its 48 bits at once (R12, R13). -/
theorem Dev.rwWrite_fltAt {d : Dev} (h : JournalRoom d 2) {r : Reg} (he : r = .fltAtHi) (sel v : Nat) :
    (d.rwWrite .host r.card 0 r.card.addr sel v).2.pair .fltAtLo .fltAtHi % 2 ^ 48 = v % 2 ^ 48 ∧
      (d.rwWrite .host r.card 0 r.card.addr sel v).2.staged = d.staged ∧ (d.rwWrite .host r.card 0 r.card.addr sel v).2.stk = d.stk := by
  subst he
  have himm : Reg.fltAtHi.card.imm ≠ 0 := by decide +kernel
  have hreg : Reg.fltAtHi.card.reg = .fltAtHi := by decide +kernel
  have hmask : Reg.fltAtHi.card.writable = 2 ^ 48 - 1 := by decide +kernel
  have hne : Reg.fltAtLo.card.at 0 ≠ Reg.fltAtHi.card.at 0 := by decide +kernel
  have heq : (d.rwWrite .host Reg.fltAtHi.card 0 Reg.fltAtHi.card.addr sel v).2 =
      if d.pair .fltAtLo .fltAtHi % 2 ^ 48 = v % 2 ^ 48 then d
      else (d.setPair .fltAtLo .fltAtHi (v % 2 ^ 48)).journalChange .host Reg.fltAtHi.card Reg.fltAtHi.card.addr (d.pair .fltAtLo .fltAtHi)
        ((d.setPair .fltAtLo .fltAtHi (v % 2 ^ 48)).pair .fltAtLo .fltAtHi) := by
    rw [Dev.rwWrite, if_pos himm, Dev.change_of_room (JournalRoom.mono h (by decide)), hmask, Nat.and_two_pow_sub_one_eq_mod,
      Nat.and_two_pow_sub_one_eq_mod, hreg]
    rfl
  rw [heq]
  split
  · next hv => exact ⟨hv, rfl, rfl⟩
  · obtain ⟨hr, hs, hk⟩ := Dev.journalChange_keeps (d := d.setPair .fltAtLo .fltAtHi (v % 2 ^ 48)) h .host Reg.fltAtHi.card
      Reg.fltAtHi.card.addr (d.pair .fltAtLo .fltAtHi) ((d.setPair .fltAtLo .fltAtHi (v % 2 ^ 48)).pair .fltAtLo .fltAtHi)
    refine ⟨?_, hs, hk⟩
    rw [Dev.pair_congr hr, Dev.pair_setPair d _ hne]
    omega

/-- The other three quantities take both words at the tick. -/
theorem Dev.rwWrite_pair_staged {d : Dev} (h : JournalRoom d 0) {p : Reg × Reg} (hp : p ∈ pairRegs) (hne : p.2 ≠ .fltAtHi) (sel v : Nat) :
    (d.rwWrite .host p.2.card 0 p.2.card.addr sel v).2 = { d with staged := d.staged ++
      [({ src := .host, addr := p.2.card.addr, value := v, sel := sel, pos := d.arrived } : StagedWrite)] } := by
  rw [Dev.rwWrite, if_neg (by simp [(pairRegs_staged p hp hne).1]), Dev.stage_of_room h]

/-- Settles O6: the low word's read leaves the high word in the latch, and the low word's write waits under its own address until the high
word's write takes it. -/
theorem sixtyFourBitQuantities : Obligations.SixtyFourBitQuantities := by
  refine ⟨fun a s c h i j ha hl hh => ?_, fun p al ah lo hi s hp hal hah hroom => ?_⟩
  · refine ⟨{ s with dev := { s.dev with
      latched := tput s.dev.latched (a.toNat + 4) (s.view h.reg j), out := .value (s.view c.reg i) :: s.dev.out } },
      ?_, rfl, ?_, sameBytes_of_stk s rfl, rfl⟩
    · rw [exec_lowWordRead, State.busRead_low s _ ha hl hh]
      rfl
    · obtain ⟨hc, hi, hat⟩ := regAt_eq_some ha
      have hn := isLow_next c hc hl i hi
      rw [hat, hh] at hn
      exact State.busRead_latched _ _ hh (by simpa using hn) (tget_tput_same _ _ _)
  · let t : State := { s with dev := { s.dev with lowWords := tput s.dev.lowWords p.1.card.addr lo.toNat } }
    have hlow : (s.busWrite .host al.toNat lo.toNat).2 = t := by
      rw [hal, State.busWrite_lowWord s hp lo.toNat, Nat.mod_eq_of_lt lo.isLt]
    have hhigh := State.busWrite_highWord t hp hi.toNat (tget_tput_same _ _ _)
    let d : Dev := { t.dev with lowWords := tdel t.dev.lowWords p.1.card.addr }
    refine ⟨t, _, by rw [exec_registerWrite, hlow], by rw [exec_highWordWrite, hah, hhigh], rfl, fun he => ?_, fun hne => ?_, ?_⟩
    · have hmask : p.2.card.rw = 2 ^ 16 - 1 := by rw [he]; decide +kernel
      obtain ⟨hv, hs, -⟩ := Dev.rwWrite_fltAt (d := d) hroom he (t.dev.selected p.2) (lo.toNat + 2 ^ 32 * (hi.toNat &&& p.2.card.rw))
      refine ⟨hv.trans ?_, hs⟩
      rw [hmask, Nat.and_two_pow_sub_one_eq_mod]
      have := lo.isLt
      omega
    · have hmask : hi.toNat &&& p.2.card.rw = hi.toNat := by
        rw [(pairRegs_staged p hp hne).2, Nat.and_two_pow_sub_one_eq_mod, Nat.mod_eq_of_lt hi.isLt]
      have hst := Dev.rwWrite_pair_staged (d := d) (JournalRoom.mono hroom (by decide)) hp hne (t.dev.selected p.2)
        (lo.toNat + 2 ^ 32 * hi.toNat)
      rw [hmask, hah]
      exact ⟨(congrArg Dev.regs hst).trans rfl, (congrArg Dev.hst hst).trans rfl, (congrArg Dev.sec hst).trans rfl, congrArg Dev.staged hst⟩
    · refine sameBytes_of_stk s ?_
      by_cases he : p.2 = .fltAtHi
      · exact (Dev.rwWrite_fltAt (d := d) hroom he _ _).2.2
      · exact (congrArg Dev.stk (Dev.rwWrite_pair_staged (d := d) (JournalRoom.mono hroom (by decide)) hp he _ _)).trans rfl

/-! ### The quantity of a register that keeps its value in the register file -/

/-- Registers whose quantity stands elsewhere than in the register file, or whose write does more than set it. -/
def Reg.keptElsewhere (r : Reg) : Bool :=
  [Reg.hstRingCfg, .hstCmdHi, .hstCompHi, .secJrnAckHi, .fltAtHi, .prtWeight, .obsCntCtl, .obsTrcStatus, .lnkDomainLo, .lnkDomainHi].contains r

theorem Dev.quantity_reg (d : Dev) {r : Reg} (h : r.keptElsewhere = false) (i sel : Nat) : d.quantity r i sel = d.reg r i := by
  unfold Dev.quantity
  split
  case h_9 => rfl
  all_goals exact absurd h (by decide)

theorem Dev.setQuantity_reg (d : Dev) {r : Reg} (h : r.keptElsewhere = false) (i sel v : Nat) :
    d.setQuantity r i sel v = d.setReg r v i := by
  unfold Dev.setQuantity
  split
  case h_9 => rfl
  all_goals exact absurd h (by decide)

theorem immediate_kept : ∀ c ∈ regTable, c.imm ≠ 0 → c.w1c = 0 → c.reg.isHighRw = false → c.reg.keptElsewhere = false ∧ c.rw ≠ 0 := by
  decide +kernel

theorem clearing_kept : ∀ c ∈ regTable, c.w1c ≠ 0 →
    c.reg.keptElsewhere = false ∨ c.reg = .obsTrcStatus ∧ c.w1c = 2 ^ 11 ∧ c.count = 1 := by
  decide +kernel

/-! ### OBS.TRC_STATUS -/

theorem Dev.setReg_traceAlloc (d : Dev) (v : Nat) : (d.setReg .obsTrcStatus v).traceAlloc = d.traceAlloc := by
  unfold Dev.traceAlloc Dev.regFld
  rw [Dev.reg_setReg_other _ _ _ _ _ _ (by decide +kernel)]
  rfl

theorem Dev.setReg_traceFlush_obs (d : Dev) (v : Nat) : (d.setReg .obsTrcStatus v).traceFlush.obs = d.traceFlush.obs := by
  have hp : (d.setReg .obsTrcStatus v).tracePolicyNow = d.tracePolicyNow := by
    unfold Dev.tracePolicyNow
    rw [Dev.setReg_traceAlloc]
    rfl
  unfold Dev.traceFlush
  rw [hp, Dev.reg_setReg_other _ _ _ _ _ _ (by decide +kernel)]
  rfl

/-- What OBS.TRC_STATUS shows beside its sticky bit 11, given the register's own word. -/
def Dev.trcRest (d : Dev) (w : Nat) : Nat :=
  2 ^ 10 * b2n (d.traceAlloc.isNone && (decide (d.modeTrc = 3) || w.testBit 10)) + 2 ^ 9 * b2n d.traceFlush.obs.wrapped +
    2 ^ 4 * d.traceFlush.obs.state.val + d.modeTrc

theorem b2n_le (b : Bool) : b2n b ≤ 1 := by cases b <;> decide

theorem Dev.trcRest_lt (d : Dev) (w : Nat) : d.trcRest w < 2 ^ 11 := by
  have h1 := b2n_le (d.traceAlloc.isNone && (decide (d.modeTrc = 3) || w.testBit 10))
  have h2 := b2n_le d.traceFlush.obs.wrapped
  have h3 : d.traceFlush.obs.state.val ≤ 6 := by cases d.traceFlush.obs.state <;> decide
  have h4 : d.modeTrc < 2 ^ 2 := Nat.mod_lt _ (by decide)
  unfold Dev.trcRest
  omega

theorem Dev.viewTrc_eq (d : Dev) : d.viewTrc =
    2 ^ 12 * min traceSlots d.traceFlush.obs.buffer.length + 2 ^ 11 * d.regFld .obsTrcStatus 11 1 + d.trcRest (d.reg .obsTrcStatus) := by
  unfold Dev.viewTrc Dev.trcRest
  dsimp only
  omega

theorem Dev.viewTrc_lt (d : Dev) : d.viewTrc < 2 ^ 32 := by
  have h1 : min traceSlots d.traceFlush.obs.buffer.length ≤ 524288 := Nat.min_le_left _ _
  have h2 : d.regFld .obsTrcStatus 11 1 < 2 ^ 1 := Nat.mod_lt _ (by decide)
  have h3 := d.trcRest_lt (d.reg .obsTrcStatus)
  rw [Dev.viewTrc_eq]
  omega

theorem and_two_pow_of_testBit {x n : Nat} (h : x.testBit n = true) : x &&& 2 ^ n = 2 ^ n := by
  refine Nat.eq_of_testBit_eq fun j => ?_
  rw [Nat.testBit_and, Nat.testBit_two_pow]
  by_cases hj : n = j
  · subst hj
    rw [h, Bool.true_and]
  · rw [decide_eq_false hj, Bool.and_false]

theorem testBit_of_and_two_pow {x n : Nat} (h : x &&& 2 ^ n ≠ 0) : x.testBit n = true := by
  obtain ⟨j, hj⟩ := Nat.exists_testBit_of_ne_zero h
  rw [Nat.testBit_and, Nat.testBit_two_pow, Bool.and_eq_true, decide_eq_true_eq] at hj
  rw [hj.2]
  exact hj.1

/-- Taking the sticky bit off the register takes it off what the register shows. -/
theorem Dev.viewTrc_clear (d : Dev) (hr : d.reg .obsTrcStatus < 2 ^ 32) (hb : d.viewTrc.testBit 11 = true) :
    (d.setReg .obsTrcStatus (d.reg .obsTrcStatus - 2 ^ 11)).viewTrc = d.viewTrc - 2 ^ 11 := by
  have hrest := d.trcRest_lt (d.reg .obsTrcStatus)
  have hfld : d.regFld .obsTrcStatus 11 1 = d.reg .obsTrcStatus / 2 ^ 11 % 2 := by simp [Dev.regFld, nfld, Nat.shiftRight_eq_div_pow]
  have hone : d.reg .obsTrcStatus / 2 ^ 11 % 2 = 1 := by
    rw [Nat.testBit_eq_decide_div_mod_eq, decide_eq_true_eq, Dev.viewTrc_eq, hfld] at hb
    omega
  have hword : (d.setReg .obsTrcStatus (d.reg .obsTrcStatus - 2 ^ 11)).reg .obsTrcStatus = d.reg .obsTrcStatus - 2 ^ 11 := by
    rw [Dev.reg_setReg_same]
    omega
  have hnew : (d.setReg .obsTrcStatus (d.reg .obsTrcStatus - 2 ^ 11)).regFld .obsTrcStatus 11 1 = 0 := by
    unfold Dev.regFld
    rw [hword]
    simp only [nfld, Nat.shiftRight_eq_div_pow]
    omega
  have hsame : (d.setReg .obsTrcStatus (d.reg .obsTrcStatus - 2 ^ 11)).trcRest (d.reg .obsTrcStatus - 2 ^ 11) =
      d.trcRest (d.reg .obsTrcStatus) := by
    have hbit : (d.reg .obsTrcStatus - 2 ^ 11).testBit 10 = (d.reg .obsTrcStatus).testBit 10 := by
      simp only [Nat.testBit_eq_decide_div_mod_eq, decide_eq_decide]
      omega
    unfold Dev.trcRest
    rw [Dev.setReg_traceAlloc, Dev.setReg_traceFlush_obs, hbit]
    rfl
  rw [Dev.viewTrc_eq, hword, hnew, hsame, Dev.setReg_traceFlush_obs, Dev.viewTrc_eq d, hfld, hone]
  omega

/-! ### Immediate and clearing writes -/

theorem Dev.TookEntry.journalled {d e : Dev} {kind object old new : Nat} (t : d.TookEntry e 1 kind object old new)
    (ho : object < 2 ^ 64) (hold : old < 2 ^ 256) (hnew : new < 2 ^ 256) :
    ∃ x, e.sec.journal = (x :: d.sec.journal).take 65536 ∧ x.kind = kind ∧ x.source = 1 ∧ x.object = object ∧ x.old = old ∧
      x.new = new := by
  obtain ⟨x, seals, free, rfl, hs, hk, hob, ho', hn'⟩ := t
  exact ⟨x, rfl, hk, hs, hob.trans (Nat.mod_eq_of_lt ho), ho'.trans (Nat.mod_eq_of_lt hold), hn'.trans (Nat.mod_eq_of_lt hnew)⟩

theorem Dev.journalChange_word {d : Dev} (h : JournalRoom d 1) {c : RegDef} (hh : c.reg.isHighRw = false) {a old new : Nat} (hne : old ≠ new) :
    d.TookEntry (d.journalChange .host c a old new) 1 1 a old new := by
  have he : d.journalChange .host c a old new = d.journalReg .host a old new := by simp [Dev.journalChange, hh, hne]
  rw [he]
  exact Dev.journal_of_room h 1 1 false a 0 old new

theorem Dev.reg_congr {d e : Dev} (h : e.regs = d.regs) (r : Reg) (i : Nat) : e.reg r i = d.reg r i := by simp [Dev.reg, h]

/-- A change of an immediate field of a register in the register file. -/
theorem Dev.change_reg {d : Dev} (h : JournalRoom d 1) {c : RegDef} (hk : c.reg.keptElsewhere = false) (hh : c.reg.isHighRw = false)
    {i a sel v : Nat} (hv : v < 2 ^ 32) (hne : d.reg c.reg i &&& c.rw ≠ v &&& c.rw)
    (hm : d.reg c.reg i &&& c.rw = d.reg c.reg i) :
    (d.setReg c.reg (v &&& c.rw) i).TookEntry (d.change .host c i a sel v).2 1 1 a (d.reg c.reg i) (v &&& c.rw) := by
  have hw : c.writable = c.rw := by simp [RegDef.writable, hh]
  have hv' : (v &&& c.rw) % 2 ^ 32 = v &&& c.rw := Nat.mod_eq_of_lt (Nat.lt_of_le_of_lt Nat.and_le_left hv)
  rw [Dev.change_of_room (JournalRoom.mono h (by decide)), hw, Dev.quantity_reg d hk, if_neg hne, Dev.setQuantity_reg d hk,
    Dev.quantity_reg _ hk, Dev.reg_setReg_same, hv']
  exact Dev.journalChange_word (d := d.setReg c.reg (v &&& c.rw) i) h hh (by rwa [hm] at hne)

/-- Clearing bits of a write-1-clear register takes the same bits off its quantity, which fits the journal. -/
theorem Dev.quantity_clear {d : Dev} {c : RegDef} (hc : c ∈ regTable) (hw1c : c.w1c ≠ 0) {i : Nat} (hi : i < c.count)
    (hr : d.reg c.reg i < 2 ^ 32) (v : Nat) (hgone : d.quantity c.reg i 0 &&& v &&& c.w1c ≠ 0) :
    (d.setReg c.reg (d.reg c.reg i - (d.quantity c.reg i 0 &&& v &&& c.w1c)) i).quantity c.reg i 0 =
      d.quantity c.reg i 0 - (d.quantity c.reg i 0 &&& v &&& c.w1c) ∧ d.quantity c.reg i 0 < 2 ^ 32 := by
  rcases clearing_kept c hc hw1c with hk | ⟨he, hmask, hcount⟩
  · rw [Dev.quantity_reg d hk, Dev.quantity_reg _ hk, Dev.reg_setReg_same]
    exact ⟨Nat.mod_eq_of_lt (by omega), hr⟩
  · have hi0 : i = 0 := by omega
    subst hi0
    rw [he, hmask] at *
    change d.viewTrc &&& v &&& 2 ^ 11 ≠ 0 at hgone
    change (d.setReg _ (_ - (d.viewTrc &&& v &&& 2 ^ 11)) _).viewTrc = d.viewTrc - (d.viewTrc &&& v &&& 2 ^ 11) ∧ d.viewTrc < _
    have hb := testBit_of_and_two_pow hgone
    rw [and_two_pow_of_testBit hb]
    rw [Nat.testBit_and, Bool.and_eq_true] at hb
    exact ⟨d.viewTrc_clear hr hb.1, d.viewTrc_lt⟩

/-- The journal's block keeps no register's quantity but that of SEC.JRN_ACK. -/
theorem Dev.TookEntry.quantity {d e : Dev} {source kind object old new : Nat} (t : d.TookEntry e source kind object old new) {r : Reg}
    (h : r ≠ .secJrnAckHi) (i sel : Nat) : e.quantity r i sel = d.quantity r i sel := by
  obtain ⟨x, seals, free, rfl, -⟩ := t
  unfold Dev.quantity
  split
  case h_4 => exact absurd rfl h
  all_goals rfl

theorem Dev.applyStaged_clear (d : Dev) {a i v n : Nat} {c : RegDef} (ha : regAt a = some (c, i)) (hw1c : c.w1c ≠ 0)
    (hh : c.reg.isHighRw = false) :
    d.applyStaged { src := .host, addr := a, value := v, pos := n } = d.clearBits .host c i a v := by
  have hne : c.reg ≠ .secJrnAckHi := fun e => by rw [e] at hh; exact absurd hh (by decide)
  unfold Dev.applyStaged
  dsimp only
  rw [ha]
  simp [hne, hw1c]

theorem Dev.clearBits_of_room {d : Dev} (h : JournalRoom d 1) {c : RegDef} (hc : c ∈ regTable) (hw1c : c.w1c ≠ 0)
    (hh : c.reg.isHighRw = false) {i : Nat} (hi : i < c.count) (hr : d.reg c.reg i < 2 ^ 32) (a v : Nat)
    (hgone : d.quantity c.reg i 0 &&& v &&& c.w1c ≠ 0) :
    (d.setReg c.reg (d.reg c.reg i - (d.quantity c.reg i 0 &&& v &&& c.w1c)) i).TookEntry (d.clearBits .host c i a v) 1 1 a
      (d.quantity c.reg i 0) (d.quantity c.reg i 0 - (d.quantity c.reg i 0 &&& v &&& c.w1c)) := by
  have hle : d.quantity c.reg i 0 &&& v &&& c.w1c ≤ d.quantity c.reg i 0 := Nat.le_trans Nat.and_le_left Nat.and_le_left
  unfold Dev.clearBits
  dsimp only
  rw [if_neg hgone, Dev.refuseChange_of_room (JournalRoom.mono h (by decide)), if_neg Bool.false_ne_true,
    (Dev.quantity_clear hc hw1c hi hr v hgone).1]
  exact Dev.journalChange_word (d := d.setReg _ _ _) h hh (by omega)

/-- Settles O9: the change of an immediate field and the clearing of bits each set one register and enter the journal once. -/
theorem immediateAndClearingWrites : Obligations.ImmediateAndClearingWrites := by
  intro a v s c i ha hi hwo hl hh hroom hr gone w
  obtain ⟨hc, hic, -⟩ := regAt_eq_some ha
  have hat : c.reg.card.at i ∈ [a.toNat] := by rw [card_at_of_regAt ha]; exact List.mem_singleton.mpr rfl
  have haddr : a.toNat < 2 ^ 64 := Nat.lt_trans a.isLt (by decide)
  refine ⟨fun hw1c himm hm => ?_, fun hw1c => ⟨fun hv => ?_, fun hv => ?_, fun hg => ?_, fun hg => ?_⟩⟩
  · obtain ⟨hk, hrw⟩ := immediate_kept c hc himm hw1c hh
    refine ⟨_, by
      rw [exec_registerWrite, State.busWrite_at s (.inl rfl) _ ha, State.regWrite_rw s _ _ _ _ hi hwo hl hh hw1c hrw, Dev.rwWrite, if_pos himm], ?_⟩
    dsimp only
    by_cases hne : s.dev.reg c.reg i &&& c.rw = v.toNat &&& c.rw
    · have he : (s.dev.change .host c i a.toNat (s.dev.selected c.reg) v.toNat).2 = s.dev := by
        rw [Dev.change_of_room (JournalRoom.mono hroom (by decide)), show c.writable = c.rw by simp [RegDef.writable, hh],
          Dev.quantity_reg s.dev hk, if_pos hne]
      rw [he]
      exact ⟨hm.symm.trans hne, fun _ => rfl, fun h => absurd rfl h, rfl, sameRegs_refl _ _, sameBytes_of_stk s rfl⟩
    · have t := Dev.change_reg (a := a.toNat) (sel := s.dev.selected c.reg) hroom hk hh v.isLt hne hm
      have hv : v.toNat &&& c.rw < 2 ^ 32 := Nat.lt_of_le_of_lt Nat.and_le_left v.isLt
      have hnew : (s.dev.change .host c i a.toNat (s.dev.selected c.reg) v.toNat).2.reg c.reg i = v.toNat &&& c.rw := by
        rw [Dev.reg_congr t.regs, Dev.reg_setReg_same, Nat.mod_eq_of_lt hv]
      refine ⟨hnew, fun h => ?_, fun _ => ?_, t.staged, sameRegs_trans (Dev.setReg_sameRegs _ _ _ _ hat) (sameRegs_of_regs_eq _ t.regs),
        sameBytes_of_stk s t.stk⟩
      · rw [hm, ← hnew] at hne
        exact absurd h.symm hne
      · rw [hnew]
        exact t.journalled haddr (Nat.lt_trans hr (by decide)) (Nat.lt_trans hv (by decide))
  · rw [exec_registerWrite, State.busWrite_at s (.inl rfl) _ ha, State.regWrite_w1c s _ _ _ _ hi hwo hl hh hw1c, Dev.clearWrite, if_pos hv]
  · rw [exec_registerWrite, State.busWrite_at s (.inl rfl) _ ha, State.regWrite_w1c s _ _ _ _ hi hwo hl hh hw1c, Dev.clearWrite, if_neg hv,
      Dev.refuseChange_of_room (JournalRoom.mono hroom (by decide)), ite_self]
    rfl
  · rw [Dev.applyStaged_clear s.dev ha hw1c hh, Dev.clearBits]
    exact if_pos hg
  · rw [Dev.applyStaged_clear s.dev ha hw1c hh]
    have t := Dev.clearBits_of_room hroom hc hw1c hh hic hr a.toNat v.toNat hg
    obtain ⟨hq, hlt⟩ := Dev.quantity_clear hc hw1c hic hr v.toNat hg
    have hne : c.reg ≠ .secJrnAckHi := fun e => by rw [e] at hh; exact absurd hh (by decide)
    exact ⟨(t.quantity hne i 0).trans hq, t.journalled haddr (Nat.lt_trans hlt (by decide))
        (Nat.lt_of_le_of_lt (Nat.sub_le _ _) (Nat.lt_trans hlt (by decide))),
      t.staged, sameRegs_trans (Dev.setReg_sameRegs _ _ _ _ hat) (sameRegs_of_regs_eq _ t.regs)⟩

end Sys2Proof.Machine
end

section
/-! The tick of a quiet chip. Nothing runs and nothing waits, so each stage of the tick leaves the chip as it is, but for the frame counter and
what the tick latches. -/

namespace Sys2Proof.Machine

open Sys2Proof.Safety

/-- A chip that follows itself and has no upstream stays as it is when it follows itself again. -/
theorem Dev.follow_itself {d : Dev} (href : d.lnk.ref = Config.fingerprint.toNat) (hup : d.lnk.upstream = none) (hhops : d.lnk.hops = 0)
    (os : List Offer) : d.follow d.lnk.ref os false = d := by
  unfold Dev.follow
  rw [← href]
  extract_lets self up upKey changed
  have hu : up = none := if_pos rfl
  have hk : upKey = none := by simp only [upKey, hu, Option.map_none]
  have hc : changed = false := by simp [changed, hk]
  rw [hc, hu, hk, Bool.false_and, Bool.false_and, Bool.or_false]
  dsimp only
  rw [← hup, ← hhops]

theorem State.freeBays_nil (s : State) : s.freeBays [] = s := by
  unfold State.freeBays
  split <;> rfl

section Quiet

variable {d : Dev} (h : Quiet d)
include h

/-! ### What a quiet chip holds -/

theorem quiet_seq : d.seq = {} := congrArg Dev.seq h.1
theorem quiet_cht : d.cht = {} := congrArg Dev.cht h.1
theorem quiet_obs : d.obs = {} := congrArg Dev.obs h.1
theorem quiet_prt : d.prt = {} := congrArg Dev.prt h.1
theorem quiet_bwd : d.bwd = {} := congrArg Dev.bwd h.1
theorem quiet_row : d.row = {} := congrArg Dev.row h.1
theorem quiet_ldg : d.ldg = {} := congrArg Dev.ldg h.1
theorem quiet_lnk : d.lnk = {} := congrArg Dev.lnk h.1
theorem quiet_engines : d.engines = [] := congrArg Dev.engines h.1

theorem quiet_flt : d.flt = { ({} : Flt) with
    log := d.flt.log, nextSeq := d.flt.nextSeq, overflow := d.flt.overflow, haltRecord := d.flt.haltRecord } := h.2.1

theorem quiet_ring (i : Nat) : (d.ring i).live = false := by
  unfold Dev.ring
  rw [List.getD_eq_getElem?_getD]
  cases hr : d.hst.rings[i]? with
  | none => rfl
  | some r => exact h.2.2.1 r (List.mem_of_getElem? hr)

/-- A quiet chip stays quiet whatever its registers, its frame unit, its power monitor, its staged writes and the microswitches show. -/
theorem quiet_latched (regs : List (Nat × Nat)) (frm : Frm) (pwr : Pwr) (staged : List StagedWrite) (seated : Nat) :
    Quiet { d with regs := regs, frm := frm, pwr := pwr, staged := staged, hst := { d.hst with seated := seated } } :=
  ⟨congrArg (fun x : Dev => { x with regs := regs, frm := frm, pwr := pwr, staged := staged, hst := { d.hst with seated := seated } }) h.1, h.2⟩

theorem quiet_frm (frm : Frm) : Quiet { d with frm := frm } := quiet_latched h d.regs frm d.pwr d.staged d.hst.seated

/-! ### The end of the frame -/

theorem Dev.frameEnds_quiet (o : TickObs) :
    d.frameEnds o = { d with frm := { d.frm with debt := d.frm.debt + (if d.pwr.droop then o.stretched else 0) } } := by
  unfold Dev.frameEnds Dev.overrunCheck Dev.streamLate Dev.cntAdvance
  simp [quiet_seq h, quiet_obs h, quiet_engines h]

theorem State.drainFaults_quiet (s : State) (hs : s.dev = d) (n : Nat) : s.drainFaults n = s := by
  cases n with
  | zero => rfl
  | succ n =>
    unfold State.drainFaults
    rw [hs, quiet_flt h]
    rfl

theorem State.dueRecords_quiet (s : State) (hs : s.dev = d) : s.dueRecords = s := by
  have hd : s.dev.hst.done = [] := by rw [hs]; exact h.2.2.2.2.1
  unfold State.dueRecords
  simp only [hd, List.filter_nil, List.foldl_nil]
  rw [← hd]

theorem State.tickFaults_quiet {s : State} (hs : s.dev = d) {o : TickObs} (hq : o.queueCheckFails = false) :
    s.tickFaults o = { s with dev := { d with frm := { d.frm with debt := d.frm.debt + (if d.pwr.droop then o.stretched else 0) } } } := by
  have hf : Quiet (d.frameEnds o) := by
    rw [Dev.frameEnds_quiet h]
    exact quiet_latched h _ _ _ _ _
  unfold State.tickFaults
  rw [hs, State.drainFaults_quiet hf _ rfl, State.dueRecords_quiet hf _ rfl, Dev.frameEnds_quiet h]
  simp [hq]

/-! ### The tick begins -/

theorem Dev.traceFlush_quiet : d.traceFlush = d := by
  have ho : d.obs.flush d.tracePolicyNow (tracePre (d.reg .obsTrcCfg)) = d.obs := by
    rw [quiet_obs h]
    rfl
  unfold Dev.traceFlush
  rw [ho]

theorem Dev.trace_quiet (kind unit wher data : Nat) : d.trace kind unit wher data = d := by
  simp [Dev.trace, quiet_obs h]

theorem Dev.frameBegins_quiet : d.frameBegins = { d with frm := { d.frm with
    frame := if d.frm.started then (d.frm.frame + 1) % 2 ^ 48 else 0, started := true, debt := 0, cycle := 0 } } := by
  unfold Dev.frameBegins
  rw [Dev.traceFlush_quiet h]

theorem Dev.latchStretch_quiet (debt : Nat) : Quiet (d.latchStretch debt) := quiet_latched h _ _ _ _ _

theorem Dev.latchPower_quiet (o : TickObs) (planned : Nat) (ended : Bool) : Quiet (d.latchPower o planned ended) := by
  cases ended <;> exact quiet_latched h _ _ _ _ _

/-- What a quiet chip is after the counter has advanced and the tick has latched its readings. -/
theorem Dev.tickBegins_quiet {o : TickObs} (he : 8 * o.energy ≤ 9 * d.plannedEnergy) :
    d.tickBegins o = (d.frameBegins.latchStretch d.frm.debt).latchPower o d.plannedEnergy d.frm.started ∧ Quiet (d.tickBegins o) := by
  have hb : Quiet d.frameBegins := by
    rw [Dev.frameBegins_quiet h]
    exact quiet_latched h _ _ _ _ _
  have hrow : ({ d.frameBegins with row := { d.row with spans := [] } } : Dev) = d.frameBegins := by
    rw [Dev.frameBegins_quiet h, quiet_row h, ← quiet_row h]
  have hl := Dev.latchPower_quiet (Dev.latchStretch_quiet hb d.frm.debt) o d.plannedEnergy d.frm.started
  have heq : d.tickBegins o = (d.frameBegins.latchStretch d.frm.debt).latchPower o d.plannedEnergy d.frm.started := by
    unfold Dev.tickBegins
    dsimp only
    rw [hrow]
    have hc : ∀ x : Dev, x.energyCheck o.energy d.plannedEnergy d.pwr.plan.isSome = x := fun x => if_pos (.inl he)
    rw [hc, ite_self, Dev.trace_quiet hl]
  exact ⟨heq, heq ▸ hl⟩

theorem Dev.charterTick_quiet : d.charterTick = d := by
  unfold Dev.charterTick
  rw [quiet_cht h]

theorem Dev.stageOn_quiet : d.stageOn = d := by
  unfold Dev.stageOn
  simp [quiet_cht h]

/-! ### Orders and links -/

theorem quiet_notDue (i : Nat) : (d.ring i).due = false := by simp [Ring.due, quiet_ring h i]

theorem State.stopEntries_quiet {s : State} (hs : s.dev = d) (bad : List Nat) : s.stopEntries bad = ([], s) := by
  unfold State.stopEntries
  refine List.foldlRecOn (motive := fun a => a = ([], s)) _ _ rfl fun a ha i _ => ?_
  subst ha hs
  simp [quiet_notDue h]

/-- A link block written back as it stands. -/
theorem Dev.withLnk_quiet {l : Lnk} (hl : l = {}) : ({ d with lnk := l } : Dev) = d := by
  rw [hl, ← quiet_lnk h]

/-- It is its own reference, without an upstream. -/
theorem quiet_reference : d.lnk.ref = Config.fingerprint.toNat ∧ d.lnk.upstream = none ∧ d.lnk.hops = 0 ∧ d.lnk.solitary = true := by
  rw [quiet_lnk h]
  exact ⟨rfl, rfl, rfl, rfl⟩

theorem Dev.linkFrame_quiet : d.linkFrame = d := by
  unfold Dev.linkFrame
  exact Dev.withLnk_quiet h (by rw [quiet_lnk h]; rfl)

theorem Dev.partnerChanges_quiet : d.partnerChanges = d := by
  unfold Dev.partnerChanges
  simp only [quiet_lnk h, List.foldl_nil]
  exact Dev.withLnk_quiet h rfl

theorem Dev.yieldTick_quiet : d.yieldTick = d := by simp [Dev.yieldTick, quiet_lnk h]

theorem Dev.dropLanes_quiet : d.dropLanes = d := by simp [Dev.dropLanes, quiet_lnk h]

theorem Dev.joinLanes_quiet : d.joinLanes = d := by simp [Dev.joinLanes, quiet_lnk h]

theorem Dev.classifyLinks_quiet : d.classifyLinks = d := by simp [Dev.classifyLinks, quiet_lnk h]

theorem Dev.raiseLinks_quiet : d.raiseLinks = d := by simp [Dev.raiseLinks, quiet_lnk h]

theorem Dev.partnersTick_quiet : d.partnersTick = d := by simp [Dev.partnersTick, quiet_lnk h]

/-- Without neighbours the chip goes on following itself. -/
theorem Dev.chooseRef_quiet : d.chooseRef = d := by
  have ho : d.offers = [] := by simp [Dev.offers, quiet_lnk h]
  have hr : d.seq.run.isSome = false := by rw [quiet_seq h]; rfl
  obtain ⟨href, hup, hhops, hsol⟩ := quiet_reference h
  unfold Dev.chooseRef
  rw [← href]
  extract_lets self os least
  have hos : os.map Offer.ref = [] := by simp only [os, ho, List.map_nil]
  have hl : least [] = d.lnk.ref := rfl
  have hn : os.find? (fun o => !o.solitary) = none := by simp only [os, ho, List.find?_nil]
  rw [if_pos hsol, hr, if_neg Bool.false_ne_true, hn, hos, hl]
  exact Dev.follow_itself href hup hhops os

/-- The links of a chip without lanes: it is its own reference, and aligned. -/
theorem Dev.alignTick_quiet :
    d.alignTick = { d with frm := { d.frm with aligned := true, joining := false, offset := 0 } } := by
  have hc : d.linksCarryLen = true := by simp [Dev.linksCarryLen, quiet_lnk h]
  unfold Dev.alignTick
  rw [quiet_lnk h]
  simp [hc]

theorem Dev.linkTick_quiet : d.linkTick = { d with frm := { d.frm with aligned := true, joining := false, offset := 0 } } := by
  unfold Dev.linkTick
  rw [Dev.linkFrame_quiet h, Dev.partnerChanges_quiet h, Dev.yieldTick_quiet h, Dev.dropLanes_quiet h, Dev.joinLanes_quiet h,
    Dev.classifyLinks_quiet h]
  dsimp only
  rw [Dev.raiseLinks_quiet h, Dev.partnersTick_quiet h, Dev.chooseRef_quiet h, Dev.alignTick_quiet h]
  simp [quiet_lnk h]

/-! ### The work of the tick -/

theorem State.stopComplete_quiet {s : State} (hs : s.dev = d) : s.stopComplete = s := by
  have hst : s.dev.flt.stop = .running := by rw [hs, quiet_flt h]
  unfold State.stopComplete
  exact if_neg (by simp [hst])

theorem State.resumeEffect_quiet {s : State} (hs : s.dev = d) : s.resumeEffect = s := by
  unfold State.resumeEffect
  rw [hs, quiet_flt h]

theorem State.stopEffects_quiet {s : State} (hs : s.dev = d) : s.stopEffects = s := by
  have hf : ({ d.flt with pending := none, boundary := none, fabric := none } : Flt) = d.flt := by rw [quiet_flt h]
  subst hs
  have hp : s.dev.flt.pending = none ∧ s.dev.flt.boundary = none ∧ s.dev.flt.fabric = none := by rw [quiet_flt h]; exact ⟨rfl, rfl, rfl⟩
  obtain ⟨hpend, hbound, hfab⟩ := hp
  unfold State.stopEffects
  simp only [hpend, hbound, hfab, Option.isSome_none, Bool.false_eq_true, if_false, hf, Option.bind_none,
    Option.toList_none, List.map_nil, Option.map_none, List.append_nil, List.isEmpty_nil, if_true, List.find?_nil]
  rw [State.stopComplete_quiet h rfl, State.resumeEffect_quiet h rfl]

theorem State.cancelDue_quiet {s : State} (hs : s.dev = d) : s.cancelDue = s := by
  unfold State.cancelDue
  rw [hs, quiet_flt h]

theorem State.secureTick_quiet {s : State} (hs : s.dev = d) : s.secureTick = s := by
  have hp : ({ d.prt with requests := [] } : Prt) = d.prt := by rw [quiet_prt h]
  have hr : d.prt.requests = [] := by rw [quiet_prt h]
  subst hs
  unfold State.secureTick
  rw [hr, hp]
  rfl

theorem State.escrowTick_quiet {s : State} (hs : s.dev = d) : s.escrowTick = s := by
  unfold State.escrowTick
  simp [hs, quiet_ldg h]

theorem State.runTick_quiet {s : State} (hs : s.dev = d) : s.runTick = s := by
  unfold State.runTick
  simp [hs, quiet_seq h]

theorem Dev.gateDies_quiet : d.gateDies = d := by
  have ht : d.bwd.tiles = [] := by rw [quiet_bwd h]
  have hb : ({ d.bwd with gated := true, waking := false, tiles := [] } : Bwd) = d.bwd := by rw [quiet_bwd h]
  unfold Dev.gateDies
  simp only [ht, List.any_nil, List.map_nil, hb]
  rfl

theorem Dev.bwdIdleTick_quiet : d.bwdIdleTick = d := by
  have hb : ({ d.bwd.frame with waking := false, lastGated := false } : Bwd) = d.bwd := by rw [quiet_bwd h]; rfl
  have hr : d.seq.run.isNone = true := by rw [quiet_seq h]; rfl
  unfold Dev.bwdIdleTick
  rw [hb]
  simp only [hr, if_true]
  exact Dev.gateDies_quiet h

theorem State.runSettles_quiet {s : State} (hs : s.dev = d) : s.runSettles = s := by
  subst hs
  unfold State.runSettles
  simp [quiet_seq h, Dev.bwdIdleTick_quiet h, State.drainFaults_quiet h s rfl]

theorem State.admitRings_quiet {s : State} (hs : s.dev = d) (o : TickObs) (taken : List Nat) : s.admitRings o taken = s := by
  unfold State.admitRings
  refine List.foldlRecOn (motive := fun u => u = s) _ _ rfl fun u hu i _ => ?_
  subst hu hs
  simp [State.admitRing, quiet_notDue h]

/-! ### Protection -/

theorem quiet_protGroups : d.protGroups = [] := by
  have hv : ∀ g, (d.protGroup g).valid = false := by
    intro g
    unfold Dev.protGroup
    rw [quiet_cht h]
    show (protEntry 0).valid = false
    decide +kernel
  unfold Dev.protGroups
  simp [hv]

/-- The score of a chip without a charter reaches no threshold: only the counts of the risk inputs move on. -/
theorem Dev.riskTick_quiet : ∃ inputs score, d.riskTick = { d with prt := { d.prt.shiftRisk with inputs := inputs, score := score } } := by
  have ht : ({ d with prt := d.prt.shiftRisk } : Dev).thresholds = none := by
    unfold Dev.thresholds
    rw [quiet_cht h]
    rfl
  have hp : ∀ inputs score, ({ d.prt.shiftRisk with
      inputs := inputs, score := score, t1 := false, t2 := false, t3 := false, every := false } : Prt) =
      { d.prt.shiftRisk with inputs := inputs, score := score } := by
    intro inputs score
    rw [quiet_prt h]
    rfl
  unfold Dev.riskTick
  extract_lets d1 xs terms score reach t1 t2 t3 prt2 d2 note
  have hr : ∀ f, reach f = false := by
    intro f
    simp only [reach]
    rw [show d1.thresholds = none from ht]
  have hn : ∀ x was code, note x false was code = x := fun _ _ _ => rfl
  rw [show t1 = false from hr _, show t2 = false from hr _, show t3 = false from hr _, hn, hn, hn]
  refine ⟨List.zip xs terms, score, ?_⟩
  simp only [d2]
  rw [show t1 = false from hr _, show t2 = false from hr _, show t3 = false from hr _, Bool.false_and, hp]

/-- What the protection block does after the score: it freezes, mirrors, claims and sends nothing. -/
theorem State.protectAfterScore_quiet {s : State} {p : Prt} (hs : s.dev = { d with prt := p }) (ht : p.t1 = false) (ha : p.armed = none)
    (hc : p.committed = false) (he : p.every = false) :
    s.snapDue = false ∧ s.dev.prt.committed = false ∧ s.dev.mirrorEvery = s.dev ∧ s.claimBays = s := by
  have hg : s.dev.protGroups = [] := by
    rw [hs]
    show d.protGroups = []
    exact quiet_protGroups h
  refine ⟨by simp [State.snapDue, hs, ht, ha], by rw [hs]; exact hc, by simp [Dev.mirrorEvery, hs, he], ?_⟩
  unfold State.claimBays
  simp only [hg, List.foldl_nil]

theorem State.protectTick_quiet {s : State} (hs : s.dev = d) : ∃ p : Prt, s.protectTick [] = { s with dev := { d with prt := p } } := by
  subst hs
  have hgone : s.dev.lostPartners = [] := by simp [Dev.lostPartners, quiet_lnk h]
  have hp : ∀ p : Prt, p = {} → ({ s.dev with prt := p } : Dev) = s.dev := fun p e => by rw [e, ← quiet_prt h]
  have hroll : s.dev.prt.rollDue = false := by rw [quiet_prt h]
  have hout : s.dev.ldg.outOfDate = false := by rw [quiet_ldg h]
  have hleave : s.dev.leaveRollback = s.dev := by simp [Dev.leaveRollback, quiet_prt h]
  have hfollow : s.dev.protFollow = s.dev := by simp [Dev.protFollow, quiet_protGroups h]
  obtain ⟨inputs, score, hrisk⟩ := Dev.riskTick_quiet h
  unfold State.protectTick
  rw [State.freeBays_nil]
  extract_lets s1 d now d1 p1 d2 d3 d4 d5 p5 fetch s2 s3 s4 s5
  have e1 : d1 = s.dev := by simp only [d1, now, d, s1, hgone, List.filter_nil, List.foldl_nil]
  have e2 : d2 = s.dev := by
    simp only [d2, p1, e1, now, d, s1, hgone]
    exact hp _ (by rw [quiet_prt h])
  have e3 : d3 = s.dev := by simp only [d3, e2, quiet_protGroups h, List.foldl_nil]
  have e5 : d5 = s.dev := by simp only [d5, d4, e3, hroll, hout, hleave, hfollow, Bool.false_and, Bool.or_false, Bool.false_eq_true, if_false]
  have ef : fetch = s := by
    simp only [fetch, p5, e5, now, d, s1, hgone, List.filter_nil, List.foldl_nil]
    rw [hp _ (by rw [quiet_prt h])]
  have es2 : s2 = { s with dev := s.dev.riskTick } := by
    show ({ fetch with dev := fetch.dev.riskTick } : State) = _
    rw [ef]
  obtain ⟨hsnap, hcom, hmir, hclaim⟩ := State.protectAfterScore_quiet h (s := s2) (by rw [es2]; exact hrisk) (by rw [quiet_prt h]; rfl)
    (by rw [quiet_prt h]; rfl) (by rw [quiet_prt h]; rfl) (by rw [quiet_prt h]; rfl)
  have es3 : s3 = s2 := by simp only [s3, hsnap, Bool.false_eq_true, if_false]
  have es4 : s4 = s2 := by
    show (if s3.dev.prt.committed = true then s3.mirrorCommit else { s3 with dev := s3.dev.mirrorEvery } : State) = _
    rw [es3, hcom, hmir]
    rfl
  have es5 : s5 = { s with dev := s.dev.riskTick } := by
    show s4.claimBays = _
    rw [es4, hclaim, es2]
  have hbox : s.dev.riskTick.prt.outbox = [] := by
    rw [hrisk, quiet_prt h]
    rfl
  refine ⟨{ s.dev.riskTick.prt with outbox := [] }, ?_⟩
  rw [es5]
  unfold Dev.vaultFlush
  simp only [hbox, List.foldl_nil]
  rw [hrisk]

theorem Dev.launchControls_quiet (p : Prt) : ({ d with prt := p } : Dev).launchControls = { d with prt := p } := by
  have hl : d.lnk.lanes = [] := by rw [quiet_lnk h]
  have hu : ({ d.lnk with lanes := [] } : Lnk) = d.lnk := by rw [quiet_lnk h]
  unfold Dev.launchControls Dev.unheard
  simp only [hl, List.filter_nil, List.foldl_nil, List.map_nil]
  rw [hu]

theorem State.tickWork_quiet {s : State} (hs : s.dev = d) (o : TickObs) (taken : List Nat) :
    ∃ p : Prt, s.tickWork o taken [] = { s with dev := { d with prt := p } } := by
  obtain ⟨p, hp⟩ := State.protectTick_quiet h hs
  refine ⟨p, ?_⟩
  unfold State.tickWork
  rw [State.stopEffects_quiet h hs, State.cancelDue_quiet h hs, State.secureTick_quiet h hs, State.escrowTick_quiet h hs]
  dsimp only
  rw [State.runTick_quiet h hs, State.runSettles_quiet h hs, State.admitRings_quiet h hs, hp]
  dsimp only
  rw [Dev.launchControls_quiet h]

/-! ### The whole tick -/

theorem Dev.applyKeys_quiet : d.applyKeys = d := by
  have hk : d.sec.keyOps = [] := h.2.2.2.1
  unfold Dev.applyKeys
  simp only [hk, List.filter_nil, List.append_nil, List.foldl_nil]
  rw [← hk]

theorem Dev.applyOrders_quiet (hst : d.staged = []) : d.applyOrders = d := by
  have ho : d.flt.orders = [] := by rw [quiet_flt h]
  have hi : d.tickItems = [] := by simp [Dev.tickItems, ho, hst]
  have hd : ({ d with staged := [], flt := { d.flt with orders := [] } } : Dev) = d := by rw [← hst, ← ho]
  unfold Dev.applyOrders
  rw [hi, hd]
  exact Dev.applyKeys_quiet h

end Quiet

/-- A quiet chip once its frame has ended, the frame counter has advanced, and the tick has latched its readings. -/
def Dev.quietTick (d : Dev) (o : TickObs) : Dev :=
  let d1 : Dev := { d with frm := { d.frm with debt := d.frm.debt + (if d.pwr.droop then o.stretched else 0) } }
  (d1.frameBegins.latchStretch d1.frm.debt).latchPower o d1.plannedEnergy d1.frm.started

theorem Dev.latchPower_staged (d : Dev) (o : TickObs) (planned : Nat) (ended : Bool) : (d.latchPower o planned ended).staged = d.staged := by
  cases ended <;> simp [Dev.latchPower, Dev.readSensors]

theorem Dev.quietTick_staged (d : Dev) (o : TickObs) : (d.quietTick o).staged = d.staged := by
  unfold Dev.quietTick
  rw [Dev.latchPower_staged]
  simp [Dev.latchStretch, Dev.frameBegins]

theorem State.tickOrders_quiet {s : State} {o : TickObs} {e : Dev} (he : s.dev.tickBegins o = e) (h : Quiet e) (hst : e.staged = []) :
    s.tickOrders o = ([], { s with dev := { e with frm := { e.frm with aligned := true, joining := false, offset := 0 } } }) := by
  unfold State.tickOrders
  rw [he, Dev.charterTick_quiet h, Dev.stageOn_quiet h]
  dsimp only
  rw [State.stopEntries_quiet h rfl]
  dsimp only
  rw [Dev.applyOrders_quiet h hst, Dev.linkTick_quiet h]

/-- A tick that begins quiet ends with alignment and the risk inputs of the new frame. -/
theorem State.tick_of_quiet_begin {s : State} {o : TickObs} {d e : Dev} (hf : s.tickFaults o = { s with dev := d }) (hd : Quiet d)
    (he : d.tickBegins o = e) (h : Quiet e) (hst : e.staged = []) :
    ∃ p : Prt, s.tick o = { s with dev := { e with frm := { e.frm with aligned := true, joining := false, offset := 0 }, prt := p } } := by
  have horders := State.tickOrders_quiet (s := { s with dev := d }) he h hst
  have hreset : e.flt.resetNow = false := by rw [quiet_flt h]
  have hfreed : ∀ x, freedPartners d x = [] := fun x => by simp [freedPartners, quiet_lnk hd]
  have h2 := quiet_frm h { e.frm with aligned := true, joining := false, offset := 0 }
  unfold State.tick
  rw [hf]
  dsimp only
  rw [horders]
  dsimp only
  rw [hreset, if_neg Bool.false_ne_true, hfreed]
  exact State.tickWork_quiet h2 rfl o []

/-- A tick of a quiet chip without staged writes shows in its registers what it latches. -/
theorem State.tick_quiet_reg {s : State} (h : Quiet s.dev) {o : TickObs} (hq : o.queueCheckFails = false)
    (he : 8 * o.energy ≤ 9 * s.dev.plannedEnergy) (hst : s.dev.staged = []) (r : Reg) (i : Nat) :
    (s.tick o).dev.reg r i = (s.dev.quietTick o).reg r i := by
  have hd := quiet_frm h { s.dev.frm with debt := s.dev.frm.debt + (if s.dev.pwr.droop then o.stretched else 0) }
  obtain ⟨hL, hb⟩ := Dev.tickBegins_quiet hd (o := o) he
  have hst' := (congrArg Dev.staged hL).trans ((s.dev.quietTick_staged o).trans hst)
  obtain ⟨p, hp⟩ := State.tick_of_quiet_begin (State.tickFaults_quiet h rfl hq) hd rfl hb hst'
  rw [hp]
  exact Dev.reg_congr (congrArg Dev.regs hL) r i

/-! ### The planned energy -/

/-- A quiet chip whose frame in progress has a planned energy of 2^16 units, one more than PWR.ENERGY.PLANNED can show. -/
def overPlanned : State := { dev := { frm := { started := true }, pwr := { plan := some (2 ^ 16) } } }

/-- Readings of a chip that draws nothing. -/
def noDraw : TickObs :=
  { stretched := 0, energy := 0, watts := 0, volts := 5000, meanSecond := 0, mean10 := 0, inlet := 25, temps := List.replicate 37 30
    hostBad := [], sigOk := [], queueCheckFails := false, elapsedNs := 0 }

theorem quiet_overPlanned : Quiet overPlanned.dev :=
  ⟨rfl, rfl, by decide +kernel, rfl, rfl, rfl⟩

theorem quietTick_overPlanned : (overPlanned.dev.quietTick noDraw).reg .pwrEnergy = 0 := by decide +kernel

/-- Refutes O56: planned energy of 2^16 units, which the statement does not exclude, is beyond the 16 bits of PWR.ENERGY.PLANNED, so that the
register latches 0. (A charter's plan has 16 bits, R106: a run never has such a plan. The statement wants that bound.) -/
theorem not_aQuietTickAdvancesTheFrame : ¬ Obligations.AQuietTickAdvancesTheFrame := by
  intro h
  obtain ⟨t, ht, -, -, -, -, -, -, -, -, -, -, -, -, henergy, -⟩ :=
    h overPlanned noDraw quiet_overPlanned rfl (by decide +kernel) rfl (by decide +kernel) (.inl rfl)
  have hs : overPlanned.tick noDraw = t := Host.Outcome.next.inj ht
  have hreg := State.tick_quiet_reg quiet_overPlanned (o := noDraw) rfl (by decide +kernel) rfl .pwrEnergy 0
  rw [hs, henergy rfl, quietTick_overPlanned] at hreg
  exact absurd hreg (by decide +kernel)

end Sys2Proof.Machine
end

section
/-! The mint operations. The statement takes the tracker table granule by granule, and says so of any allocation; where a tile's share of the
table is not a multiple of 64 bytes, a granule of the table lies on two tiles, and a byte of its second part lies in no granule's range. -/

namespace Sys2Proof.Machine

open Sys2Proof.Safety

/-- Numbers in blank device memory, each with its address and length in bytes. -/
def Memory.ofNumbers (l : List (Nat × Nat × Nat)) : Memory := l.foldl (fun m x => m.write x.1 (leBytes x.2.1 x.2.2)) []

/-- The word of a layout descriptor (Table 8.8): one element of 2^econt bits at element `origin` of allocation 0, without companions. -/
def oneElement (econt origin : Nat) : Nat := 2 ^ 12 * econt + 2 ^ 20 + 2 ^ 24 + 2 ^ 48 * origin + 2 ^ 88 * 64 + 2 ^ 128 * 0xFFF

/-- A charter with one forward group, of tiles 0 and 1, a plain allocation 0 on stack 0, and allocation 1 in the SRAM of the group's tiles: 192
bytes, so that each tile's share is 96 bytes. Its tensor 0 is tracked: class 1, scaled F8a. -/
def straddlingCharter : Charter :=
  { settings := 16
    groups := [1 + 2 ^ 8 + 3 * 2 ^ 128]
    allocs := [1 + 2 ^ 8 + 2 ^ 64 * 65536 + 2 ^ 128 * 0xFFFF, 1 + 2 * 2 ^ 4 + 2 ^ 64 * 192 + 2 ^ 128 * 0xFFFF]
    tensors := [2 ^ 12 + 2 ^ 48 * 0x22] }

/-- Device memory before the store: the operand table from bundle 0 with the mint descriptor (F32 to BF16, tensor 0, SCALE 2 with E 0) and
its two layouts, and the tracker table (Tables 5.10, 5.11): one tensor with one tracker, its directory at 64 and both banks at 96. -/
def straddlingMemory : Memory :=
  let table := fwdAddr 0
  .ofNumbers [(storeAddr 0, 16, 1 + 2 ^ 16 * 9 + 2 ^ 32 * 0x25 + 2 ^ 40 * 0x24 + 2 ^ 62 * 2), (storeAddr 16, 128, oneElement 5 0),
    (storeAddr 144, 128, oneElement 4 9), (table 0, 4, 0x4B54524B), (table 4, 2, 1), (table 16, 4, 1), (table 24, 8, 64), (table 32, 8, 96),
    (table 66, 1, 1), (table 67, 1, 0x22), (table 68, 4, 1), (table 72, 4, 1)]

/-- Step 1 of a run whose tracker table is allocation 1 of `straddlingCharter`. -/
def straddling : State :=
  { mem := straddlingMemory
    dev := {
      cht := { active := some straddlingCharter }
      seq := { run := some { cmd := {}, base := 0, optab := 0, n := 1, loops := [], s := 4, first := 0 }, inStep := true, waiting := false }
      mnt := { table := 1 }
      ldg := { step := 1 } } }

/-- The STAMP (Table 5.12) of the table's one tracker in the bank to be made: byte 96 + 19 of the table, byte 19 of tile 1. -/
def straddlingStamp : Nat := fwdAddr 1 19

theorem straddling_issues : straddling.dev.canIssue = true ∧ straddling.dev.frm.cycle + 1 ≤ straddling.dev.plannable := by decide +kernel

theorem straddling_mintOk : straddling.mintOk 0 false = true := by decide +kernel

theorem straddling_ends : straddling.dev.copyEnd 24 0 (straddling.mintCost 0 3) ≤ straddling.dev.plannable := by decide +kernel

theorem straddling_plain : PlainMemory straddling := by decide +kernel

theorem straddling_op : (straddling.mintOp 0).dst.comp = 0 ∧ (straddling.mintOp 0).d.stats = false := by decide +kernel

/-- The destination's one element stands on stack 0. -/
theorem straddlingStamp_outside_destination : OutsideElems straddling.dev (straddling.mintOp 0).dst straddlingStamp := by
  unfold OutsideElems OutsideBytes
  decide +kernel

/-- The granules at 0 and 64 of the table begin on tile 0, that at 128 at byte 32 of tile 1. -/
theorem straddlingStamp_outside_granules : let d := straddling.dev
    OutsideBytes d d.mnt.table 0 (d.alloc d.mnt.table).size straddlingStamp := by
  unfold OutsideBytes
  decide +kernel

theorem straddlingStamp_before : straddling.byte straddlingStamp = 0 := by decide +kernel

/-- The store keeps its statistics in the tracker's entry, under the STAMP of step 1. -/
theorem straddlingStamp_after :
    (straddling.slotAlone { target := 0x40, op := 3, arg := 0 } 1).byte straddlingStamp = 1 := by decide +kernel

/-- Refutes O44: a store into a tracked tensor writes its tracker's STAMP, a byte of the tracker table, and where a tile's share of the table
is 96 bytes that byte lies outside every granule of the table as the statement lists them. (A charter's shares in SRAM are whole granules,
check 3 of Table 8.7: no charter that has been validated has such a table. The statement wants that bound.) -/
theorem not_mintOperationsConvert : ¬ Obligations.MintOperationsConvert := by
  intro h
  obtain ⟨hissue, hspan⟩ := straddling_issues
  obtain ⟨hcomp, hstats⟩ := straddling_op
  obtain ⟨hadmitted, -, -⟩ := h straddling 0 0 1 (3, .mintStore 0 0 1) (by simp) hissue hspan
  obtain ⟨t, ht, -, -, -, -, -, -, -, -, -, -, -, hframe⟩ := hadmitted straddling_mintOk straddling_ends straddling_plain
  have hrun : straddling.slotAlone { target := 0x40, op := 3, arg := 0 } 1 = t := Host.Outcome.next.inj ht
  have hkept : t.byte straddlingStamp = straddling.byte straddlingStamp :=
    hframe straddlingStamp (.inr straddlingStamp_outside_destination) (.inl hcomp)
      (fun ⟨_, hs, _⟩ => absurd (hstats.symm.trans hs) Bool.false_ne_true) (fun _ => straddlingStamp_outside_granules)
  rw [← hrun, straddlingStamp_after, straddlingStamp_before] at hkept
  exact absurd hkept (by decide)

end Sys2Proof.Machine
end
